-- ==== Sys2Proof/Word.lean ====
section
/-! DEFINITION. The byte, the one word of bits that both links and surface memory move (conventions of 00_scope.md;
R49, R175, R180). Counts, coordinates and codes are plain naturals; their ranges are checked in WellFormed.lean. -/

namespace Sys2Proof

/-- Eight bits, as they travel on a link or stand in surface memory. -/
abbrev Byte := BitVec 8

end Sys2Proof
end

