-- ==== Sys2Proof/Syntax.lean ====
section
/-! DEFINITION. The commands: one constructor of `Instr` per row of spec/opcode_table.json, with the row's operands, and
the requests as the ports' queues hold them. -/

namespace Sys2Proof

/-- The two masters (00_scope.md): the tablet on the Dock Link, the vehicle unit on the Vehicle Line. -/
inductive Master
  | tablet
  | vehicle
deriving DecidableEq, Repr

/-- The result codes of R177. -/
inductive Result
  | ok
  | deferred
  | noSuchPane
  | notOwner
  | paneBusy
  | paneClosing
  | quota
  | noMemory
  | badKind
  | badClass
  | badValue
  | flipPending
  | notDouble
  | notEligible
  | notAllowed
  | unknown
deriving DecidableEq, Repr

/-- A window: (left, top, width, height), half-open (conventions of 00_scope.md). As an operand of the vehicle unit it
is in cell units until the port has converted it (R170). -/
structure Window where
  left : Nat
  top : Nat
  width : Nat
  height : Nat
deriving DecidableEq, Repr

/-- A rectangle of a surface, in surface coordinates (R44, R46). -/
structure Rect where
  x : Nat
  y : Nat
  w : Nat
  h : Nat
deriving DecidableEq, Repr

/-- One cell of a TEXT surface: a code and an attribute (R49, R180). -/
structure TextCell where
  code : Byte
  attr : Byte
deriving DecidableEq, Repr

/-- The operands of CLAIM (section 1.4, R178, R179). Kind and class are the codes as given, so that an undefined code
reaches step 2 of R8; `transparent` holds the value that the payload carried, if it carried one. -/
structure ClaimOps where
  kind : Nat
  cls : Nat
  acceptsKeys : Bool
  shown : Bool
  /-- The option bit "transparent value given". -/
  transparentBit : Bool
  /-- An option bit that the layout does not name is set (R175 to R176: such a bit must be 0). -/
  strayOptions : Bool
  buffers : Nat
  window : Window
  sizeX : Nat
  sizeY : Nat
  transparent : Option Nat
deriving DecidableEq, Repr

/-- A request as a port's queue holds it: the packet's or frame's content by R178 and R179. `refused` is a packet or
frame that R158 step 3 or R170 steps 1 and 2 answer by themselves, with the code it echoes and its result. -/
inductive Request
  | refused (code : Nat) (result : Result)
  | hello (grace : Nat)
  | claim (ops : ClaimOps)
  | release (pane : Nat)
  | move (pane : Nat) (window : Window)
  | scroll (pane x y : Nat)
  | raise (pane : Nat)
  | lower (pane : Nat)
  | showPane (pane : Nat)
  | hidePane (pane : Nat)
  | flip (pane : Nat)
  | focus (pane : Nat)
  | keyAck
  | repeatSet (enabled delay period : Nat)
  | writeBegin (pane buffer : Nat) (rect : Rect)
  | fillRect (pane buffer : Nat) (rect : Rect) (colour : Nat)
  | textPut (pane buffer row column : Nat) (cells : List TextCell)
  | textData (pane buffer row column : Nat) (attr : Byte) (codes : List Byte)
  | textClear (pane buffer : Nat)
  | inputAck (input : Nat)
  | inputMode (input mode sense time : Nat)
  | queryInputs (input : Option Nat)
  | lineSet (line direction latch : Nat)
  | queryLines
  | queryLight (page : Option Nat)
  | darkCab (setting : Nat)
  | parkDelay (delay : Nat)
  | wake
  | scanSet (press release : Nat)
  | restart (units : Nat)
deriving DecidableEq, Repr

/-- A frame on the Vehicle Line as the CAN controller delivers it (R169). -/
structure CanFrame where
  id : Nat
  remote : Bool
  data : List Byte
deriving DecidableEq, Repr

/-- The levels of the five discrete input pins at one sample, true for HIGH (R145, R146). -/
structure InputLevels where
  bay : Bool
  ignition : Bool
  lock : Bool
  aux0 : Bool
  aux1 : Bool
deriving DecidableEq, Repr

/-- The three sources of the text writer (R50). -/
inductive WriteSource
  | tablet
  | vehicle
  | statusRow
deriving DecidableEq, Repr

/-- The commands of spec/opcode_table.json, in the table's order. A command that names a request is the step in which
that master's port TAKES it (R165, R170); a command that names an event is that event. -/
inductive Instr
  /-- FULL_RESET: the RESET pin or the supervisor holds the part in full reset (R54). -/
  | fullReset
  /-- RESET_RELEASE, with the strap pins and the input pins as read at the release (R31, R146, R169). -/
  | resetRelease (ids1 ids0 : Bool) (pins : InputLevels)
  /-- DOCK_LINK_PACKET_RECEIVED: the bytes between the start and end marks of one packet (R158, R175). -/
  | dockLinkPacketReceived (bytes : List Byte)
  /-- KEEPALIVE: a well-formed KEEPALIVE packet arrives (R158). -/
  | keepalive
  /-- WRITE_DATA: a well-formed WRITE DATA packet arrives (R166). -/
  | writeData (offset : Nat) (data : List Byte)
  /-- REFUSED_PACKET: a queued refused request is taken (R158 step 3, R170). -/
  | refusedPacket (who : Master) (code : Nat) (result : Result)
  /-- HELLO: arrives in ATTACHING or HOLD, or is taken from the queue in UP (R159, R160). -/
  | hello (grace : Nat)
  | claim (who : Master) (ops : ClaimOps)
  | release (who : Master) (pane : Nat)
  | move (who : Master) (pane : Nat) (window : Window)
  | scroll (who : Master) (pane x y : Nat)
  | raise (who : Master) (pane : Nat)
  | lower (who : Master) (pane : Nat)
  | showPane (who : Master) (pane : Nat)
  | hidePane (who : Master) (pane : Nat)
  | flip (who : Master) (pane : Nat)
  | focus (who : Master) (pane : Nat)
  | keyAck (who : Master)
  | repeatSet (who : Master) (enabled delay period : Nat)
  | writeBegin (pane buffer : Nat) (rect : Rect)
  | fillRect (pane buffer : Nat) (rect : Rect) (colour : Nat)
  /-- TEXT_PUT: a TEXT PUT packet of the tablet is taken (R47). -/
  | textPut (pane buffer row column : Nat) (cells : List TextCell)
  /-- TEXT_DATA_FRAME: a text data frame of the vehicle unit is taken (R171). -/
  | textDataFrame (pane buffer row column : Nat) (attr : Byte) (codes : List Byte)
  | textClear (who : Master) (pane buffer : Nat)
  | inputAck (who : Master) (input : Nat)
  | inputMode (who : Master) (input mode sense time : Nat)
  /-- QUERY_INPUTS: the vehicle unit names one input (R179), the tablet none. -/
  | queryInputs (who : Master) (input : Option Nat)
  | lineSet (who : Master) (line direction latch : Nat)
  /-- QUERY_LINES, with the levels on the eight pins as they are read, bit n for line n (R155). -/
  | queryLines (who : Master) (pins : BitVec 8)
  /-- QUERY_LIGHT: the vehicle unit names one page (R179), the tablet none. -/
  | queryLight (who : Master) (page : Option Nat)
  | darkCab (who : Master) (setting : Nat)
  | parkDelay (who : Master) (delay : Nat)
  | wake (who : Master)
  | scanSet (who : Master) (press release : Nat)
  /-- RESTART_DOCK_LINK: the DOCK_LINK unit of a RESTART with this set of units (R164, R174). -/
  | restartDockLink (who : Master) (units : Nat)
  /-- RESTART_SCANNER: the SCANNER unit of a RESTART with this set of units (R80, R174). -/
  | restartScanner (who : Master) (units : Nat)
  /-- RESTART_CONVERTER: the CONVERTER unit of a RESTART with this set of units (R138, R174). -/
  | restartConverter (who : Master) (units : Nat)
  | vehicleFrameReceived (frame : CanFrame)
  | vehicleSilenceExpiry
  | vehicleFrameSent
  | dockPacketSent
  | sendTimerExpiry
  | silenceTimerExpiry
  | graceTimerExpiry
  | drainComplete
  | fillCompletion
  | frameBoundary
  /-- SCAN_EVENT, with the 128 raw readings, bit c set for key code c read DOWN (R69). -/
  | scanEvent (raw : BitVec 128)
  /-- CAPTURE_SCAN, with the 128 raw readings (R79). -/
  | captureScan (raw : BitVec 128)
  /-- WAKE_SAMPLE, with the 16 sense lines, bit s set for an active line s (R77). -/
  | wakeSample (senses : BitVec 16)
  | repeatExpiry
  /-- INPUT_SAMPLE: the 1 ms sample of the five input pins (R146). -/
  | inputSample (pins : InputLevels)
  | countdownExpiry
  | converterScanStart
  /-- SCAN_COMPLETION, with the three converted values (R126, R127). -/
  | scanCompletion (ambient supply panelTemp : Nat)
  | linkLedToggle
  /-- MEMORY_WRITES_COMPLETE, with the source whose writes have finished (R42). -/
  | memoryWritesComplete (source : WriteSource)
deriving DecidableEq, Repr

end Sys2Proof
end

