-- ==== Sys2Proof/Config.lean ====
section
/-! DEFINITION. What the spec leaves open and the part fixes: constants WITHOUT a body, so that no proof can see their
values, and the sizes and limits that the spec prints as numbers. -/

namespace Sys2Proof

/-- FREE VALUE (notes/assumptions/3.md). How far work that was cut off had got: `Config.progress n` answers the `n`-th
question of this kind (R40, R43: "bytes already written keep their values"). The user takes it modulo the bound the
spec gives. -/
opaque Config.progress : Nat → Nat

/-- FREE VALUE (notes/assumptions/3.md). Whether the byte at an address had landed when a write was cut off, for the
`n`-th such question; R43 gives no order of the bytes of one write. -/
opaque Config.landed : Nat → Nat → Bool

/-- FREE VALUE (notes/assumptions/4.md). The dots of the glyphs that R63 leaves to the maker's glyph data: code, glyph
column, glyph row. R63's limits are applied around it. -/
opaque Config.glyphDot : Nat → Nat → Nat → Bool

/-- FREE VALUE (notes/assumptions/5.md). The code byte that the reply to an empty request frame echoes: the frame has
no byte 0 (R170, R179). -/
opaque Config.emptyFrameEcho : Nat

/-- Bytes of surface memory: 512 blocks of 4,096 bytes (R32). -/
def memoryBytes : Nat := 2097152

/-- Bytes of one block (R32). -/
def blockBytes : Nat := 4096

/-- Screen width in pixels (R52, R178). -/
def screenWidth : Nat := 800

/-- Screen height in pixels (R52, R178). -/
def screenHeight : Nat := 480

/-- Line periods of vertical blanking at the start of a frame (R52). -/
def blankingLines : Nat := 45

/-- Line periods of a frame (R52). -/
def frameLines : Nat := 525

/-- First byte of the status row's cells: block 480 (section 1.9). -/
def statusRowBase : Nat := 1966080

/-- Entries of the held-key table (R90). -/
def heldKeyLimit : Nat := 10

/-- A DOWN finds no place at this queue length (R94 step 2). -/
def downThreshold : Nat := 22

/-- A REPEAT finds no place at this queue length (R101). -/
def repeatThreshold : Nat := 16

/-- Packets the Dock Link's outbound queue holds (R163). -/
def dockOutboundLimit : Nat := 32

/-- Packets the Dock Link's request queue holds (R165). -/
def dockRequestLimit : Nat := 8

/-- Frames the Vehicle Line's outbound queue holds (R173). -/
def vehicleOutboundLimit : Nat := 16

/-- Frames the Vehicle Line's request queue holds (R169). -/
def vehicleRequestLimit : Nat := 4

/-- The Dock Link silence timer in ms (R157). -/
def dockSilenceMs : Nat := 20

/-- The Dock Link send timer in ms (R157). -/
def dockSendMs : Nat := 5

/-- The Vehicle Line silence timer in ms (R172). -/
def vehicleSilenceMs : Nat := 1000

/-- From the start of a converter scan to the next, in ms, while the park record is not PARKED (R126). -/
def scanPeriodMs : Nat := 10

/-- From the start of a converter scan to the next, in ms, while the park record is PARKED (R126). -/
def parkedScanPeriodMs : Nat := 1000

/-- The LINK LED toggle timer in ms (R153). -/
def ledToggleMs : Nat := 250

end Sys2Proof
end

