-- ==== Sys2Proof/Machine/Memory.lean ====
section
/-! DEFINITION. The bytes of surface memory (R32): a list of (address, byte) pairs in one canonical form, its read and its
one write operation. -/

namespace Sys2Proof.Machine

/-- What an address that is not listed reads as. The contents after a full reset are "not initialised" (R51);
DESIGN CHOICE, unsafe: 0 (notes/assumptions/2.md). -/
def Memory.unlisted : Byte := 0

/-- The byte at an address. -/
def Memory.read : List Host.Cell → Nat → Byte
  | [], _ => Memory.unlisted
  | (k, v) :: rest, a => if k = a then v else Memory.read rest a

/-- The listed form of `len` bytes from `base`: an address of the memory whose byte is not what an unlisted one reads
as. -/
def Memory.window (f : Nat → Byte) (base len : Nat) : List Host.Cell :=
  (List.range' base len).filterMap fun a =>
    if a < memoryBytes ∧ f a ≠ Memory.unlisted then some (a, f a) else none

/-- The one write operation: each address of the `len` bytes from `base` for which `f` gives a byte holds that byte
afterwards, every other address keeps its byte, and an address outside the memory (R32) is not written. -/
def Memory.update (m : List Host.Cell) (base len : Nat) (f : Nat → Option Byte) : List Host.Cell :=
  m.filter (fun c => c.1 < base)
    ++ Memory.window (fun a => (f a).getD (Memory.read m a)) base len
    ++ m.filter (fun c => base + len ≤ c.1)

/-- The bytes from `base` lie in the memory (R32). -/
def Memory.covers (base len : Nat) : Bool := base + len ≤ memoryBytes

/-- The canonical form: addresses strictly rising, inside the memory, and no entry equal to what an unlisted address
reads as. -/
abbrev Memory.wf (m : List Host.Cell) : Prop :=
  m.Pairwise (fun c d => c.1 < d.1) ∧ ∀ c ∈ m, c.1 < memoryBytes ∧ c.2 ≠ Memory.unlisted

end Sys2Proof.Machine
end

