-- ==== Sys2Proof/Machine/Types.lean ====
section
/-! DEFINITION. The state of each block of the part, as plain data, in the order of the spec's chapters, and the
messages that leave on the two links. -/

namespace Sys2Proof.Machine

/-! ### Owners, panes and the layout (chapter 1) -/

/-- The three owners (00_scope.md); `part` is LOCAL. -/
inductive Owner
  | tablet
  | vehicle
  | part
deriving DecidableEq, Repr

/-- The kinds of R1. -/
inductive PaneKind
  | pixel
  | text
deriving DecidableEq, Repr

/-- The classes of R1. -/
inductive PaneClass
  | normal
  | alert
deriving DecidableEq, Repr

/-- The life-cycle states of R1 other than FREE; a FREE record is an absent `Pane`. -/
inductive PanePhase
  | preparing
  | ready
  | live
  | closing
deriving DecidableEq, Repr

/-- A scroll offset (R1, R14). -/
structure Scroll where
  x : Nat
  y : Nat
deriving DecidableEq, Repr

/-- A run of memory blocks: start block and length (R1, R33). -/
structure Run where
  start : Nat
  length : Nat
deriving DecidableEq, Repr

/-- The pending part of a record (R12): up to four optional items; the part is absent when all are. -/
structure PendingPart where
  window : Option Window
  scroll : Option Scroll
  visible : Option Bool
  flip : Bool
deriving DecidableEq, Repr

/-- No pending part. -/
def PendingPart.absent : PendingPart := { window := none, scroll := none, visible := none, flip := false }

/-- The fields of a pane record that is not FREE (R1). `sizeX` and `sizeY` are W_s and H_s in pixels for PIXEL, cols and
rows for TEXT; `visible` is true for shown. -/
structure Pane where
  phase : PanePhase
  owner : Owner
  kind : PaneKind
  cls : PaneClass
  acceptsKeys : Bool
  window : Window
  sizeX : Nat
  sizeY : Nat
  buffers : Nat
  front : Nat
  run : Run
  scroll : Scroll
  transparent : Option Nat
  visible : Bool
  staged : PendingPart
deriving DecidableEq, Repr

/-- What the Layout Controller holds (section 1.1): the pane table (`none` is a FREE record), the two stacking orders top
first, the ready list oldest first, and the frame counter. -/
structure Layout where
  panes : List (Option Pane)
  current : List Nat
  nextOrder : List Nat
  ready : List Nat
  frame : BitVec 16
deriving DecidableEq, Repr

/-! ### The Surface Allocator and Surface Memory (chapter 2) -/

/-- The three allocation lists (R33), each in ascending order of start block. -/
structure Allocator where
  tablet : List Run
  vehicle : List Run
  part : List Run
deriving DecidableEq, Repr

/-- The fill patterns of R38. -/
inductive FillPattern
  | zero
  | blank
deriving DecidableEq, Repr

/-- An entry of the fill list (R38). `bytesDone` is the model's own field: the bytes that single accesses (R50) have
written of the block after those done, in ascending address (notes/assumptions/22.md, 43.md). -/
structure FillEntry where
  pane : Nat
  run : Run
  pattern : FillPattern
  blocksDone : Nat
  bytesDone : Nat
deriving DecidableEq, Repr

/-- An accepted write whose memory writes are under way (R42, R46 to R48). -/
inductive WriteJob
  | fillRect (pane buffer : Nat) (rect : Rect) (colour : Nat)
  | textPut (pane buffer row column : Nat) (cells : List TextCell)
  | textClear (pane buffer : Nat)
deriving DecidableEq, Repr

/-- A write under way with the bytes that single accesses (R50) have written of it, counted in the order in which it writes
them (DESIGN CHOICE: notes/assumptions/43.md); the count is the model's own field (notes/assumptions/22.md). -/
structure ActiveWrite where
  job : WriteJob
  done : Nat
deriving DecidableEq, Repr

/-- A status row write that the Layout Controller has issued (R28, R47): a start column and its cells. The cells that
single accesses (R50) have written leave it, the first ones first (notes/assumptions/22.md, 43.md). -/
structure RowWrite where
  column : Nat
  cells : List TextCell
deriving DecidableEq, Repr

/-- The clients of the main cycle of the memory arbiter (R50). -/
inductive ArbiterClient
  | fill
  | drain
  | text
deriving DecidableEq, Repr

/-- What Surface Memory holds (R32, R38, R42, R50): the bytes (Memory.lean gives the form), the fill list, the writes
under way, and the two turns of the arbiter. -/
structure SurfaceMemory where
  cells : List Host.Cell
  fills : List FillEntry
  tabletWrite : Option ActiveWrite
  vehicleWrite : Option ActiveWrite
  rowWrites : List RowWrite
  turn : ArbiterClient
  textTurn : WriteSource
deriving DecidableEq, Repr

/-! ### The Scan-out Unit (chapter 3) -/

/-- The panel output state (section 3.1). -/
inductive PanelState
  | on
  | off
  | resuming
deriving DecidableEq, Repr

/-- What the Scan-out Unit holds (section 3.1). `line` counts line periods from the start of the frame, blanking first. -/
structure ScanOut where
  running : Bool
  line : Nat
  column : Nat
  panel : PanelState
deriving DecidableEq, Repr

/-! ### The Matrix Scanner (chapter 4) -/

/-- The scanner modes of R71. -/
inductive ScanMode
  | scanning
  | capture
  | wakeDetect
deriving DecidableEq, Repr

/-- The debounce states of R71. -/
inductive Debounce
  | stableUp
  | pressPending
  | stableDown
  | releasePending
deriving DecidableEq, Repr

/-- A position record (R71). -/
structure Position where
  state : Debounce
  count : Nat
deriving DecidableEq, Repr

/-- What the Matrix Scanner holds (R71); `positions` has one record for each key code 0 to 127. -/
structure Scanner where
  mode : ScanMode
  positions : List Position
  pressCount : Nat
  releaseCount : Nat
  wakeLatch : Bool
  quietSeen : Bool
deriving DecidableEq, Repr

/-! ### The Key Router (chapter 5) -/

/-- The kinds of a key event (R83). -/
inductive KeyKind
  | down
  | up
  | repeated
deriving DecidableEq, Repr

/-- A key event (R83). -/
structure KeyEvent where
  code : Nat
  kind : KeyKind
  delta : Nat
deriving DecidableEq, Repr

/-- An entry of the held-key table (R90); target `none` is NONE, `some .part` is LOCAL. -/
structure HeldKey where
  code : Nat
  target : Option Owner
  time : Nat
deriving DecidableEq, Repr

/-- A report gate (R83). -/
inductive Gate
  | opened
  | waiting
deriving DecidableEq, Repr

/-- What the Key Router holds once for each master (R83). -/
structure KeyChannel where
  queue : List KeyEvent
  lastEntry : Option Nat
  gate : Gate
  enabled : Bool
  delay : Nat
  period : Nat
deriving DecidableEq, Repr

/-- The repeat key (R83, R101). -/
structure RepeatKey where
  code : Nat
  target : Master
  next : Nat
deriving DecidableEq, Repr

/-- What the Key Router holds (R83); focus `none` is NONE, `hold` is true for ACTIVE. -/
structure Router where
  focus : Option Nat
  hold : Bool
  held : List HeldKey
  tablet : KeyChannel
  vehicle : KeyChannel
  repeatKey : Option RepeatKey
deriving DecidableEq, Repr

/-! ### The Alert Controller (chapter 6) -/

/-- What the Alert Controller holds (R111): the stack newest first, the saved focus, and the unreported acknowledgements
oldest first. -/
structure Alerts where
  stack : List Nat
  saved : Option Nat
  unreported : List Nat
deriving DecidableEq, Repr

/-! ### The Light and Supply Monitor and the Park Controller (chapter 7) -/

/-- What the Light and Supply Monitor holds (R125). A result record is absent or a count; `low` is supply state LOW,
`hot` temperature state HOT, `offset` is k, `converting` the scan state CONVERTING and `scanStart` the ms count at the
start of the latest scan. -/
structure Light where
  ambient : Option Nat
  supply : Option Nat
  panelTemp : Option Nat
  filter : Nat
  low : Bool
  lowCount : Nat
  recoverCount : Nat
  hot : Bool
  offset : Int
  darkCab : Bool
  hold : Bool
  parked : Bool
  target : Nat
  applied : Nat
  jump : Bool
  converting : Bool
  scanStart : Nat
deriving DecidableEq, Repr

/-- The park states of R140. -/
inductive ParkState
  | run
  | parkPending
  | parked
deriving DecidableEq, Repr

/-- What the Park Controller holds (R140); the countdown in ms, the park delay in s. -/
structure Park where
  state : ParkState
  countdown : Option Nat
  countdownLength : Nat
  delay : Nat
deriving DecidableEq, Repr

/-! ### The Input Block and the Line Block (chapter 8) -/

/-- The senses of EDGE mode (R145). -/
inductive Sense
  | rising
  | falling
  | both
deriving DecidableEq, Repr

/-- The mode of an input (R145); the active level of LEVEL is true for HIGH. -/
inductive InputMode
  | edge (sense : Sense)
  | level (active : Bool)
deriving DecidableEq, Repr

/-- What the Input Block holds for one input (R145); levels are true for HIGH. -/
structure DiscreteInput where
  qualified : Bool
  changeCount : Nat
  latest : Bool
  qualTime : Nat
  interval : Nat
  mode : InputMode
  tabletFlag : Bool
  vehicleFlag : Bool
  tabletAck : Bool
  vehicleAck : Bool
deriving DecidableEq, Repr

/-- What the Line Block holds for one line (R152): direction OUT and latch. -/
structure IndicatorLine where
  out : Bool
  latch : Bool
deriving DecidableEq, Repr

/-- What the Line Block holds (R152, R153): the eight lines, and the ms count at which the LINK LED timer expires while
it runs. -/
structure LineBlock where
  lines : List IndicatorLine
  ledTimer : Option Nat
deriving DecidableEq, Repr

/-! ### Messages to the masters (chapter 11) -/

/-- The results of WRITE DONE (R178). -/
inductive WriteResult
  | complete
  | damaged
  | incomplete
  | paneGone
deriving DecidableEq, Repr

/-- The notices with their values (R178). -/
inductive Notice
  | paneLive (pane frame : Nat)
  | flipDone (pane front frame : Nat)
  | writeDone (pane buffer : Nat) (result : WriteResult) (missing : Nat)
  | focusGained (pane : Nat)
  | focusLost (pane : Nat)
  | alertAcknowledged (pane : Nat)
  | inputChange (input : Nat) (level : Bool) (interval : Nat)
  | supplyChange (low hot : Bool) (supply panelTemp : Nat)
  | tabletState (attached : Bool)
deriving DecidableEq, Repr

/-- A packet or frame waiting in an outbound queue; a reply's values are the bytes after byte 1 (R177 to R179). -/
inductive Message
  | reply (code : Nat) (result : Result) (values : List Byte)
  | keepalive
  | keyReport (events : List KeyEvent)
  | notice (n : Notice)
deriving DecidableEq, Repr

/-! ### The Dock Link Port (chapter 9) -/

/-- The link states of R157. -/
inductive LinkState
  | absent
  | attaching
  | up
  | hold
deriving DecidableEq, Repr

/-- A receive buffer (R157): a FILLED or DRAINING buffer holds a start offset and its stream bytes. The bytes that single
accesses (R50) have written leave a DRAINING one (notes/assumptions/21.md). -/
inductive RxBuffer
  | empty
  | filled (start : Nat) (bytes : List Byte)
  | draining (start : Nat) (bytes : List Byte)
deriving DecidableEq, Repr

/-- The name of a receive buffer. -/
inductive BufferName
  | a
  | b
deriving DecidableEq, Repr

/-- The write stream record (R157, R167). -/
structure Stream where
  pane : Nat
  buffer : Nat
  rect : Rect
  total : Nat
  nextExpected : Nat
  received : Nat
  missing : Nat
  ended : Bool
deriving DecidableEq, Repr

/-- What the Dock Link Port holds (R157). A timer is `none` when stopped, else the ms count at which it expires.
RXRDY is a function of these (Outputs.lean). -/
structure DockPort where
  link : LinkState
  grace : Nat
  silence : Option Nat
  graceTimer : Option Nat
  send : Option Nat
  requests : List Request
  outbound : List Message
  bufferA : RxBuffer
  bufferB : RxBuffer
  nextBuffer : BufferName
  stream : Option Stream
deriving DecidableEq, Repr

/-! ### The Vehicle Line Port (chapter 10) -/

/-- What the Vehicle Line Port holds (R169, R172, R173). `restartDone` is the set of units, as RESTART's bits, that the
RESTART at the head of the request queue has had restarted (R174). -/
structure VehiclePort where
  base : Nat
  present : Bool
  silence : Option Nat
  requests : List Request
  outbound : List Message
  restartDone : Nat
deriving DecidableEq, Repr

end Sys2Proof.Machine
end

