-- ==== Sys2Proof/Machine/StatusText.lean ====
section
/-! DEFINITION. The status row's fields: their columns, their texts and attributes (R26, R27). -/

namespace Sys2Proof.Machine

/-- The seven fields of R27. -/
inductive RowField
  | tab
  | veh
  | pwr
  | temp
  | keys
  | alert
  | brt
deriving DecidableEq, Repr

/-- First column of a field's span (R27). -/
def RowField.start : RowField → Nat
  | .tab => 0
  | .veh => 13
  | .pwr => 24
  | .temp => 35
  | .keys => 44
  | .alert => 57
  | .brt => 66

/-- Columns of a field's span (R27). -/
def RowField.width : RowField → Nat
  | .tab => 12
  | .veh => 10
  | .pwr => 10
  | .temp => 8
  | .keys => 12
  | .alert => 8
  | .brt => 10

/-- What a field shows: the codes of its text and its attribute. -/
structure RowText where
  codes : List Byte
  attr : Byte
deriving DecidableEq, Repr

/-- White on black (R27). -/
def normalAttr : Byte := 0x0F

/-- Black on amber (R27). -/
def warningAttr : Byte := 0xE0

/-- The codes of a printable text. -/
def codesOf (text : List Char) : List Byte := text.map fun c => BitVec.ofNat 8 c.toNat

/-- TAB field (R27). -/
def tabText : LinkState → RowText
  | .up => { codes := codesOf ['T', 'A', 'B', ' ', 'U', 'P'], attr := normalAttr }
  | .hold => { codes := codesOf ['T', 'A', 'B', ' ', 'H', 'O', 'L', 'D'], attr := warningAttr }
  | .attaching => { codes := codesOf ['T', 'A', 'B', ' ', 'W', 'A', 'I', 'T'], attr := warningAttr }
  | .absent => { codes := codesOf ['T', 'A', 'B', ' ', 'N', 'O', 'N', 'E'], attr := warningAttr }

/-- VEH field (R27). -/
def vehText (present : Bool) : RowText :=
  if present then { codes := codesOf ['V', 'E', 'H', ' ', 'O', 'K'], attr := normalAttr }
  else { codes := codesOf ['V', 'E', 'H', ' ', 'L', 'O', 'S', 'T'], attr := warningAttr }

/-- PWR field (R27). -/
def pwrText (low : Bool) : RowText :=
  if low then { codes := codesOf ['P', 'W', 'R', ' ', 'L', 'O', 'W'], attr := warningAttr }
  else { codes := codesOf ['P', 'W', 'R', ' ', 'O', 'K'], attr := normalAttr }

/-- TEMP field (R27). -/
def tempText (hot : Bool) : RowText :=
  if hot then { codes := codesOf ['T', 'E', 'M', 'P', ' ', 'H', 'I'], attr := warningAttr }
  else { codes := codesOf ['T', 'E', 'M', 'P', ' ', 'O', 'K'], attr := normalAttr }

/-- KEYS field, from the owner of the focused pane (R27). The part's own pane never holds the focus (R84). -/
def keysText : Option Owner → RowText
  | some .tablet => { codes := codesOf ['K', 'E', 'Y', 'S', ' ', 'T', 'A', 'B'], attr := normalAttr }
  | some .vehicle => { codes := codesOf ['K', 'E', 'Y', 'S', ' ', 'V', 'E', 'H'], attr := normalAttr }
  | _ => { codes := codesOf ['K', 'E', 'Y', 'S', ' ', 'N', 'O', 'N', 'E'], attr := normalAttr }

/-- ALERT field, from the size of the alert stack (R27). -/
def alertText (n : Nat) : RowText :=
  if n = 0 then { codes := [], attr := normalAttr }
  else { codes := codesOf ['A', 'L', 'E', 'R', 'T', ' '] ++ [BitVec.ofNat 8 (0x30 + n)], attr := warningAttr }

/-- BRT field, from the brightness offset k (R27). -/
def brtText (k : Int) : RowText :=
  { codes := codesOf ['B', 'R', 'T', ' ']
      ++ (if k = 0 then [] else if 0 < k then codesOf ['+'] else codesOf ['-'])
      ++ [BitVec.ofNat 8 (0x30 + k.natAbs)]
    attr := normalAttr }

/-- The cells of a whole span: the text padded with code 0x20, every cell with the field's attribute (R27). -/
def RowText.cells (t : RowText) (width : Nat) : List TextCell :=
  (t.codes ++ List.replicate (width - t.codes.length) 0x20).map fun c => { code := c, attr := t.attr }

/-- The blank cell (R26). -/
def blankCell : TextCell := { code := 0x20, attr := 0x0F }

/-- The 100 cells of the status row with each field at the text given for it (R26). -/
def rowCells (text : RowField → RowText) : List TextCell :=
  let span (f : RowField) := (text f).cells f.width
  span .tab ++ [blankCell] ++ span .veh ++ [blankCell] ++ span .pwr ++ [blankCell] ++ span .temp ++ [blankCell]
    ++ span .keys ++ [blankCell] ++ span .alert ++ [blankCell] ++ span .brt ++ List.replicate 24 blankCell

/-- The status row right after a full reset: the link by the initial BAY level, every other item at its reset value
(R31). -/
def resetRowText (link : LinkState) : RowField → RowText
  | .tab => tabText link
  | .veh => vehText false
  | .pwr => pwrText false
  | .temp => tempText false
  | .keys => keysText none
  | .alert => alertText 0
  | .brt => brtText 0

end Sys2Proof.Machine
end

