-- ==== Sys2Proof/Machine/ResetValues.lean ====
section
/-! DEFINITION. Each block's state after full reset (R31, R51, R54, R71, R83, R111, R125, R140, R145, R152, R157, R169,
R172, R173), as a function of the pins where the spec makes it one. -/

namespace Sys2Proof.Machine

/-- The status row pane (R2, R31). -/
def statusPane : Pane :=
  { phase := .live, owner := .part, kind := .text, cls := .normal, acceptsKeys := false
    window := { left := 0, top := 464, width := 800, height := 16 }
    sizeX := 100, sizeY := 1, buffers := 1, front := 0
    run := { start := 480, length := 1 }
    scroll := { x := 0, y := 0 }, transparent := none, visible := true, staged := PendingPart.absent }

/-- The Layout Controller after full reset (R31). -/
def Layout.afterReset : Layout :=
  { panes := some statusPane :: List.replicate 7 none, current := [0], nextOrder := [0], ready := [], frame := 0 }

/-- The allocation lists after full reset (R51). -/
def Allocator.afterReset : Allocator := { tablet := [], vehicle := [], part := [{ start := 480, length := 1 }] }

/-- One of the two bytes of a cell: the code at the lower address (R49). -/
def cellByte (cells : List TextCell) (k : Nat) : Byte :=
  match cells[k / 2]? with
  | some c => if k % 2 = 0 then c.code else c.attr
  | none => 0

/-- Consecutive cells written from an address (R47, R49). -/
def putCells (m : List Host.Cell) (base : Nat) (cells : List TextCell) : List Host.Cell :=
  Memory.update m base (2 * cells.length) fun a => some (cellByte cells (a - base))

/-- The memory with the status row filled and written after full reset (R26, R31); every other byte as it stood. -/
def writeResetRow (m : List Host.Cell) (link : LinkState) : List Host.Cell :=
  putCells m statusRowBase (rowCells (resetRowText link))

/-- Surface Memory after full reset over the bytes given (R38, R50, R51). -/
def SurfaceMemory.afterReset (cells : List Host.Cell) : SurfaceMemory :=
  { cells := cells, fills := [], tabletWrite := none, vehicleWrite := none, rowWrites := []
    turn := .fill, textTurn := .tablet }

/-- The Scan-out Unit while held in full reset (R54, R68). -/
def ScanOut.held : ScanOut := { running := false, line := 0, column := 0, panel := .off }

/-- The Scan-out Unit at the release of full reset (R54). -/
def ScanOut.released : ScanOut := { running := true, line := 0, column := 0, panel := .resuming }

/-- A position after full reset, and after R76 and R80. -/
def Position.up : Position := { state := .stableUp, count := 0 }

/-- Every position STABLE_UP with count 0 (R71, R76, R80). -/
def allUp : List Position := List.replicate 128 Position.up

/-- The Matrix Scanner after full reset (R71). -/
def Scanner.afterReset : Scanner :=
  { mode := .scanning, positions := allUp, pressCount := 5, releaseCount := 8, wakeLatch := false, quietSeen := false }

/-- A master's part of the Key Router after full reset (R83). -/
def KeyChannel.afterReset : KeyChannel :=
  { queue := [], lastEntry := none, gate := .opened, enabled := true, delay := 500, period := 100 }

/-- The Key Router after full reset (R83). -/
def Router.afterReset : Router :=
  { focus := none, hold := false, held := [], tablet := KeyChannel.afterReset, vehicle := KeyChannel.afterReset
    repeatKey := none }

/-- The Alert Controller after full reset (R111). -/
def Alerts.afterReset : Alerts := { stack := [], saved := none, unreported := [] }

/-- The Light and Supply Monitor after full reset (R125), with the scan state given: the first scan begins at the
release (R126). -/
def Light.afterReset (converting : Bool) : Light :=
  { ambient := none, supply := none, panelTemp := none, filter := 8192, low := false, lowCount := 0, recoverCount := 0
    hot := false, offset := 0, darkCab := false, hold := false, parked := false, target := 0, applied := 0
    jump := false, converting := converting, scanStart := 0 }

/-- The Park Controller after full reset, from the level IGNITION holds at the release (R140). The countdown length in
RUN has no stated value: DESIGN CHOICE 30,000 (notes/assumptions/7.md). -/
def Park.afterReset (ignition : Bool) : Park :=
  { state := if ignition then .run else .parkPending
    countdown := if ignition then none else some 30000
    countdownLength := 30000
    delay := 30 }

/-- The fixed or default qualification time of an input in ms (R145). -/
def resetQualTime : Nat → Nat
  | 0 => 10
  | 1 => 50
  | 2 => 20
  | _ => 10

/-- An input after full reset, from its first sample (R145, R146). -/
def DiscreteInput.afterReset (number : Nat) (level : Bool) : DiscreteInput :=
  { qualified := level, changeCount := 0, latest := level, qualTime := resetQualTime number, interval := 65535
    mode := .edge .both, tabletFlag := false, vehicleFlag := false, tabletAck := false, vehicleAck := false }

/-- The five pin levels in the order of the input numbers (R145). -/
def pinList (p : InputLevels) : List Bool := [p.bay, p.ignition, p.lock, p.aux0, p.aux1]

/-- The Input Block after full reset (R145, R146). -/
def inputsAfterReset (p : InputLevels) : List DiscreteInput :=
  [DiscreteInput.afterReset 0 p.bay, DiscreteInput.afterReset 1 p.ignition, DiscreteInput.afterReset 2 p.lock,
    DiscreteInput.afterReset 3 p.aux0, DiscreteInput.afterReset 4 p.aux1]

/-- The link state at the release of full reset (R157). -/
def linkAfterReset (bay : Bool) : LinkState := if bay then .attaching else .absent

/-- The Line Block after full reset (R152, R153, R156). -/
def LineBlock.afterReset (link : LinkState) : LineBlock :=
  let general : IndicatorLine := { out := false, latch := false }
  let led : IndicatorLine := { out := true, latch := link == .attaching }
  { lines := [general, general, general, { out := true, latch := false }, led, general, general, general]
    ledTimer := if link = .attaching then some ledToggleMs else none }

/-- The Dock Link Port after full reset (R157). -/
def DockPort.afterReset (link : LinkState) : DockPort :=
  { link := link, grace := 300, silence := none, graceTimer := none, send := none, requests := [], outbound := []
    bufferA := .empty, bufferB := .empty, nextBuffer := .a, stream := none }

/-- The identifier base that the strap pins IDS1 and IDS0 select (R169). -/
def identifierBase : Bool → Bool → Nat
  | false, false => 0x640
  | false, true => 0x650
  | true, false => 0x660
  | true, true => 0x670

/-- The Vehicle Line Port after full reset (R169, R172, R173). -/
def VehiclePort.afterReset (base : Nat) : VehiclePort :=
  { base := base, present := false, silence := none, requests := [], outbound := [], restartDone := 0 }

end Sys2Proof.Machine
end

