-- ==== Sys2Proof/Machine/State.lean ====
section
/-! DEFINITION. The state of the whole part as plain data, one field per block, and its value right after reset. -/

namespace Sys2Proof.Machine

/-- Why the machine stops with a fault. -/
inductive Fault
  /-- Raised by the commands that land bytes in surface memory (FILL_COMPLETION, DRAIN_COMPLETE,
  MEMORY_WRITES_COMPLETE) when the pane's memory lies outside the 512 blocks of R32, which no run from reset reaches
  (R33). Safe: the model stops where the spec has no byte to write. -/
  | outsideSurfaceMemory
deriving DecidableEq, Repr

/-- Why a command has no meaning. -/
inductive Refusal
  /-- Raised by a dispatch arm that has no meaning yet; no arm is left that raises it. Safe. -/
  | notModelled (mnemonic : String)
deriving DecidableEq, Repr

/-- The part: one field per block that owns state (block diagram of 00_scope.md), the part's millisecond count (R83), a
counter of the free values used (the MODEL's own field, notes/assumptions/3.md) and the queue of commands waiting (the
MODEL's own field). -/
structure State where
  layout : Layout
  alloc : Allocator
  mem : SurfaceMemory
  scanOut : ScanOut
  scanner : Scanner
  router : Router
  alerts : Alerts
  light : Light
  park : Park
  inputs : List DiscreteInput
  lines : LineBlock
  dock : DockPort
  vehicle : VehiclePort
  now : Nat
  freeCount : Nat
  pending : List Instr
deriving DecidableEq, Repr

/-- The pins at the release that `State.reset` stands for: every input LOW (DESIGN CHOICE, notes/assumptions/1.md). -/
def lowPins : InputLevels := { bay := false, ignition := false, lock := false, aux0 := false, aux1 := false }

/-- The part right after the release of full reset with every input pin and strap pin LOW and no command waiting. -/
def State.reset : State :=
  { layout := Layout.afterReset
    alloc := Allocator.afterReset
    mem := SurfaceMemory.afterReset (writeResetRow [] .absent)
    scanOut := ScanOut.released
    scanner := Scanner.afterReset
    router := Router.afterReset
    alerts := Alerts.afterReset
    light := Light.afterReset true
    park := Park.afterReset false
    inputs := inputsAfterReset lowPins
    lines := LineBlock.afterReset .absent
    dock := DockPort.afterReset .absent
    vehicle := VehiclePort.afterReset 0x640
    now := 0
    freeCount := 0
    pending := [] }

end Sys2Proof.Machine
end

