-- ==== Sys2Proof/Machine/Formats.lean ====
section
/-! DEFINITION. The byte layouts of chapter 11 for what the part sends (R175, R177 to R180), the CRC-16 of R158, and the
value bytes of each reply. -/

namespace Sys2Proof.Machine

/-! ### Bytes -/

/-- One byte of a number. -/
def byte (n : Nat) : Byte := BitVec.ofNat 8 n

/-- Two bytes, little-endian (chapter 11). -/
def le16 (n : Nat) : List Byte := [byte n, byte (n / 256)]

/-- Four bytes, little-endian (chapter 11). -/
def le32 (n : Nat) : List Byte := [byte n, byte (n / 256), byte (n / 65536), byte (n / 16777216)]

/-- The number of two little-endian bytes. -/
def u16 (lo hi : Byte) : Nat := lo.toNat + 256 * hi.toNat

/-- The number of four little-endian bytes. -/
def u32 (b0 b1 b2 b3 : Byte) : Nat := b0.toNat + 256 * b1.toNat + 65536 * b2.toNat + 16777216 * b3.toNat

/-- Bit n of a number as a Bool-valued weight. -/
def bitWeight (b : Bool) (n : Nat) : Nat := if b then 2 ^ n else 0

/-! ### The CRC-16 (R158) -/

/-- One bit of the division by x^16 + x^12 + x^5 + 1, most significant bit first. -/
def crcShift (crc : BitVec 16) : BitVec 16 :=
  if crc.msb then (crc <<< 1) ^^^ 0x1021#16 else crc <<< 1

/-- The CRC after one more byte. -/
def crcByte (crc : BitVec 16) (b : Byte) : BitVec 16 :=
  (List.range 8).foldl (fun c _ => crcShift c) (crc ^^^ (b.zeroExtend 16 <<< 8))

/-- The CRC-16 of R158: initial value 0xFFFF, no final inversion. -/
def crc16 (bytes : List Byte) : BitVec 16 := bytes.foldl crcByte 0xFFFF#16

/-! ### Codes (R177) -/

/-- The value of a result code (R177). -/
def resultCode : Result → Nat
  | .ok => 0x00
  | .deferred => 0x01
  | .noSuchPane => 0x10
  | .notOwner => 0x11
  | .paneBusy => 0x12
  | .paneClosing => 0x13
  | .quota => 0x14
  | .noMemory => 0x15
  | .badKind => 0x16
  | .badClass => 0x17
  | .badValue => 0x18
  | .flipPending => 0x19
  | .notDouble => 0x1A
  | .notEligible => 0x1B
  | .notAllowed => 0x1C
  | .unknown => 0x1D

/-- The code that a reply to a request echoes (R177): TEXT PUT's for a text data frame (R171). -/
def requestCode : Request → Nat
  | .refused code _ => code
  | .hello _ => 0x01
  | .claim _ => 0x10
  | .release _ => 0x11
  | .move _ _ => 0x12
  | .scroll _ _ _ => 0x13
  | .raise _ => 0x14
  | .lower _ => 0x15
  | .showPane _ => 0x16
  | .hidePane _ => 0x17
  | .flip _ => 0x18
  | .focus _ => 0x20
  | .keyAck => 0x21
  | .repeatSet _ _ _ => 0x22
  | .writeBegin _ _ _ => 0x30
  | .fillRect _ _ _ _ => 0x32
  | .textPut _ _ _ _ _ => 0x33
  | .textData _ _ _ _ _ _ => 0x33
  | .textClear _ _ => 0x34
  | .inputAck _ => 0x40
  | .inputMode _ _ _ _ => 0x41
  | .queryInputs _ => 0x42
  | .lineSet _ _ _ => 0x43
  | .queryLines => 0x44
  | .queryLight _ => 0x45
  | .darkCab _ => 0x50
  | .parkDelay _ => 0x51
  | .wake => 0x52
  | .scanSet _ _ => 0x53
  | .restart _ => 0x54

/-- The code of a notice (R177). -/
def noticeCode : Notice → Nat
  | .paneLive _ _ => 0x90
  | .flipDone _ _ _ => 0x91
  | .writeDone _ _ _ _ => 0x92
  | .focusGained _ => 0x93
  | .focusLost _ => 0x94
  | .alertAcknowledged _ => 0x95
  | .inputChange _ _ _ => 0x96
  | .supplyChange _ _ _ _ => 0x97
  | .tabletState _ => 0x98

/-- The value of a WRITE DONE result (R178). -/
def writeResultCode : WriteResult → Nat
  | .complete => 0
  | .damaged => 1
  | .incomplete => 2
  | .paneGone => 3

/-- The values of a notice (R178). -/
def noticeValues : Notice → List Byte
  | .paneLive pane frame => byte pane :: le16 frame
  | .flipDone pane front frame => byte pane :: byte front :: le16 frame
  | .writeDone pane buffer result missing =>
    byte pane :: byte buffer :: byte (writeResultCode result) :: le32 missing
  | .focusGained pane => [byte pane]
  | .focusLost pane => [byte pane]
  | .alertAcknowledged pane => [byte pane]
  | .inputChange input level interval => byte input :: byte (bitWeight level 0) :: le16 interval
  | .supplyChange low hot supply panelTemp =>
    byte (bitWeight low 0) :: byte (bitWeight hot 0) :: (le16 supply ++ le16 panelTemp)
  | .tabletState attached => [byte (bitWeight attached 0)]

/-- A key event record (R180). -/
def keyEventBytes (e : KeyEvent) : List Byte :=
  let kind := match e.kind with
    | .down => 0
    | .up => 1
    | .repeated => 2
  byte e.code :: byte kind :: le16 e.delta

/-! ### Packets and frames from the part -/

/-- A whole packet of a kind and a payload: header, payload, CRC high byte first (R175). -/
def packet (kind : Nat) (payload : List Byte) : List Byte :=
  let body := byte kind :: 0 :: (le16 payload.length ++ payload)
  let crc := (crc16 body).toNat
  body ++ [byte (crc / 256), byte crc]

/-- A message as a Dock Link packet (R175, R177, R178). -/
def messagePacket : Message → List Byte
  | .reply code result values => packet 0x80 (byte code :: byte (resultCode result) :: values)
  | .keepalive => packet 0x02 []
  | .keyReport events => packet 0x81 (byte events.length :: events.flatMap keyEventBytes)
  | .notice n => packet (noticeCode n) (noticeValues n)

/-- A message as a Vehicle Line frame with the identifier base given (R169, R179). KEEPALIVE has no frame there. -/
def messageFrame (base : Nat) : Message → Option CanFrame
  | .reply code result values =>
    some { id := base + 1, remote := false, data := byte code :: byte (resultCode result) :: values }
  | .keepalive => none
  | .keyReport events => some { id := base + 2, remote := false, data := events.flatMap keyEventBytes }
  | .notice n => some { id := base + 3, remote := false, data := byte (noticeCode n) :: noticeValues n }

/-! ### Reply values (R178, R179) -/

/-- A window in a reply: four 2-byte fields to the tablet, one 40-bit number to the vehicle unit (R178, R179). -/
def windowBytes (m : Master) (w : Window) : List Byte :=
  match m with
  | .tablet => le16 w.left ++ le16 w.top ++ le16 w.width ++ le16 w.height
  | .vehicle =>
    let n := w.left % 1024 + w.top % 512 * 1024 + w.width % 1024 * 524288 + w.height % 512 * 536870912
    le32 n ++ [byte (n / 4294967296)]

/-- The OK values of CLAIM and MOVE: the pane and the window as clamped (R178, R179). -/
def paneWindowBytes (m : Master) (pane : Nat) (w : Window) : List Byte := byte pane :: windowBytes m w

/-- The OK values of HELLO (R178): vendor, part, revision, display, region sizes, quotas, granted grace. -/
def helloBytes (grace : Nat) : List Byte :=
  le16 0x0A31 ++ le16 0x0042 ++ [1] ++ le16 800 ++ le16 480 ++ le16 400 ++ le16 80 ++ le16 32 ++ [4, 3] ++ le16 grace

/-- The mode, sense and level codes of INPUT MODE (R178). -/
def modeCodes : InputMode → Nat × Nat
  | .edge .rising => (0, 0)
  | .edge .falling => (0, 1)
  | .edge .both => (0, 2)
  | .level false => (1, 0)
  | .level true => (1, 1)

/-- An input record (R178). -/
def inputRecord (i : DiscreteInput) : List Byte :=
  let (mode, sense) := modeCodes i.mode
  byte (bitWeight i.qualified 0 + bitWeight i.latest 1 + 4 * mode + 8 * sense) :: byte i.qualTime
    :: (le16 i.interval
      ++ [byte (bitWeight i.tabletFlag 0 + bitWeight i.tabletAck 1 + bitWeight i.vehicleFlag 2
            + bitWeight i.vehicleAck 3)])

/-- The number whose bit n is the n-th of a list of bits. -/
def bitsOf (bits : List Bool) : Nat := bits.foldr (fun b n => (if b then 1 else 0) + 2 * n) 0

/-- The OK values of QUERY LINES (R178): directions, latches, pin levels. -/
def linesBytes (lines : List IndicatorLine) (pins : BitVec 8) : List Byte :=
  [byte (bitsOf (lines.map (·.out))), byte (bitsOf (lines.map (·.latch))), pins]

/-- A value that may be absent, as two bytes (R178). -/
def orAbsent (v : Option Nat) : List Byte := le16 (v.getD 0xFFFF)

/-- The park state's code (R178). -/
def parkCode : ParkState → Nat
  | .run => 0
  | .parkPending => 1
  | .parked => 2

/-- The three pages of QUERY LIGHT (R139, R178). -/
def lightPage (l : Light) (p : Park) : Nat → List Byte
  | 0 => orAbsent l.ambient ++ orAbsent l.supply ++ orAbsent l.panelTemp
  | 1 => le16 l.filter ++ le16 l.target ++ le16 l.applied
  | _ =>
    byte (bitWeight l.low 0 + bitWeight l.hot 1 + bitWeight l.darkCab 2 + bitWeight l.hold 3 + 16 * parkCode p.state)
      :: BitVec.ofInt 8 l.offset
      :: (le16 p.delay ++ orAbsent (p.countdown.map fun ms => (ms + 9) / 10))

end Sys2Proof.Machine
end

