-- ==== Sys2Proof/Machine/Operands.lean ====
section
/-! DEFINITION. The operands of what the masters send: packets of the tablet (R158, R175 to R178) and frames of the
vehicle unit (R170, R171, R179), read into requests. -/

namespace Sys2Proof.Machine

/-! ### Packets of the tablet -/

/-- Step 1 of R158: the packet's kind, flags and payload, unless its CRC or its length field is wrong. The CRC stands in
the last two bytes, high byte first. -/
def openPacket (bytes : List Byte) : Option (Nat × Nat × List Byte) :=
  match bytes with
  | kind :: flags :: len0 :: len1 :: rest =>
    let n := rest.length - 2
    let body := kind :: flags :: len0 :: len1 :: rest.take n
    let crc := rest.drop n
    if 2 ≤ rest.length ∧ u16 len0 len1 = n ∧ n ≤ 1024
        ∧ crc = [byte ((crc16 body).toNat / 256), byte (crc16 body).toNat] then
      some (kind.toNat, flags.toNat, rest.take n)
    else none
  | _ => none

/-- The kinds that R177 defines for a packet from the tablet. -/
def tabletKind (kind : Nat) : Bool :=
  [0x01, 0x02, 0x10, 0x11, 0x12, 0x13, 0x14, 0x15, 0x16, 0x17, 0x18, 0x20, 0x21, 0x22, 0x30, 0x31, 0x32, 0x33, 0x34,
    0x40, 0x41, 0x42, 0x43, 0x44, 0x45, 0x50, 0x51, 0x52, 0x53, 0x54].contains kind

/-- What a packet is once its header is checked (R158 step 4). -/
inductive Intake
  | keepalive
  | writeData (offset : Nat) (data : List Byte)
  | request (r : Request)
deriving DecidableEq, Repr

/-- The cells of a TEXT PUT payload: pairs of code and attribute (R178); none if a byte is left over. -/
def readCells : List Byte → Option (List TextCell)
  | [] => some []
  | [_] => none
  | code :: attr :: rest => (readCells rest).map fun cells => { code := code, attr := attr } :: cells

/-- The operands of a tablet CLAIM (R178): the options' bits 0 to 2 have names, bits 3 to 7 must be 0. -/
def readClaim (kind cls options buffers : Byte) (window : Window) (sizeX sizeY : Nat) (transparent : Option Nat) :
    ClaimOps :=
  { kind := kind.toNat, cls := cls.toNat
    acceptsKeys := options.getLsbD 0, shown := options.getLsbD 1, transparentBit := options.getLsbD 2
    strayOptions := 8 ≤ options.toNat
    buffers := buffers.toNat, window := window, sizeX := sizeX, sizeY := sizeY, transparent := transparent }

/-- The window of eight payload bytes (R178). -/
def readWindow (a b c d e f g h : Byte) : Window :=
  { left := u16 a b, top := u16 c d, width := u16 e f, height := u16 g h }

/-- The rectangle of eight payload bytes (R178). -/
def readRect (a b c d e f g h : Byte) : Rect := { x := u16 a b, y := u16 c d, w := u16 e f, h := u16 g h }

/-- The payload of a kind of the tablet (R178); none if its length does not fit the kind (R176). The length of a KEEPALIVE
from the tablet, which R178 does not list, is that of the part's own, 0 (R163; notes/assumptions/36.md). -/
def readPayload (kind : Nat) (payload : List Byte) : Option Intake :=
  match kind, payload with
  | 0x01, [a, b] => some (.request (.hello (u16 a b)))
  | 0x02, [] => some .keepalive
  | 0x10, [k, c, o, n, l0, l1, t0, t1, w0, w1, h0, h1, x0, x1, y0, y1] =>
    some (.request (.claim (readClaim k c o n (readWindow l0 l1 t0 t1 w0 w1 h0 h1) (u16 x0 x1) (u16 y0 y1) none)))
  | 0x10, [k, c, o, n, l0, l1, t0, t1, w0, w1, h0, h1, x0, x1, y0, y1, v0, v1] =>
    some (.request (.claim
      (readClaim k c o n (readWindow l0 l1 t0 t1 w0 w1 h0 h1) (u16 x0 x1) (u16 y0 y1) (some (u16 v0 v1)))))
  | 0x11, [p] => some (.request (.release p.toNat))
  | 0x12, [p, a, b, c, d, e, f, g, h] => some (.request (.move p.toNat (readWindow a b c d e f g h)))
  | 0x13, [p, a, b, c, d] => some (.request (.scroll p.toNat (u16 a b) (u16 c d)))
  | 0x14, [p] => some (.request (.raise p.toNat))
  | 0x15, [p] => some (.request (.lower p.toNat))
  | 0x16, [p] => some (.request (.showPane p.toNat))
  | 0x17, [p] => some (.request (.hidePane p.toNat))
  | 0x18, [p] => some (.request (.flip p.toNat))
  | 0x20, [p] => some (.request (.focus p.toNat))
  | 0x21, [] => some (.request .keyAck)
  | 0x22, [e, a, b, c, d] => some (.request (.repeatSet e.toNat (u16 a b) (u16 c d)))
  | 0x30, [p, i, a, b, c, d, e, f, g, h] => some (.request (.writeBegin p.toNat i.toNat (readRect a b c d e f g h)))
  | 0x31, a :: b :: c :: d :: data => some (.writeData (u32 a b c d) data)
  | 0x32, [p, i, a, b, c, d, e, f, g, h, v0, v1] =>
    some (.request (.fillRect p.toNat i.toNat (readRect a b c d e f g h) (u16 v0 v1)))
  | 0x33, p :: i :: r :: c :: cells =>
    if cells.length ≤ 512 then
      (readCells cells).map fun cs => .request (.textPut p.toNat i.toNat r.toNat c.toNat cs)
    else none
  | 0x34, [p, i] => some (.request (.textClear p.toNat i.toNat))
  | 0x40, [i] => some (.request (.inputAck i.toNat))
  | 0x41, [i, m, s, t] => some (.request (.inputMode i.toNat m.toNat s.toNat t.toNat))
  | 0x42, [] => some (.request (.queryInputs none))
  | 0x43, [l, d, v] => some (.request (.lineSet l.toNat d.toNat v.toNat))
  | 0x44, [] => some (.request .queryLines)
  | 0x45, [] => some (.request (.queryLight none))
  | 0x50, [v] => some (.request (.darkCab v.toNat))
  | 0x51, [a, b] => some (.request (.parkDelay (u16 a b)))
  | 0x52, [] => some (.request .wake)
  | 0x53, [p, r] => some (.request (.scanSet p.toNat r.toNat))
  | 0x54, [u] => some (.request (.restart u.toNat))
  | _, _ => none

/-- Steps 3 and 4 of R158: a kind that is not defined is a request refused with UNKNOWN; non-zero flags or a length that
does not fit, one refused with BAD_VALUE. -/
def intakeOf (kind flags : Nat) (payload : List Byte) : Intake :=
  if tabletKind kind then
    if flags = 0 then (readPayload kind payload).getD (.request (.refused kind .badValue))
    else .request (.refused kind .badValue)
  else .request (.refused kind .unknown)

/-! ### Frames of the vehicle unit -/

/-- The request codes that R177 defines on the Vehicle Line. -/
def vehicleCode (code : Nat) : Bool :=
  [0x10, 0x11, 0x12, 0x13, 0x14, 0x15, 0x16, 0x17, 0x18, 0x20, 0x21, 0x22, 0x34, 0x40, 0x41, 0x42, 0x43, 0x44, 0x45,
    0x50, 0x51, 0x52, 0x53, 0x54].contains code

/-- The operands of a vehicle CLAIM (R179): bit 0 class ALERT, bit 1 accepts keys, bit 2 shown, bit 3 two buffers, bit 4
PIXEL, in cell units. -/
def readVehicleClaim (options : Byte) (window : Window) (cols rows : Nat) : ClaimOps :=
  { kind := if options.getLsbD 4 then 0 else 1
    cls := if options.getLsbD 0 then 1 else 0
    acceptsKeys := options.getLsbD 1, shown := options.getLsbD 2, transparentBit := false
    strayOptions := 32 ≤ options.toNat
    buffers := if options.getLsbD 3 then 2 else 1
    window := window, sizeX := cols, sizeY := rows, transparent := none }

/-- The operands after the code byte of a request frame (R179); none if the data length does not fit. -/
def readOperands (code : Nat) (operands : List Byte) : Option Request :=
  match code, operands with
  | 0x10, [o, c, r, w, h, sc, sr] =>
    some (.claim (readVehicleClaim o
      { left := c.toNat, top := r.toNat, width := w.toNat, height := h.toNat } sc.toNat sr.toNat))
  | 0x11, [p] => some (.release p.toNat)
  | 0x12, [p, c, r, w, h] =>
    some (.move p.toNat { left := c.toNat, top := r.toNat, width := w.toNat, height := h.toNat })
  | 0x13, [p, a, b, c, d] => some (.scroll p.toNat (u16 a b) (u16 c d))
  | 0x14, [p] => some (.raise p.toNat)
  | 0x15, [p] => some (.lower p.toNat)
  | 0x16, [p] => some (.showPane p.toNat)
  | 0x17, [p] => some (.hidePane p.toNat)
  | 0x18, [p] => some (.flip p.toNat)
  | 0x20, [p] => some (.focus p.toNat)
  | 0x21, [] => some .keyAck
  | 0x22, [e, a, b, c, d] => some (.repeatSet e.toNat (u16 a b) (u16 c d))
  | 0x34, [p, i] => some (.textClear p.toNat i.toNat)
  | 0x40, [i] => some (.inputAck i.toNat)
  | 0x41, [i, m, s, t] => some (.inputMode i.toNat m.toNat s.toNat t.toNat)
  | 0x42, [i] => some (.queryInputs (some i.toNat))
  | 0x43, [l, d, v] => some (.lineSet l.toNat d.toNat v.toNat)
  | 0x44, [] => some .queryLines
  | 0x45, [p] => some (.queryLight (some p.toNat))
  | 0x50, [v] => some (.darkCab v.toNat)
  | 0x51, [a, b] => some (.parkDelay (u16 a b))
  | 0x52, [] => some .wake
  | 0x53, [p, r] => some (.scanSet p.toNat r.toNat)
  | 0x54, [u] => some (.restart u.toNat)
  | _, _ => none

/-- A request frame read by R170: an undefined code, and a data length that does not fit. A code or an option bit that is
not defined is refused at step 2 of the request's own checks (R176; notes/assumptions/17.md). The echo of a frame without a
byte 0 is a free value (notes/assumptions/5.md). -/
def readRequestFrame (data : List Byte) : Request :=
  match data with
  | [] => .refused Config.emptyFrameEcho .badValue
  | code :: operands =>
    if vehicleCode code.toNat then
      (readOperands code.toNat operands).getD (.refused code.toNat .badValue)
    else .refused code.toNat .unknown

/-- A text data frame read by R171 and R179: refused as TEXT PUT when it is shorter than 4 bytes, and, before the checks of
R41, when bits 5 to 7 of byte 0 are not 0 (DESIGN CHOICE: no rule gives the step; notes/assumptions/35.md). -/
def readTextFrame (data : List Byte) : Request :=
  match data with
  | b0 :: row :: column :: attr :: codes =>
    if b0.toNat < 32 then .textData (b0.toNat % 16) (b0.toNat / 16) row.toNat column.toNat attr codes
    else .refused 0x33 .badValue
  | _ => .refused 0x33 .badValue

end Sys2Proof.Machine
end

