-- ==== Sys2Proof/Machine/Ops.lean ====
section
/-! DEFINITION. The named operations that every chapter's commands share: presence, handing messages to the ports, taking
a request in its turn, status row rewrites, key events and key reports, the focus, and landing bytes in memory. -/

namespace Sys2Proof.Machine

/-! ### Presence -/

/-- The owner that a master is. -/
def masterOwner : Master → Owner
  | .tablet => .tablet
  | .vehicle => .vehicle

/-- TABLET is present while the Dock Link is UP or HOLD (00_scope.md). -/
def State.tabletPresent (s : State) : Bool := s.dock.link == .up || s.dock.link == .hold

/-- An owner is present (00_scope.md). -/
def State.present (s : State) : Owner → Bool
  | .tablet => s.tabletPresent
  | .vehicle => s.vehicle.present
  | .part => true

/-- BAY is qualified HIGH. -/
def State.bayHigh (s : State) : Bool := (s.inputs[0]?).any (·.qualified)

/-- IGNITION is qualified HIGH. -/
def State.ignitionOn (s : State) : Bool := (s.inputs[1]?).any (·.qualified)

/-- A timer runs and its time has come: the part's millisecond count has reached its expiry (notes/assumptions/37.md). -/
def State.due (s : State) (timer : Option Nat) : Bool := timer.any (· ≤ s.now)

/-! ### Handing messages to the ports -/

/-- A message handed to the Dock Link Port: it joins the outbound queue in UP while the queue has room, and is discarded
in HOLD (R162, R163). In ABSENT and ATTACHING it is discarded too: the only one is the reply to a malformed HELLO that is
taken there (DESIGN CHOICE: notes/assumptions/41.md). -/
def handTablet (msg : Message) (s : State) : State :=
  if s.dock.link = .up ∧ s.dock.outbound.length < dockOutboundLimit then
    { s with dock := { s.dock with outbound := s.dock.outbound ++ [msg] } }
  else s

/-- A message handed to the Vehicle Line Port: it joins the outbound queue while the vehicle unit is PRESENT and the
queue has room (R172, R173). -/
def handVehicle (msg : Message) (s : State) : State :=
  if s.vehicle.present ∧ s.vehicle.outbound.length < vehicleOutboundLimit then
    { s with vehicle := { s.vehicle with outbound := s.vehicle.outbound ++ [msg] } }
  else s

/-- A message handed to a master's port. -/
def hand : Master → Message → State → State
  | .tablet, msg, s => handTablet msg s
  | .vehicle, msg, s => handVehicle msg s

/-- A notice handed to an owner's port, if the owner is a master. -/
def notify : Owner → Notice → State → State
  | .tablet, n, s => handTablet (.notice n) s
  | .vehicle, n, s => handVehicle (.notice n) s
  | .part, _, s => s

/-- The reply to a request (R7, R177). -/
def reply (m : Master) (r : Request) (result : Result) (values : List Byte) (s : State) : State :=
  hand m (.reply (requestCode r) result values) s

/-! ### Taking a request in its turn (R165, R170) -/

/-- A master's request queue. -/
def State.queue (s : State) : Master → List Request
  | .tablet => s.dock.requests
  | .vehicle => s.vehicle.requests

/-- The port may take a request: every memory write of the master's earlier accepted write request has completed (R42),
and, for the tablet, both receive buffers are EMPTY (R165). -/
def State.mayTake (s : State) : Master → Bool
  | .tablet => s.dock.bufferA == .empty && s.dock.bufferB == .empty && s.mem.tabletWrite.isNone
  | .vehicle => s.mem.vehicleWrite.isNone

/-- The oldest request leaves the queue. -/
def State.popRequest (s : State) : Master → State
  | .tablet => { s with dock := { s.dock with requests := s.dock.requests.tail } }
  | .vehicle => { s with vehicle := { s.vehicle with requests := s.vehicle.requests.tail } }

/-- The request is the oldest of its master's queue and the port may take it, in a part that is not held in reset. R165
names no link state, so the tablet's is taken in every one (DESIGN CHOICE for the malformed HELLO that alone can wait in
ATTACHING and ABSENT: notes/assumptions/41.md). -/
def State.canTake (s : State) (m : Master) (r : Request) : Bool :=
  s.scanOut.running && (s.queue m).head? == some r && s.mayTake m

/-- A master's port takes the request `r`: it leaves the queue and `body` is its effect. Where it cannot be taken now
nothing changes: it waits its turn (R165, R170; notes/assumptions/8.md). -/
def taking (m : Master) (r : Request) (body : State → State) (s : State) : Host.Outcome State Fault Refusal :=
  .next (if s.canTake m r then body (s.popRequest m) else s)

/-- An event of the part: while the part is held in full reset it does not occur and nothing changes
(R54; notes/assumptions/9.md). -/
def whenRunning (body : State → State) (s : State) : Host.Outcome State Fault Refusal :=
  .next (if s.scanOut.running then body s else s)

/-! ### Status row rewrites (R28) -/

/-- A field is rewritten through the text write path when its text or its attribute changes (R28). -/
def rewriteField (f : RowField) (before after : RowText) (s : State) : State :=
  if before = after then s
  else
    { s with mem := { s.mem with rowWrites := s.mem.rowWrites ++ [{ column := f.start, cells := after.cells f.width }] } }

/-! ### Key events and key reports (R98, R103, R104) -/

/-- The Key Router's part for a master. -/
def Router.channel (r : Router) : Master → KeyChannel
  | .tablet => r.tablet
  | .vehicle => r.vehicle

/-- The Key Router with a master's part replaced. -/
def Router.setChannel (r : Router) (m : Master) (c : KeyChannel) : Router :=
  match m with
  | .tablet => { r with tablet := c }
  | .vehicle => { r with vehicle := c }

/-- A master's part of the Key Router replaced in the whole state. -/
def State.setChannel (s : State) (m : Master) (c : KeyChannel) : State :=
  { s with router := s.router.setChannel m c }

/-- The delta of an event appended now (R98). -/
def KeyChannel.delta (c : KeyChannel) (now : Nat) : Nat :=
  match c.lastEntry with
  | none => 65535
  | some t => min 65535 (now - t)

/-- A key event appended to a master's queue (R98). -/
def appendEvent (m : Master) (code : Nat) (kind : KeyKind) (s : State) : State :=
  let c := s.router.channel m
  s.setChannel m
    { c with queue := c.queue ++ [{ code := code, kind := kind, delta := c.delta s.now }], lastEntry := some s.now }

/-- Events that one report takes: up to 8 to the tablet, up to 2 to the vehicle unit (R103, R104). -/
def reportSize : Master → Nat
  | .tablet => 8
  | .vehicle => 2

/-- The port has a link and a free place for a report (R103, R104). -/
def State.reportRoom (s : State) : Master → Bool
  | .tablet => s.dock.link == .up && s.dock.outbound.length < dockOutboundLimit
  | .vehicle => s.vehicle.present && s.vehicle.outbound.length < vehicleOutboundLimit

/-- The conditions of R103 and R104 hold together. -/
def State.reportDue (s : State) (m : Master) : Bool :=
  (s.router.channel m).gate == .opened && !(s.router.channel m).queue.isEmpty && s.reportRoom m

/-- A key report is built if its conditions hold: the oldest events leave the queue, the report is handed to the port
and the gate becomes WAITING (R103, R104). -/
def tryReport (m : Master) (s : State) : State :=
  if s.reportDue m then
    let c := s.router.channel m
    hand m (.keyReport (c.queue.take (reportSize m)))
      (s.setChannel m { c with queue := c.queue.drop (reportSize m), gate := .waiting })
  else s

/-- A key event appended one by one: each append may build a report (R103). -/
def placeEvent (m : Master) (code : Nat) (kind : KeyKind) (s : State) : State :=
  tryReport m (appendEvent m code kind s)

/-! ### Panes, eligibility and the focus (R84, R85) -/

/-- A pane record that is not FREE. -/
def State.pane? (s : State) (n : Nat) : Option Pane := (s.layout.panes[n]?).join

/-- A pane record replaced; `none` makes it FREE. -/
def State.setPane (s : State) (n : Nat) (p : Option Pane) : State :=
  { s with layout := { s.layout with panes := s.layout.panes.set n p } }

/-- A pane that can hold the focus (R84). -/
def State.eligible (s : State) (n : Nat) : Bool :=
  match s.pane? n with
  | some p => p.phase == .live && p.visible && p.acceptsKeys && s.present p.owner
  | none => false

/-- The focus ring: the eligible panes in the current stacking order, top first (R84). -/
def State.ring (s : State) : List Nat := s.layout.current.filter s.eligible

/-- The owner of a pane, or none for NONE or a FREE record. -/
def State.ownerOf (s : State) (n : Option Nat) : Option Owner := (n.bind s.pane?).map (·.owner)

/-- A focus notice to the owner of the pane, if there is one (R85). -/
def focusNotice (n : Option Nat) (notice : Nat → Notice) (s : State) : State :=
  match n with
  | none => s
  | some k =>
    match s.pane? k with
    | some p => notify p.owner (notice k) s
    | none => s

/-- The focus takes a value (R85): on a change, FOCUS LOST to the old pane's owner, FOCUS GAINED to the new one's, and
the KEYS field. -/
def setFocus (v : Option Nat) (s : State) : State :=
  if s.router.focus = v then s
  else
    rewriteField .keys (keysText (s.ownerOf s.router.focus)) (keysText (s.ownerOf v))
      (focusNotice v .focusGained
        (focusNotice s.router.focus .focusLost { s with router := { s.router with focus := v } }))

/-! ### Surfaces and addresses (R34, R35) -/

/-- Bytes of one buffer of a surface: W_s × H_s × 2 for PIXEL, cols × rows × 2 for TEXT (R34). -/
def surfaceBytes (sizeX sizeY : Nat) : Nat := sizeX * sizeY * 2

/-- Blocks of one buffer of a surface: the bytes over 4,096, rounded up (R34). -/
def surfaceBlocks (sizeX sizeY : Nat) : Nat := (surfaceBytes sizeX sizeY + (blockBytes - 1)) / blockBytes

/-- W_s: the surface extent across, in pixels (R1). -/
def Pane.extentX (p : Pane) : Nat :=
  match p.kind with
  | .pixel => p.sizeX
  | .text => p.sizeX * 8

/-- H_s: the surface extent down, in pixels (R1). -/
def Pane.extentY (p : Pane) : Nat :=
  match p.kind with
  | .pixel => p.sizeY
  | .text => p.sizeY * 16

/-- The base address of a buffer of a pane (R35). -/
def Pane.bufferBase (p : Pane) (buffer : Nat) : Nat :=
  (p.run.start + buffer * surfaceBlocks p.sizeX p.sizeY) * blockBytes

/-- The whole buffer lies in the memory. -/
def Pane.bufferInMemory (p : Pane) (buffer : Nat) : Bool :=
  Memory.covers (p.bufferBase buffer) (surfaceBytes p.sizeX p.sizeY)

/-! ### Landing bytes (R39, R42 to R48) -/

/-- Consecutive bytes to be written: a base, a length and the byte at each address. It is no part of State. -/
structure Span where
  base : Nat
  len : Nat
  byteAt : Nat → Byte

/-- A span written whole. -/
def Span.land (m : List Host.Cell) (sp : Span) : List Host.Cell :=
  Memory.update m sp.base sp.len fun a => some (sp.byteAt a)

/-- A span of which only some addresses had landed when the write was cut off. -/
def Span.landSome (landed : Nat → Bool) (m : List Host.Cell) (sp : Span) : List Host.Cell :=
  Memory.update m sp.base sp.len fun a => if landed a then some (sp.byteAt a) else none

/-- The bytes that an accepted write puts into the pane it names, clipped to the surface (R46 to R48). The rules give them no
order; the model writes them span by span, from the top row on and in ascending address (DESIGN CHOICE:
notes/assumptions/43.md). -/
def WriteJob.spans (p : Pane) : WriteJob → List Span
  | .fillRect _ buffer rect colour =>
    let w := min rect.w (p.sizeX - rect.x)
    let h := min rect.h (p.sizeY - rect.y)
    (List.range h).map fun j =>
      { base := p.bufferBase buffer + ((rect.y + j) * p.sizeX + rect.x) * 2
        len := 2 * w
        byteAt := fun a => if a % 2 = 0 then byte colour else byte (colour / 256) }
  | .textPut _ buffer row column cells =>
    if row < p.sizeY then
      let base := p.bufferBase buffer + (row * p.sizeX + column) * 2
      [{ base := base
         len := 2 * min cells.length (p.sizeX - column)
         byteAt := fun a => cellByte cells (a - base) }]
    else []
  | .textClear _ buffer =>
    [{ base := p.bufferBase buffer
       len := surfaceBytes p.sizeX p.sizeY
       byteAt := fun a => if a % 2 = 0 then blankCell.code else blankCell.attr }]

/-- The pane that a write names. -/
def WriteJob.pane : WriteJob → Nat
  | .fillRect pane _ _ _ => pane
  | .textPut pane _ _ _ _ => pane
  | .textClear pane _ => pane

/-- The buffer that a write names. -/
def WriteJob.buffer : WriteJob → Nat
  | .fillRect _ buffer _ _ => buffer
  | .textPut _ buffer _ _ _ => buffer
  | .textClear _ buffer => buffer

/-- The write has a byte to write into the pane. -/
def WriteJob.writes (p : Pane) (job : WriteJob) : Bool := (job.spans p).any fun sp => sp.len != 0

/-- The write in progress of a master. -/
def SurfaceMemory.writeOf (m : SurfaceMemory) : Master → Option ActiveWrite
  | .tablet => m.tabletWrite
  | .vehicle => m.vehicleWrite

/-- The write in progress of a master replaced. -/
def SurfaceMemory.setWrite (m : SurfaceMemory) (who : Master) (w : Option ActiveWrite) : SurfaceMemory :=
  match who with
  | .tablet => { m with tabletWrite := w }
  | .vehicle => { m with vehicleWrite := w }

/-- An accepted write begins; one with no byte to write is complete at once (R42). -/
def startWrite (m : Master) (p : Pane) (job : WriteJob) (s : State) : State :=
  if job.writes p then { s with mem := s.mem.setWrite m (some { job := job, done := 0 }) } else s

/-- A write's bytes land only while the pane it names is READY or LIVE (R43), and in a buffer that the pane has. -/
def Pane.takesWrites (p : Pane) (buffer : Nat) : Bool := (p.phase == .ready || p.phase == .live) && buffer < p.buffers

/-- Spans without their first `n` bytes, in the order in which they are written (notes/assumptions/43.md). -/
def spansLeft : Nat → List Span → List Span
  | _, [] => []
  | n, sp :: rest => { sp with base := sp.base + n, len := sp.len - n } :: spansLeft (n - sp.len) rest

/-- The spans that a write under way has still to write. -/
def ActiveWrite.spans (p : Pane) (w : ActiveWrite) : List Span := spansLeft w.done (w.job.spans p)

/-- The memory once all that is left of a write has landed; none if the pane's buffer is outside the memory. -/
def landJob (s : State) (w : ActiveWrite) : Option (List Host.Cell) :=
  match s.pane? w.job.pane with
  | some p =>
    if p.takesWrites w.job.buffer then
      if p.bufferInMemory w.job.buffer then some ((w.spans p).foldl Span.land s.mem.cells) else none
    else some s.mem.cells
  | none => some s.mem.cells

/-- The pattern of a fill: 0x00 everywhere, or the blank cell (R38). -/
def FillPattern.byteAt : FillPattern → Nat → Byte
  | .zero, _ => 0x00
  | .blank, a => if a % 2 = 0 then 0x20 else 0x0F

/-- The run of a fill lies in the memory (R32). -/
def FillEntry.inMemory (e : FillEntry) : Bool := Memory.covers (e.run.start * blockBytes) (e.run.length * blockBytes)

/-- What a fill has still to write: the rest of the block that it is at and the blocks after it, tails included (R39). -/
def FillEntry.left (e : FillEntry) : Span :=
  { base := (e.run.start + e.blocksDone) * blockBytes + e.bytesDone
    len := (e.run.length - e.blocksDone) * blockBytes - e.bytesDone
    byteAt := e.pattern.byteAt }

/-- Where the byte at stream offset `k` goes (R44); none when it lies outside the surface. -/
def Stream.target (p : Pane) (st : Stream) (k : Nat) : Option Nat :=
  let x := st.rect.x + k / 2 % st.rect.w
  let y := st.rect.y + k / 2 / st.rect.w
  if x < p.sizeX ∧ y < p.sizeY then some (p.bufferBase st.buffer + (y * p.sizeX + x) * 2 + k % 2) else none

/-- Stream bytes written in ascending offset order, each to its target (R45). -/
def drainBytes (p : Pane) (st : Stream) : Nat → List Byte → List Host.Cell → List Host.Cell
  | _, [], m => m
  | k, b :: rest, m =>
    drainBytes p st (k + 1) rest
      (match st.target p k with
        | some a => Memory.update m a 1 fun _ => some b
        | none => m)

/-! ### Work that is cut off (R40, R43, R51) -/

/-- The state with the next free value used (notes/assumptions/3.md). -/
def State.useFree (s : State) : State := { s with freeCount := s.freeCount + 1 }

/-- A fill at the head of the list is cut off: some of its blocks are written whole, the block after them in part, and no
byte beyond; how far it had got is a free value (R39, R40; notes/assumptions/3.md). The arbiter's turns stay as the last grant
left them (DESIGN CHOICE: notes/assumptions/42.md). -/
def cutFill (e : FillEntry) (s : State) : State :=
  let n := s.freeCount
  let k := e.blocksDone + Config.progress n % (e.run.length - e.blocksDone + 1)
  let written (a : Nat) : Bool :=
    a / blockBytes < e.run.start + k || (a / blockBytes == e.run.start + k && Config.landed n a)
  { s with mem := { s.mem with cells := e.left.landSome written s.mem.cells } }.useFree

/-- A write under way is cut off: the bytes already written keep their values, and which of the others are written is a
free value (R43; notes/assumptions/3.md). The arbiter's turns stay (DESIGN CHOICE: notes/assumptions/42.md). -/
def cutJob (w : ActiveWrite) (s : State) : State :=
  match s.pane? w.job.pane with
  | some p =>
    if p.takesWrites w.job.buffer then
      { s with mem := { s.mem with
          cells := (w.spans p).foldl (Span.landSome (Config.landed s.freeCount)) s.mem.cells } }.useFree
    else s
  | none => s

/-- A status row write is cut off (R51). -/
def cutRowWrite (w : RowWrite) (s : State) : State :=
  let base := statusRowBase + 2 * w.column
  { s with mem := { s.mem with
      cells := Span.landSome (Config.landed s.freeCount) s.mem.cells
        { base := base, len := 2 * w.cells.length, byteAt := fun a => cellByte w.cells (a - base) } } }.useFree

/-- The content of a receive buffer. -/
def RxBuffer.content : RxBuffer → Option (Nat × List Byte)
  | .empty => none
  | .filled start bytes => some (start, bytes)
  | .draining start bytes => some (start, bytes)

/-- The receive buffer of a name. -/
def DockPort.rx (d : DockPort) : BufferName → RxBuffer
  | .a => d.bufferA
  | .b => d.bufferB

/-- The receive buffer of a name replaced. -/
def DockPort.setRx (d : DockPort) (n : BufferName) (b : RxBuffer) : DockPort :=
  match n with
  | .a => { d with bufferA := b }
  | .b => { d with bufferB := b }

/-- The other receive buffer. -/
def BufferName.other : BufferName → BufferName
  | .a => .b
  | .b => .a

/-- The buffer whose bytes the drain writes first: buffers fill in turn, so when the next buffer is not EMPTY it is the
one filled longest ago (R166). -/
def DockPort.oldest (d : DockPort) : Option BufferName :=
  if d.rx d.nextBuffer ≠ .empty then some d.nextBuffer
  else if d.rx d.nextBuffer.other ≠ .empty then some d.nextBuffer.other
  else none

/-- A drain under way is cut off: a prefix of the bytes that the oldest buffer still holds is written; its length is a free
value (R43, R45, R161; notes/assumptions/3.md). The arbiter's turns stay (DESIGN CHOICE: notes/assumptions/42.md). -/
def cutDrain (s : State) : State :=
  match s.dock.oldest, s.dock.stream with
  | some name, some st =>
    match (s.dock.rx name).content, s.pane? st.pane with
    | some (start, bytes), some p =>
      if p.takesWrites st.buffer then
        let n := Config.progress s.freeCount % (bytes.length + 1)
        { s with mem := { s.mem with cells := drainBytes p st start (bytes.take n) s.mem.cells } }.useFree
      else s
    | _, _ => s
  | _, _ => s

/-- A master's write under way is cut off and gone. -/
def cutWrite (m : Master) (s : State) : State :=
  match s.mem.writeOf m with
  | some w =>
    let s := cutJob w s
    { s with mem := s.mem.setWrite m none }
  | none => s

end Sys2Proof.Machine
end

