-- ==== Sys2Proof/Machine/AlertOps.lean ====
section
/-! DEFINITION. The Alert Controller's shared operations (R113 to R122). -/

namespace Sys2Proof.Machine

/-- The alert focus value: the top pane of the stack if it accepts keys and the vehicle unit is present (R113). -/
def State.alertFocus (s : State) : Option Nat :=
  match s.alerts.stack with
  | top :: _ =>
    match s.pane? top with
    | some p => if p.acceptsKeys && s.vehicle.present then some top else none
    | none => none
  | [] => none

/-- The ALERT LED, line 3, switched (R113, R153). -/
def setAlertLed (on : Bool) (s : State) : State :=
  { s with lines := { s.lines with lines := s.lines.lines.set 3 { out := true, latch := on } } }

/-- The ALERT field follows the stack size (R28, R113). -/
def alertField (sizeBefore : Nat) (s : State) : State :=
  rewriteField .alert (alertText sizeBefore) (alertText s.alerts.stack.length) s

/-- Hold begins (R113, R89, R137): the Key Router, the ALERT LED, the monitor, the ALERT field, in this order. -/
def holdBegins (s : State) : State :=
  let value := s.alertFocus
  let s := setFocus value { s with router := { s.router with hold := true } }
  let s := setAlertLed true s
  alertField 0 { s with light := { s.light with hold := true, jump := true } }

/-- The top of the stack has changed with the stack non-empty (R113). -/
def topChanged (sizeBefore : Nat) (s : State) : State := alertField sizeBefore (setFocus s.alertFocus s)

/-- The return focus: the saved focus if it is eligible now, else the first pane of the ring, else NONE (R115). -/
def State.returnFocus (s : State) : Option Nat :=
  match s.alerts.saved with
  | some n => if s.eligible n then some n else s.ring.head?
  | none => s.ring.head?

/-- Hold ends (R113, R115, R89, R137); the saved focus then becomes NONE. -/
def holdEnds (sizeBefore : Nat) (s : State) : State :=
  let value := s.returnFocus
  let s := setFocus value { s with router := { s.router with hold := false } }
  let s := setAlertLed false s
  let s := alertField sizeBefore { s with light := { s.light with hold := false } }
  { s with alerts := { s.alerts with saved := none } }

/-- The Alert Controller takes a pane live event (R114). -/
def alertPaneLive (n : Nat) (s : State) : State :=
  match s.pane? n with
  | some p =>
    if p.cls = .alert then
      if s.alerts.stack = [] then
        holdBegins { s with alerts := { s.alerts with saved := s.router.focus, stack := [n] } }
      else
        topChanged s.alerts.stack.length { s with alerts := { s.alerts with stack := n :: s.alerts.stack } }
    else s
  | none => s

/-- The ALERT ACKNOWLEDGED notice of an acknowledged pane: at once, or on the list until the return (R117). -/
def reportAcknowledged (n : Nat) (s : State) : State :=
  if s.vehicle.present then handVehicle (.notice (.alertAcknowledged n)) s
  else { s with alerts := { s.alerts with unreported := s.alerts.unreported ++ [n] } }

/-- The Alert Controller takes an acknowledge press (R116). -/
def acknowledgePress (s : State) : State :=
  match s.alerts.stack with
  | [] => s
  | top :: rest =>
    let t := reportAcknowledged top { s with alerts := { s.alerts with stack := rest } }
    if rest = [] then holdEnds s.alerts.stack.length t else topChanged s.alerts.stack.length t

/-- The saved focus becomes NONE if it names the pane (R119). -/
def dropSaved (n : Nat) (s : State) : State :=
  if s.alerts.saved = some n then { s with alerts := { s.alerts with saved := none } } else s

/-- The Alert Controller takes a pane closing event (R118). -/
def alertPaneClosing (n : Nat) (s : State) : State :=
  let before := s.alerts.stack
  let after := before.filter (· != n)
  let t := { s with alerts := { s.alerts with stack := after, unreported := s.alerts.unreported.filter (· != n) } }
  let t :=
    if before.contains n then
      if after = [] then holdEnds before.length t
      else if before.head? = some n then topChanged before.length t
      else alertField before.length t
    else t
  dropSaved n t

/-- The saved focus becomes NONE if it names a pane of the owner (R121, R122). -/
def dropSavedOf (o : Owner) (s : State) : State :=
  if s.ownerOf s.alerts.saved = some o then { s with alerts := { s.alerts with saved := none } } else s

/-- The Alert Controller takes vehicle absence (R121). -/
def alertAbsence (s : State) : State :=
  let s := dropSavedOf .vehicle s
  if s.alerts.stack = [] then s else setFocus s.alertFocus s

/-- The Alert Controller takes the vehicle unit's return: the waiting notices, oldest first, then the focus during a
hold (R117, R121). -/
def alertReturn (s : State) : State :=
  let t := s.alerts.unreported.foldl (fun s n => handVehicle (.notice (.alertAcknowledged n)) s) s
  let t := { t with alerts := { t.alerts with unreported := [] } }
  if t.alerts.stack = [] then t else setFocus t.alertFocus t

/-- The Alert Controller takes tablet departure (R122). -/
def alertDeparture (s : State) : State := dropSavedOf .tablet s

/-- The Alert Controller takes a deferred pane (R120). -/
def deferredFocus (n : Nat) (s : State) : State :=
  if s.alerts.stack = [] then
    if s.eligible n then setFocus (some n) s else s
  else { s with alerts := { s.alerts with saved := if s.eligible n then some n else none } }

end Sys2Proof.Machine
end

