-- ==== Sys2Proof/Machine/KeyOps.lean ====
section
/-! DEFINITION. The Key Router's shared operations: focus fix-up, keys going down and up, the flush, departure and absence
(R87, R88, R90 to R97, R100 to R108). -/

namespace Sys2Proof.Machine

/-! ### Focus -/

/-- The focus fix-up: NONE during a hold, else the first pane of the ring, else NONE (R88). -/
def fixUp (s : State) : State := setFocus (if s.router.hold then none else s.ring.head?) s

/-- The Key Router takes a pane closing event, or the hiding of a pane: fix-up if it names the focused pane (R88). -/
def routerPaneLost (n : Nat) (s : State) : State := if s.router.focus = some n then fixUp s else s

/-- The entry that follows `n` in a list, wrapping from the last to the first. -/
def nextIn (l : List Nat) (n : Nat) : Option Nat :=
  match (l.dropWhile (· != n)).tail with
  | next :: _ => some next
  | [] => l.head?

/-- The focus step of FOCUS_NEXT (R87). -/
def focusNext (s : State) : State :=
  if s.router.hold then s
  else
    match s.router.focus with
    | none => setFocus s.ring.head? s
    | some n => setFocus (nextIn s.ring n) s

/-! ### Keys -/

/-- The roles of R70. -/
inductive KeyRole
  | routed
  | focusNext
  | brightDown
  | brightUp
  | alertAck
  | ignored
deriving DecidableEq, Repr

/-- The role of a key code (R70). -/
def keyRole (code : Nat) : KeyRole :=
  if code < 120 then .routed
  else if code = 120 then .focusNext
  else if code = 121 then .brightDown
  else if code = 122 then .brightUp
  else if code = 123 then .alertAck
  else .ignored

/-- An entry of the held-key table is made, newest last (R90). -/
def holdKey (code : Nat) (target : Option Owner) (s : State) : State :=
  { s with router := { s.router with held := s.router.held ++ [{ code := code, target := target, time := s.now }] } }

/-- The repeat stops (R102). -/
def stopRepeat (s : State) : State := { s with router := { s.router with repeatKey := none } }

/-- A brightness step: k within −6 to +6, and the BRT field (R135). -/
def brightnessStep (step : Int) (s : State) : State :=
  let k := max (-6) (min 6 (s.light.offset + step))
  rewriteField .brt (brtText s.light.offset) (brtText k) { s with light := { s.light with offset := k } }

/-- The master that an owner is. -/
def ownerMaster : Owner → Option Master
  | .tablet => some .tablet
  | .vehicle => some .vehicle
  | .part => none

/-- The master that a ROUTED DOWN goes to: the owner of the focused pane, unless its queue holds 22 or more events (R94
steps 1 and 2). -/
def State.routeTarget (s : State) : Option Master :=
  match (s.ownerOf s.router.focus).bind ownerMaster with
  | some m => if downThreshold ≤ (s.router.channel m).queue.length then none else some m
  | none => none

/-- A ROUTED DOWN is given its target and placed (R94). -/
def routedDown (code : Nat) (s : State) : State :=
  match s.routeTarget with
  | none => holdKey code none s
  | some m =>
    let s := holdKey code (some (masterOwner m)) (placeEvent m code .down s)
    let c := s.router.channel m
    if c.enabled then
      { s with router := { s.router with repeatKey := some { code := code, target := m, next := s.now + c.delay } } }
    else s

/-- The Key Router takes a DOWN (R91 to R94). -/
def keyDown (code : Nat) (s : State) : State :=
  let s := match s.router.repeatKey with
    | some r => if r.code ≠ code then stopRepeat s else s
    | none => s
  if heldKeyLimit ≤ s.router.held.length then s
  else
    match keyRole code with
    | .ignored => s
    | .focusNext => focusNext (holdKey code (some .part) s)
    | .brightDown => brightnessStep (-1) (holdKey code (some .part) s)
    | .brightUp => brightnessStep 1 (holdKey code (some .part) s)
    | .alertAck => acknowledgePress (holdKey code (some .part) s)
    | .routed => routedDown code s

/-- An UP event to the master an entry is targeted at, if it is targeted at one (R95). -/
def releaseTo (target : Option Owner) (code : Nat) (s : State) : State :=
  match target.bind ownerMaster with
  | some m => appendEvent m code .up s
  | none => s

/-- The Key Router takes an UP (R95). -/
def keyUp (code : Nat) (s : State) : State :=
  match s.router.held.find? (·.code == code) with
  | none => s
  | some e =>
    let s := { s with router := { s.router with held := s.router.held.eraseP (·.code == code) } }
    let s := match e.target.bind ownerMaster with
      | some m => placeEvent m code .up s
      | none => s
    if s.router.repeatKey.any (·.code == code) then stopRepeat s else s

/-- The Key Router takes a captured DOWN (R96). -/
def capturedDown (code : Nat) (s : State) : State :=
  if heldKeyLimit ≤ s.router.held.length then s else holdKey code none s

/-- The Key Router takes a flush: the UPs of every held key of a master, oldest first; the table emptied; the repeat
stopped; then the reports (R97). -/
def flush (s : State) : State :=
  let t := s.router.held.foldl (fun s e => releaseTo e.target e.code s) s
  let t := stopRepeat { t with router := { t.router with held := [] } }
  tryReport .vehicle (tryReport .tablet t)

/-! ### Departure and absence (R107, R108) -/

/-- The held entries of an owner change to target NONE (R107 step 2). -/
def retarget (o : Owner) (held : List HeldKey) : List HeldKey :=
  held.map fun e => if e.target = some o then { e with target := none } else e

/-- The Key Router takes the departure of the tablet or the absence of the vehicle unit (R107, R108). -/
def routerGone (m : Master) (s : State) : State :=
  let c := s.router.channel m
  let s := s.setChannel m { c with queue := [], lastEntry := none, gate := .opened }
  let s := { s with router := { s.router with
    held := retarget (masterOwner m) s.router.held
    repeatKey := s.router.repeatKey.filter (·.target != m) } }
  if s.ownerOf s.router.focus = some (masterOwner m) then fixUp s else s

/-- The Key Router takes the tablet's link start: the last-entry time is absent, and a report is built if its
conditions hold (R98, R103). -/
def routerLinkStart (s : State) : State :=
  tryReport .tablet (s.setChannel .tablet { s.router.tablet with lastEntry := none })

/-- The Key Router takes the resume: the tablet's gate becomes OPEN and a report is built if its conditions hold
(R106). -/
def routerResume (s : State) : State :=
  tryReport .tablet (s.setChannel .tablet { s.router.tablet with gate := .opened })

end Sys2Proof.Machine
end

