-- ==== Sys2Proof/Machine/LightOps.lean ====
section
/-! DEFINITION. The Light and Supply Monitor's computation (R127 to R134) and the Park Controller's transitions with what
they hand to the Scan-out Unit, the Matrix Scanner and the monitor (R65, R66, R76, R78, R126, R134, R141 to R143). -/

namespace Sys2Proof.Machine

/-! ### Filter, supply and temperature -/

/-- One step of the ambient filter: D ÷ 8 truncated toward zero, and at least one sixteenth (R131). -/
def filterStep (filter ambient : Nat) : Nat :=
  let d : Int := 16 * (ambient : Int) - filter
  let step := d.tdiv 8
  let step := if step = 0 then d.sign else step
  (filter + step).toNat

/-- The ambient filter at a completion: seeded when the AMBIENT record was absent (R131). -/
def filterAfter (l : Light) (ambient : Nat) : Nat :=
  match l.ambient with
  | none => 16 * ambient
  | some _ => filterStep l.filter ambient

/-- The supply state at a completion (R128). -/
def supplyAfter (value : Nat) (l : Light) : Light :=
  if l.low then
    if 500 ≤ value then
      if l.recoverCount < 4 then { l with recoverCount := l.recoverCount + 1 }
      else { l with recoverCount := 0, lowCount := 0, low := false }
    else { l with recoverCount := 0 }
  else if value < 450 then
    if l.lowCount = 0 then { l with lowCount := 1 } else { l with lowCount := 0, recoverCount := 0, low := true }
  else { l with lowCount := 0 }

/-- The temperature state at a completion (R129). -/
def tempAfter (value : Nat) (l : Light) : Light :=
  if l.hot then { l with hot := 500 ≤ value } else { l with hot := 540 ≤ value }

/-! ### The backlight -/

/-- L_auto, from the filtered level a = F div 16 (R132). -/
def autoLevel (filter : Nat) : Nat := 40 + filter / 16 * 960 / 1023

/-- base after the user offset stage: clamp(L_auto + 60 × k, 20, 1000) (R132). -/
def baseLevel (filter : Nat) (k : Int) : Nat := (max 20 (min 1000 ((autoLevel filter : Int) + 60 * k))).toNat

/-- The target duty, through the stages of R133. -/
def targetDuty (l : Light) : Nat :=
  let base := baseLevel l.filter l.offset
  let base := if l.darkCab then 0 else base
  let base := if l.hold then max base 800 else base
  let base := if l.low then min base 200 else base
  let base := if l.hot then min base 600 else base
  if l.parked then 0 else base

/-- The applied duty moved toward the target, by at most 25 (R134). -/
def slew (applied target : Nat) : Nat :=
  if applied < target then applied + min 25 (target - applied) else applied - min 25 (applied - target)

/-- The backlight update: the target, then the jump or the slew (R132 to R134). -/
def backlightUpdate (l : Light) : Light :=
  let target := targetDuty l
  { l with
    target := target
    applied := if l.jump then target else slew l.applied target
    jump := false }

/-- Steps 1 and 2 of R127: the three values stored, the filter, the supply state and the temperature state. -/
def convertedLight (ambient supply panelTemp : Nat) (l : Light) : Light :=
  tempAfter panelTemp (supplyAfter supply
    { l with
      converting := false
      filter := filterAfter l ambient
      ambient := some ambient, supply := some supply, panelTemp := some panelTemp })

/-- A converter scan starts now (R126). -/
def startScan (s : State) : State := { s with light := { s.light with converting := true, scanStart := s.now } }

/-! ### Park -/

/-- The Matrix Scanner takes the entry to PARKED, before its flush (R76). -/
def Scanner.enterParked (sc : Scanner) : Scanner :=
  { sc with mode := .wakeDetect, positions := allUp, wakeLatch := false, quietSeen := false }

/-- The Matrix Scanner takes the leaving of PARKED by its wake latch (R78). With the latch clear a key held since before the
entry to PARKED is a new press, key 123 too (R78, R97; R123 says otherwise of an ALERT_ACK: notes/assumptions/34.md). -/
def Scanner.leaveParked (sc : Scanner) : Scanner :=
  if sc.mode = .wakeDetect then
    { sc with mode := if sc.wakeLatch then .capture else .scanning, wakeLatch := false, quietSeen := false }
  else sc

/-- The entry to PARKED, handed to the Scan-out Unit (R65), the Matrix Scanner with its flush (R76, R97) and the monitor
(R134). -/
def enterParked (s : State) : State :=
  let s := { s with park := { s.park with state := .parked, countdown := none } }
  let s := { s with scanOut := { s.scanOut with panel := .off } }
  let s := flush { s with scanner := s.scanner.enterParked }
  { s with light := { s.light with parked := true, target := 0, applied := 0 } }

/-- The leaving of PARKED, handed to the Scan-out Unit (R66), the Matrix Scanner (R78) and the monitor, whose next scan
begins at once if none is under way (R126, R134). -/
def leaveParked (s : State) : State :=
  let s := { s with scanOut := { s.scanOut with
    panel := if s.scanOut.panel = PanelState.off then .resuming else s.scanOut.panel } }
  let s := { s with scanner := s.scanner.leaveParked }
  let s := { s with light := { s.light with parked := false } }
  if s.light.converting then s else startScan s

/-- PARK_PENDING begins with a countdown length in ms (R141, R143). -/
def beginCountdown (length : Nat) (s : State) : State :=
  { s with park := { s.park with state := .parkPending, countdown := some length, countdownLength := length } }

/-- The countdown restarts, in PARK_PENDING (R142). -/
def restartCountdown (s : State) : State :=
  if s.park.state = .parkPending then
    { s with park := { s.park with countdown := some s.park.countdownLength } }
  else s

/-- RUN, without a countdown (R141). -/
def toRun (s : State) : State := { s with park := { s.park with state := .run, countdown := none } }

/-- A key wake or a WAKE leaves PARKED, to RUN or PARK_PENDING by the qualified IGNITION level (R143). -/
def wakeUp (s : State) : State :=
  if s.ignitionOn then leaveParked (toRun s) else leaveParked (beginCountdown (max (1000 * s.park.delay) 30000) s)

/-- The Park Controller takes a key wake (R143). -/
def keyWake (s : State) : State := if s.park.state = .parked then wakeUp s else s

/-- The Park Controller takes a qualified edge of IGNITION (R141). -/
def ignitionEdge (on : Bool) (s : State) : State :=
  if on then
    match s.park.state with
    | .run => s
    | .parkPending => toRun s
    | .parked => leaveParked (toRun s)
  else
    match s.park.state with
    | .run => if s.park.delay = 0 then enterParked s else beginCountdown (1000 * s.park.delay) s
    | .parkPending => s
    | .parked => s

end Sys2Proof.Machine
end

