-- ==== Sys2Proof/Machine/Flags.lean ====
section
/-! DEFINITION. The Input Block's flags (R148 to R150): when a master's flag is set, cleared and reported. -/

namespace Sys2Proof.Machine

/-- A master's flag for an input (R145). -/
def DiscreteInput.flag (i : DiscreteInput) : Master → Bool
  | .tablet => i.tabletFlag
  | .vehicle => i.vehicleFlag

/-- A master's ack record for an input (R145). -/
def DiscreteInput.ack (i : DiscreteInput) : Master → Bool
  | .tablet => i.tabletAck
  | .vehicle => i.vehicleAck

/-- A master's flag and ack record replaced. -/
def DiscreteInput.setFlag (i : DiscreteInput) (m : Master) (flag ack : Bool) : DiscreteInput :=
  match m with
  | .tablet => { i with tabletFlag := flag, tabletAck := ack }
  | .vehicle => { i with vehicleFlag := flag, vehicleAck := ack }

/-- The mode sets a clear flag at an edge to the level given (R148). -/
def InputMode.selects (mode : InputMode) (level : Bool) : Bool :=
  match mode with
  | .edge .rising => level
  | .edge .falling => !level
  | .edge .both => true
  | .level active => level == active

/-- A master's flag after an edge to the level given (R148, R149). -/
def DiscreteInput.flagAfterEdge (i : DiscreteInput) (m : Master) (level : Bool) : DiscreteInput :=
  if i.mode.selects level then
    if i.flag m then i else i.setFlag m true false
  else
    match i.mode with
    | .level _ => if i.ack m then i.setFlag m false false else i
    | .edge _ => i

/-- An input record replaced. -/
def State.setInput (s : State) (n : Nat) (i : DiscreteInput) : State := { s with inputs := s.inputs.set n i }

/-- An edge taken for one master's flag: INPUT CHANGE when the flag goes from clear to set (R148). -/
def edgeForFlag (n : Nat) (level : Bool) (interval : Nat) (s : State) (m : Master) : State :=
  match s.inputs[n]? with
  | some i =>
    let s := s.setInput n (i.flagAfterEdge m level)
    if i.mode.selects level && !i.flag m then hand m (.notice (.inputChange n level interval)) s else s
  | none => s

/-- INPUT CHANGE for each input whose flag for the master is set, in ascending input number (R148). -/
def reportFlags (m : Master) (s : State) : State :=
  s.inputs.zipIdx.foldl
    (fun t (i, n) => if i.flag m then hand m (.notice (.inputChange n i.qualified i.interval)) t else t) s

/-- INPUT ACK on a master's flag (R149). -/
def DiscreteInput.acknowledged (i : DiscreteInput) (m : Master) : DiscreteInput :=
  if i.flag m then
    match i.mode with
    | .edge _ => i.setFlag m false false
    | .level active => if i.qualified = active then i.setFlag m true true else i.setFlag m false false
  else i

/-- The mode of INPUT MODE's codes (R150, R178); none for a code that is not defined. -/
def readMode (mode sense : Nat) : Option InputMode :=
  match mode, sense with
  | 0, 0 => some (.edge .rising)
  | 0, 1 => some (.edge .falling)
  | 0, 2 => some (.edge .both)
  | 1, 0 => some (.level false)
  | 1, 1 => some (.level true)
  | _, _ => none

/-- The qualification time in force after INPUT MODE: clamped for AUX0 and AUX1, fixed for the others (R150). -/
def newQualTime (n time : Nat) (i : DiscreteInput) : Nat := if 3 ≤ n then max 1 (min 255 time) else i.qualTime

/-- An input after steps 1 to 3 of R150. -/
def DiscreteInput.remoded (i : DiscreteInput) (n : Nat) (mode : InputMode) (time : Nat) : DiscreteInput :=
  { i with
    mode := mode, qualTime := newQualTime n time i
    tabletFlag := false, vehicleFlag := false, tabletAck := false, vehicleAck := false }

/-- The active level of LEVEL mode holds already (R150 step 4). -/
def DiscreteInput.levelActive (i : DiscreteInput) : Bool :=
  match i.mode with
  | .level active => i.qualified == active
  | .edge _ => false

end Sys2Proof.Machine
end

