-- ==== Sys2Proof/Machine/ScanOps.lean ====
section
/-! DEFINITION. The Matrix Scanner's computation: debounce and the shock test (R72, R73), the capture scan (R79) and the
return of every position to STABLE_UP (R76, R80). -/

namespace Sys2Proof.Machine

/-- What a scan hands on for one position. -/
inductive KeyChange
  | down (code : Nat)
  | up (code : Nat)
deriving DecidableEq, Repr

/-- The drive lines in the order in which a full scan drives them: KD0 first (R69). -/
def driveOrder : List Nat := List.range 8

/-- The key code of the crossing of a drive line and a sense line (R69). -/
def crossing (drive sense : Nat) : Nat := drive * 16 + sense

/-- The 16 sense lines, KS0 in bit 0, as a scan reads them in the slot of a drive line (R69). The slots of a scan follow
each other in the 128 readings that its scan event carries, KD0's first. -/
def slotSenses (raw : BitVec 128) (drive : Nat) : BitVec 16 := raw.extractLsb' (crossing drive 0) 16

/-- The raw readings of a full scan in the order in which it makes them, each with its key code: slot after slot, and in
each slot the 16 sense lines (R69). -/
def scanReadings (raw : BitVec 128) : List (Nat × Bool) :=
  driveOrder.flatMap fun d => (List.range 16).map fun k => (crossing d k, (slotSenses raw d).getLsbD k)

/-- The raw reading of a key code is DOWN: its sense line is active in the slot of its drive line (R69). -/
def readsDown (raw : BitVec 128) (code : Nat) : Bool := (slotSenses raw (code / 16)).getLsbD (code % 16)

/-- A position's raw reading differs from its stable state (R73). -/
def Position.differs (p : Position) (down : Bool) : Bool :=
  match p.state with
  | .stableUp => down
  | .pressPending => down
  | .stableDown => !down
  | .releasePending => !down

/-- The positions with their key codes. -/
def Scanner.numbered (sc : Scanner) : List (Position × Nat) := sc.positions.zipIdx

/-- Six or more positions differ: the scan is a shock scan (R73). -/
def Scanner.shock (sc : Scanner) (raw : BitVec 128) : Bool :=
  6 ≤ sc.numbered.countP fun (p, c) => p.differs (readsDown raw c)

/-- One position moves by its state and its raw reading (R72). -/
def Position.move (pressCount releaseCount : Nat) (down : Bool) (p : Position) : Position :=
  match p.state, down with
  | .stableUp, false => { state := .stableUp, count := 0 }
  | .stableUp, true => { state := .pressPending, count := 1 }
  | .pressPending, true =>
    if p.count + 1 < pressCount then { state := .pressPending, count := p.count + 1 }
    else { state := .stableDown, count := 0 }
  | .pressPending, false => { state := .stableUp, count := 0 }
  | .stableDown, true => { state := .stableDown, count := 0 }
  | .stableDown, false => { state := .releasePending, count := 1 }
  | .releasePending, false =>
    if p.count + 1 < releaseCount then { state := .releasePending, count := p.count + 1 }
    else { state := .stableUp, count := 0 }
  | .releasePending, true => { state := .stableDown, count := 0 }

/-- What the move of one position hands on: a press or a release accepted (R72). -/
def Position.accepted (pressCount releaseCount : Nat) (down : Bool) (code : Nat) (p : Position) : Option KeyChange :=
  match p.state, down with
  | .pressPending, true => if p.count + 1 < pressCount then none else some (.down code)
  | .releasePending, false => if p.count + 1 < releaseCount then none else some (.up code)
  | _, _ => none

/-- The scanner after a scan that is not discarded (R72). -/
def Scanner.debounced (sc : Scanner) (raw : BitVec 128) : Scanner :=
  { sc with positions := sc.numbered.map fun (p, c) => p.move sc.pressCount sc.releaseCount (readsDown raw c) }

/-- The changes accepted at a scan, in ascending key code (R72, R74). -/
def Scanner.changes (sc : Scanner) (raw : BitVec 128) : List KeyChange :=
  sc.numbered.filterMap fun (p, c) => p.accepted sc.pressCount sc.releaseCount (readsDown raw c) c

/-- An accepted change handed to the Key Router, and a DOWN also to the Park Controller (R74, R142). -/
def takeChange (s : State) : KeyChange → State
  | .down c => restartCountdown (keyDown c s)
  | .up c => keyUp c s

/-- The scanner after the capture scan (R79). -/
def Scanner.captured (sc : Scanner) (raw : BitVec 128) : Scanner :=
  { sc with
    mode := .scanning
    positions := sc.numbered.map fun (_, c) =>
      if readsDown raw c then { state := .stableDown, count := 0 } else Position.up }

/-- The key codes that the capture scan reads DOWN, ascending (R79). -/
def Scanner.capturedCodes (sc : Scanner) (raw : BitVec 128) : List Nat :=
  sc.numbered.filterMap fun (_, c) => if readsDown raw c then some c else none

/-- The scanner takes RESTART SCANNER, before its flush (R80). -/
def Scanner.restarted (sc : Scanner) : Scanner :=
  { sc with
    positions := allUp
    mode := if sc.mode = .wakeDetect then .wakeDetect else .scanning
    wakeLatch := false, quietSeen := false }

end Sys2Proof.Machine
end

