-- ==== Sys2Proof/Machine/LayoutOps.lean ====
section
/-! DEFINITION. The Layout Controller and the Surface Allocator: clamping, the pane check, allocation, staging, the orders,
closing and freeing panes, and the frame boundary (R3 to R25, R29, R33 to R40). -/

namespace Sys2Proof.Machine

/-! ### Windows and scrolls -/

/-- Window clamping (R10). -/
def clampWindow (w : Window) : Window :=
  let left := min w.left (screenWidth - 1)
  let top := min w.top (screenHeight - 1)
  { left := left, top := top, width := min w.width (screenWidth - left), height := min w.height (screenHeight - top) }

/-- Cell units converted to pixels (R170). -/
def cellWindow (w : Window) : Window :=
  { left := w.left * 8, top := w.top * 16, width := w.width * 8, height := w.height * 16 }

/-- The window of a request in pixels: the vehicle unit's is converted by its port (R170). -/
def pixelWindow (m : Master) (w : Window) : Window :=
  match m with
  | .tablet => w
  | .vehicle => cellWindow w

/-- A window without a width or a height (R8 step 2, R13). -/
def emptyWindow (w : Window) : Bool := w.width == 0 || w.height == 0

/-! ### The pane check -/

/-- The pane check of a request from a master (R5, R6). A request naming pane 0 that is not SHOW or HIDE is refused with
NOT_OWNER. -/
def State.paneCheck (s : State) (m : Master) (n : Nat) : Except Result Pane :=
  match s.pane? n with
  | none => .error .noSuchPane
  | some p =>
    if n = 0 then .error .notOwner
    else if p.phase = .closing then .error .paneClosing
    else if p.owner ≠ masterOwner m then .error .notOwner
    else .ok p

/-- The pane check of SHOW and HIDE, which the vehicle unit may send for pane 0 and the tablet may not (R5, R6). -/
def State.visibilityCheck (s : State) (m : Master) (n : Nat) : Except Result Pane :=
  match s.pane? n with
  | none => .error .noSuchPane
  | some p =>
    if n = 0 then
      match m with
      | .tablet => .error .notAllowed
      | .vehicle => .ok p
    else s.paneCheck m n

/-! ### Allocation -/

/-- The first block of a region, and the block after its last (R32). -/
def regionBounds : Owner → Nat × Nat
  | .tablet => (0, 400)
  | .vehicle => (400, 480)
  | .part => (480, 512)

/-- An owner's allocation list. -/
def Allocator.runs (a : Allocator) : Owner → List Run
  | .tablet => a.tablet
  | .vehicle => a.vehicle
  | .part => a.part

/-- An owner's allocation list replaced. -/
def Allocator.setRuns (a : Allocator) (o : Owner) (runs : List Run) : Allocator :=
  match o with
  | .tablet => { a with tablet := runs }
  | .vehicle => { a with vehicle := runs }
  | .part => { a with part := runs }

/-- The first gap of at least `n` blocks from block `at` on, the region ending before block `last` (R36). -/
def firstFit (n last : Nat) : Nat → List Run → Option Nat
  | start, [] => if start + n ≤ last then some start else none
  | start, r :: rest => if start + n ≤ r.start then some start else firstFit n last (r.start + r.length) rest

/-- A run entered in its start-block place (R33, R36). -/
def insertRun (r : Run) : List Run → List Run
  | [] => [r]
  | q :: rest => if r.start < q.start then r :: q :: rest else q :: insertRun r rest

/-- The run that the Surface Allocator finds for an owner (R36). -/
def State.findRun (s : State) (o : Owner) (n : Nat) : Option Run :=
  (firstFit n (regionBounds o).2 (regionBounds o).1 (s.alloc.runs o)).map fun start => { start := start, length := n }

/-- A run removed from its region's list (R37). -/
def freeRun (o : Owner) (r : Run) (s : State) : State :=
  { s with alloc := s.alloc.setRuns o ((s.alloc.runs o).erase r) }

/-! ### Claims -/

/-- Panes that an owner may hold (R3). -/
def paneQuota : Master → Nat
  | .tablet => 4
  | .vehicle => 3

/-- Non-FREE panes that an owner holds (R3). -/
def State.panesOf (s : State) (o : Owner) : Nat := s.layout.panes.countP fun p => p.any (·.owner == o)

/-- The lowest FREE record of 1 to 7 (R3). -/
def State.lowestFree (s : State) : Option Nat :=
  [1, 2, 3, 4, 5, 6, 7].find? fun n => s.layout.panes[n]? == some none

/-- The kind that a CLAIM's code names (R178). -/
def kindOf (code : Nat) : PaneKind := if code = 0 then .pixel else .text

/-- The class that a CLAIM's code names (R178). -/
def classOf (code : Nat) : PaneClass := if code = 0 then .normal else .alert

/-- Step 1 of R8, for kind and class codes that the layout defines. -/
def kindClassRefusal (m : Master) (ops : ClaimOps) : Option Result :=
  if ops.kind ≤ 1 ∧ ops.cls ≤ 1 then
    match m with
    | .tablet => if ops.cls = 1 then some .badClass else none
    | .vehicle => if ops.kind = 0 then some .badKind else none
  else none

/-- A surface size outside its range (R1). -/
def sizeBad (ops : ClaimOps) : Bool :=
  if ops.kind = 0 then ops.sizeX == 0 || 2048 < ops.sizeX || ops.sizeY == 0 || 2048 < ops.sizeY
  else ops.sizeX == 0 || 256 < ops.sizeX || ops.sizeY == 0 || 128 < ops.sizeY

/-- Step 2 of R8, with the codes and option bits of R176 and R178. -/
def valuesBad (ops : ClaimOps) (w : Window) : Bool :=
  emptyWindow w || sizeBad ops || (ops.buffers != 1 && ops.buffers != 2)
    || (ops.kind == 1 && ops.transparent.isSome)
    || 1 < ops.kind || 1 < ops.cls || ops.strayOptions || ops.transparentBit != ops.transparent.isSome

/-- The blocks that a CLAIM needs (R34). -/
def neededBlocks (ops : ClaimOps) : Nat := surfaceBlocks ops.sizeX ops.sizeY * ops.buffers

/-- The checks of R8 in their order, the first failing step deciding; else the record and the run that the claim
takes. -/
def State.claimCheck (s : State) (m : Master) (ops : ClaimOps) : Except Result (Nat × Run) :=
  match kindClassRefusal m ops with
  | some r => .error r
  | none =>
    if valuesBad ops (pixelWindow m ops.window) then .error .badValue
    else if paneQuota m ≤ s.panesOf (masterOwner m) then .error .quota
    else
      match s.findRun (masterOwner m) (neededBlocks ops), s.lowestFree with
      | none, _ => .error .noMemory
      | some _, none => .error .quota
      | some run, some n => .ok (n, run)

/-- The record that a CLAIM makes (R9). -/
def claimedPane (m : Master) (ops : ClaimOps) (run : Run) : Pane :=
  { phase := .preparing, owner := masterOwner m, kind := kindOf ops.kind, cls := classOf ops.cls
    acceptsKeys := ops.acceptsKeys, window := clampWindow (pixelWindow m ops.window)
    sizeX := ops.sizeX, sizeY := ops.sizeY, buffers := ops.buffers, front := 0, run := run
    scroll := { x := 0, y := 0 }, transparent := ops.transparent
    visible := ops.shown || ops.cls == 1, staged := PendingPart.absent }

/-- The fill that a CLAIM starts (R38). -/
def claimedFill (n : Nat) (p : Pane) : FillEntry :=
  { pane := n, run := p.run
    pattern := match p.kind with
      | .pixel => .zero
      | .text => .blank
    blocksDone := 0, bytesDone := 0 }

/-- A CLAIM that passes R8: the run entered, the record taken, the fill appended (R9, R36, R38). -/
def takeClaim (n : Nat) (p : Pane) (s : State) : State :=
  let s := { s with alloc := s.alloc.setRuns p.owner (insertRun p.run (s.alloc.runs p.owner)) }
  let s := s.setPane n (some p)
  { s with mem := { s.mem with fills := s.mem.fills ++ [claimedFill n p] } }

/-! ### Staging and the orders -/

/-- A pane's pending part replaced (R12). -/
def stage (n : Nat) (p : Pane) (part : PendingPart) (s : State) : State := s.setPane n (some { p with staged := part })

/-- Inserted at the top of the NORMAL tier: right below pane 0 (R17, R18, R23). -/
def insertNormal (n : Nat) : List Nat → List Nat
  | [] => [n]
  | k :: rest => if k = 0 then 0 :: n :: rest else k :: insertNormal n rest

/-- Inserted at the top of its tier (R17, R23). -/
def insertTop (cls : PaneClass) (n : Nat) (order : List Nat) : List Nat :=
  match cls with
  | .alert => n :: order
  | .normal => insertNormal n order

/-- A pane removed from an order or a list. -/
def without (n : Nat) (order : List Nat) : List Nat := order.filter (· != n)

/-- The pending stacking order replaced. -/
def State.setNextOrder (s : State) (order : List Nat) : State := { s with layout := { s.layout with nextOrder := order } }

/-! ### Freeing and closing -/

/-- The fills of the panes given are aborted together: their entries leave the list, and the fill in progress is cut off
if it is one of them. A fill that waited has written no byte (R39, R40). -/
def abortFills (gone : Nat → Bool) (s : State) : State :=
  let t := match s.mem.fills with
    | e :: _ => if gone e.pane then cutFill e s else s
    | [] => s
  { t with mem := { t.mem with fills := t.mem.fills.filter fun e => !gone e.pane } }

/-- The fill of one pane is aborted (R19, R40). -/
def abortFill (n : Nat) (s : State) : State := abortFills (· == n) s

/-- A PREPARING or READY pane is freed at once (R19, R29). -/
def freePane (n : Nat) (p : Pane) (s : State) : State :=
  let s := if p.phase = .preparing then abortFill n s else s
  let s := freeRun p.owner p.run s
  let s := s.setPane n none
  { s with layout := { s.layout with ready := without n s.layout.ready } }

/-- A LIVE pane becomes CLOSING (R20, R29). -/
def closePane (n : Nat) (p : Pane) (s : State) : State :=
  (s.setPane n (some { p with phase := .closing, staged := PendingPart.absent })).setNextOrder
    (without n s.layout.nextOrder)

/-- The Key Router and then the Alert Controller take a pane closing event (R21, R88, R118); R118 lets either be first
(notes/assumptions/19.md). -/
def takeClosing (s : State) (n : Nat) : State := alertPaneClosing n (routerPaneLost n s)

/-- The eight pane numbers, ascending. -/
def paneNumbers : List Nat := List.range 8

/-- Tablet departure on one pane (R29). -/
def departPane (s : State) (n : Nat) : State :=
  match s.pane? n with
  | some p =>
    if p.owner = .tablet then
      match p.phase with
      | .preparing => freePane n p s
      | .ready => freePane n p s
      | .live => closePane n p s
      | .closing => s
    else s
  | none => s

/-- A PREPARING pane of the tablet, whose fill a departure aborts (R29). -/
def State.tabletPreparing (s : State) (n : Nat) : Bool :=
  paneNumbers.contains n && (s.pane? n).any fun p => p.owner == .tablet && p.phase == .preparing

/-- Tablet departure as the Layout Controller takes it: one event, so every fill of the tablet is aborted together, and
then the panes in ascending number (R29, R40). -/
def departPanes (s : State) : State := paneNumbers.foldl departPane (abortFills s.tabletPreparing s)

/-- The tablet's LIVE panes, which a departure closes, ascending (R29). -/
def State.tabletLive (s : State) : List Nat :=
  paneNumbers.filter fun n => (s.pane? n).any fun p => p.owner == .tablet && p.phase == .live

/-! ### The frame boundary -/

/-- The closing of one pane at a boundary (R22). -/
def boundaryClose (s : State) (n : Nat) : State :=
  match s.pane? n with
  | some p =>
    if p.phase = .closing then
      let s := freeRun p.owner p.run s
      let s := s.setPane n none
      { s with layout := { s.layout with current := without n s.layout.current } }
    else s
  | none => s

/-- The number of the frame that the boundary begins (R25). -/
def State.nextFrame (s : State) : Nat := (s.layout.frame + 1).toNat

/-- One pane of the ready list becomes LIVE (R23). -/
def boundaryLive (s : State) (n : Nat) : State :=
  match s.pane? n with
  | some p =>
    if p.phase = .ready then
      let t := s.setPane n (some { p with phase := .live })
      let t := { t with layout := { t.layout with
        current := insertTop p.cls n t.layout.current
        nextOrder := insertTop p.cls n t.layout.nextOrder } }
      notify p.owner (.paneLive n s.nextFrame) t
    else s
  | none => s

/-- A record after its pending part became current (R24). -/
def Pane.applied (p : Pane) : Pane :=
  { p with
    window := p.staged.window.getD p.window
    scroll := p.staged.scroll.getD p.scroll
    visible := p.staged.visible.getD p.visible
    front := if p.staged.flip then 1 - p.front else p.front
    staged := PendingPart.absent }

/-- The pending part of one LIVE pane becomes current, with FLIP DONE for a flip (R24). -/
def boundaryApply (s : State) (n : Nat) : State :=
  match s.pane? n with
  | some p =>
    if p.phase = .live then
      let t := s.setPane n (some p.applied)
      if p.staged.flip then notify p.owner (.flipDone n p.applied.front s.nextFrame) t else t
    else s
  | none => s

/-- The layout part of a boundary, in the order of R22 to R25, without the events. -/
def boundaryLayout (s : State) : State :=
  let s := paneNumbers.foldl boundaryClose s
  let s := s.layout.ready.foldl boundaryLive s
  let s := { s with layout := { s.layout with ready := [] } }
  let s := paneNumbers.foldl boundaryApply s
  { s with layout := { s.layout with current := s.layout.nextOrder, frame := s.layout.frame + 1 } }

/-- The panes that were LIVE before the boundary and are hidden by it, ascending (R25). -/
def State.hiddenBy (s : State) : List Nat :=
  paneNumbers.filter fun n =>
    (s.pane? n).any fun p => p.phase == .live && p.visible && p.staged.visible == some false

/-- The Key Router takes a pane visibility changed event that hides a pane, and passes it on to the Alert Controller
(R88, R119). -/
def takeHidden (s : State) (n : Nat) : State := dropSaved n (routerPaneLost n s)

/-- The active line under way; none in vertical blanking (R52). -/
def ScanOut.activeLine (o : ScanOut) : Option Nat :=
  if o.line < blankingLines then none else some (o.line - blankingLines)

/-- The next position in the frame: the lines of blanking one after another, then the pixels of each active line from left
to right, the lines from top to bottom (R52). The last pixel of active line 479 is followed by the frame boundary alone,
which is a command (R53; notes/assumptions/12.md). -/
def ScanOut.advance (o : ScanOut) : ScanOut :=
  if blankingLines ≤ o.line ∧ o.column + 1 < screenWidth then { o with column := o.column + 1 }
  else if o.line + 1 < frameLines then { o with line := o.line + 1, column := 0 }
  else o

/-- The frame goes on by one position while the running flag is set (R52, R54). -/
def frameGoesOn (s : State) : State := if s.scanOut.running then { s with scanOut := s.scanOut.advance } else s

/-- The Scan-out Unit takes its own boundary: RESUMING becomes ON, and the next frame begins (R53, R66). -/
def ScanOut.nextFrame (o : ScanOut) : ScanOut :=
  { o with line := 0, column := 0, panel := if o.panel = PanelState.resuming then .on else o.panel }

/-- The frame boundary taken whole: the layout, then the pane live events in list order, then the visibility events in
ascending order (R22 to R25, R66, R114; the order of the two kinds of event: notes/assumptions/20.md). -/
def takeBoundary (s : State) : State :=
  let lives := s.layout.ready
  let hidden := s.hiddenBy
  let t := boundaryLayout s
  let t := { t with scanOut := t.scanOut.nextFrame }
  let t := lives.foldl (fun t n => alertPaneLive n t) t
  hidden.foldl takeHidden t

end Sys2Proof.Machine
end

