-- ==== Sys2Proof/Machine/LinkOps.lean ====
section
/-! DEFINITION. The two ports: link states, link start, departure, HOLD and resume, packet intake and the write stream of
the Dock Link (R157 to R168); presence, frame intake and RESTART's units of the Vehicle Line (R169 to R174). -/

namespace Sys2Proof.Machine

/-! ### The link state as reported (R153, R157) -/

/-- The LINK LED, line 4, switched. -/
def setLinkLed (on : Bool) (s : State) : State :=
  { s with lines := { s.lines with lines := s.lines.lines.set 4 { out := true, latch := on } } }

/-- The LINK LED timer set or stopped. -/
def setLedTimer (t : Option Nat) (s : State) : State := { s with lines := { s.lines with ledTimer := t } }

/-- The Line Block takes a report of the link state (R153). -/
def linkLed (before after : LinkState) (s : State) : State :=
  match after with
  | .up => setLinkLed true (setLedTimer none s)
  | .absent => setLinkLed false (setLedTimer none s)
  | .attaching =>
    if before = .hold ∨ before = .attaching then s else setLinkLed true (setLedTimer (some (s.now + ledToggleMs)) s)
  | .hold => if before = .up then setLinkLed true (setLedTimer (some (s.now + ledToggleMs)) s) else s

/-- The port reports its state to the Layout Controller and the Line Block when it has changed (R27, R28, R157). -/
def reportLink (before : LinkState) (s : State) : State :=
  if s.dock.link = before then s
  else linkLed before s.dock.link (rewriteField .tab (tabText before) (tabText s.dock.link) s)

/-! ### HOLD and resume (R162) -/

/-- The entry to HOLD (R162). -/
def enterHold (s : State) : State :=
  reportLink s.dock.link
    { s with dock := { s.dock with
        link := .hold, silence := none, send := none, graceTimer := some (s.now + s.dock.grace), outbound := [] } }

/-- The resume from HOLD: the timers, the Key Router, then the reports (R162, R106). -/
def resumeLink (s : State) : State :=
  reportLink s.dock.link (routerResume
    { s with dock := { s.dock with
        link := .up, graceTimer := none, silence := some (s.now + dockSilenceMs), send := some (s.now + dockSendMs) } })

/-! ### Departure and link start (R160, R161) -/

/-- The port's own part of a departure (R161 steps 1 to 5), with what was under way cut off (R43). -/
def portDeparture (s : State) : State :=
  let s := cutWrite .tablet (cutDrain s)
  { s with dock := { s.dock with
      link := if s.bayHigh then .attaching else .absent
      silence := none, graceTimer := none, send := none, requests := [], outbound := []
      bufferA := .empty, bufferB := .empty, nextBuffer := .a, stream := none } }

/-- The tablet's lines become IN with latch 0 (R156). -/
def releaseTabletLines (s : State) : State :=
  { s with lines := { s.lines with
      lines := [0, 1, 2, 7].foldl (fun l n => l.set n { out := false, latch := false }) s.lines.lines } }

/-- The departure: the port, the Layout Controller, the Key Router, the Alert Controller with the closing events, the
Line Block, TABLET STATE (departed) and the reports of the link state, in the order of R161. -/
def departure (s : State) : State :=
  let before := s.dock.link
  let closed := s.tabletLive
  let s := departPanes (portDeparture s)
  let s := alertDeparture (routerGone .tablet s)
  let s := releaseTabletLines (closed.foldl takeClosing s)
  reportLink before (handVehicle (.notice (.tabletState false)) s)

/-- The link start that a HELLO causes (R160). -/
def linkStart (grace : Nat) (s : State) : State :=
  let before := s.dock.link
  let granted := max 100 (min 1000 grace)
  let s := { s with dock := { s.dock with
    grace := granted, link := .up, graceTimer := none
    silence := some (s.now + dockSilenceMs), send := some (s.now + dockSendMs)
    outbound := .reply 0x01 .ok (helloBytes granted) :: s.dock.outbound } }
  let s := reportFlags .tablet (routerLinkStart s)
  reportLink before (handVehicle (.notice (.tabletState true)) s)

/-- A HELLO at arrival: it starts the link in ATTACHING; in HOLD with BAY qualified HIGH it departs and starts; elsewhere
it changes nothing here (R158, R159). -/
def helloArrives (grace : Nat) (s : State) : State :=
  match s.dock.link with
  | .attaching => linkStart grace s
  | .hold => if s.bayHigh then linkStart grace (departure s) else s
  | .up => s
  | .absent => s

/-- A HELLO taken from the request queue (R159, R162, R165): in UP the departure comes first; in HOLD, which R159 lists for
a HELLO with BAY qualified HIGH only, it is gone from the queue and nothing else changes (notes/assumptions/38.md). -/
def helloTaken (grace : Nat) (s : State) : State := if s.dock.link = .up then linkStart grace (departure s) else s

/-- The grace expiry in HOLD (R159). -/
def graceExpires (s : State) : State := if s.dock.link = .hold ∧ s.due s.dock.graceTimer then departure s else s

/-- The silence expiry in UP (R159). -/
def silenceExpires (s : State) : State := if s.dock.link = .up ∧ s.due s.dock.silence then enterHold s else s

/-- The Dock Link Port takes a BAY qualified edge (R159). The request queue is kept through it, so a malformed HELLO queued
in ATTACHING stays in ABSENT (DESIGN CHOICE: notes/assumptions/41.md). -/
def bayEdge (high : Bool) (s : State) : State :=
  match s.dock.link, high with
  | .absent, true => reportLink .absent { s with dock := { s.dock with link := .attaching } }
  | .attaching, false => reportLink .attaching { s with dock := { s.dock with link := .absent } }
  | .up, false => enterHold s
  | _, _ => s

/-! ### Packet intake (R158, R165) -/

/-- A request enters the request queue, or is discarded when the queue holds 8 (R165). What the packet did to the link
before that stands (DEDUCED: notes/assumptions/40.md). -/
def enqueueTablet (r : Request) (s : State) : State :=
  if s.dock.requests.length < dockRequestLimit then
    { s with dock := { s.dock with requests := s.dock.requests ++ [r] } }
  else s

/-- Step 2 of R158 for a valid packet that is no well-formed HELLO: none where it is discarded; in UP the silence timer
restarts, in HOLD with BAY qualified HIGH the link resumes (R158, R159). `hello` says that its kind is HELLO. -/
def linkTakes (hello : Bool) (s : State) : Option State :=
  match s.dock.link with
  | .absent => none
  | .attaching => if hello then some s else none
  | .up => some { s with dock := { s.dock with silence := some (s.now + dockSilenceMs) } }
  | .hold => if s.bayHigh then some (resumeLink s) else none

/-! ### The write stream (R166 to R168) -/

/-- The notice that ends a stream (R167, R168, R178). -/
def writeDone (st : Stream) (result : WriteResult) (missing : Nat) (s : State) : State :=
  handTablet (.notice (.writeDone st.pane st.buffer result missing)) s

/-- No receive buffer holds bytes. -/
def State.buffersEmpty (s : State) : Bool := s.dock.bufferA == .empty && s.dock.bufferB == .empty

/-- WRITE DONE of an ended stream, once no receive buffer holds bytes of it; the record then becomes absent (R167). -/
def finishStream (s : State) : State :=
  match s.dock.stream with
  | some st =>
    if st.ended && s.buffersEmpty then
      writeDone st (if st.missing = 0 then .complete else .damaged) st.missing
        { s with dock := { s.dock with stream := none } }
    else s
  | none => s

/-- The stream record after an accepted packet (R167). -/
def Stream.accept (st : Stream) (offset len : Nat) : Stream :=
  let upTo := min (offset + len) st.total
  let next := max st.nextExpected upTo
  { st with
    missing := st.missing + (min offset st.total - st.nextExpected)
    received := st.received + (upTo - offset)
    nextExpected := next
    ended := next == st.total }

/-- The stream bytes of an accepted packet, those below T, land in the next buffer if there is one (R166). -/
def landPacket (st : Stream) (offset : Nat) (data : List Byte) (d : DockPort) : DockPort :=
  let bytes := data.take (st.total - offset)
  if bytes = [] then d
  else { d.setRx d.nextBuffer (.filled offset bytes) with nextBuffer := d.nextBuffer.other }

/-- The steps of R166 for a WRITE DATA that has reached the port's link state. -/
def takeWriteData (offset : Nat) (data : List Byte) (s : State) : State :=
  match s.dock.stream with
  | none => s
  | some st =>
    if s.dock.requests ≠ [] ∨ s.dock.rx s.dock.nextBuffer ≠ .empty ∨ st.ended ∨ offset < st.nextExpected then s
    else
      let accepted : DockPort := { s.dock with stream := some (st.accept offset data.length) }
      finishStream { s with dock := landPacket st offset data accepted }

/-- A valid packet whose header has been read (R158 steps 2 to 4). A request that the full queue then discards has restarted
the silence timer, or resumed the link, all the same (DEDUCED: notes/assumptions/40.md). -/
def takeIntake (hello : Bool) (intake : Intake) (s : State) : State :=
  match linkTakes hello s with
  | none => s
  | some t =>
    match intake with
    | .keepalive => t
    | .writeData offset data => takeWriteData offset data t
    | .request r => enqueueTablet r t

/-- A packet at its end (R158). A well-formed HELLO is taken at arrival in ATTACHING and HOLD (R159); one with a bad
header is a refused request like any other, queued in ATTACHING too (notes/assumptions/10.md). -/
def takePacket (bytes : List Byte) (s : State) : State :=
  match openPacket bytes with
  | none => s
  | some (kind, flags, payload) =>
    match intakeOf kind flags payload with
    | .request (.hello grace) =>
      if s.dock.link = .up then takeIntake true (.request (.hello grace)) s else helloArrives grace s
    | intake => takeIntake (kind == 0x01) intake s

/-- A write stream is opened by an accepted WRITE BEGIN (R44, R167); an open one ends INCOMPLETE first (R168). -/
def openStream (pane buffer : Nat) (rect : Rect) (s : State) : State :=
  let s := match s.dock.stream with
    | some st => if st.ended then s else writeDone st .incomplete (st.total - st.received) s
    | none => s
  let st : Stream :=
    { pane := pane, buffer := buffer, rect := rect, total := rect.w * rect.h * 2
      nextExpected := 0, received := 0, missing := 0, ended := false }
  { s with dock := { s.dock with stream := some st } }

/-- The Dock Link Port takes a pane closing or pane freed event with cause RELEASE (R21, R168). -/
def streamPaneGone (n : Nat) (s : State) : State :=
  match s.dock.stream with
  | some st =>
    if st.pane = n ∧ ¬st.ended then
      writeDone st .paneGone (st.total - st.received) { s with dock := { s.dock with stream := none } }
    else s
  | none => s

/-- The bytes of a buffer that the drain has written (R45); none if the pane's buffer is outside the memory. -/
def landDrain (s : State) (start : Nat) (bytes : List Byte) : Option (List Host.Cell) :=
  match s.dock.stream with
  | some st =>
    match s.pane? st.pane with
    | some p =>
      if p.takesWrites st.buffer then
        if p.bufferInMemory st.buffer then some (drainBytes p st start bytes s.mem.cells) else none
      else some s.mem.cells
    | none => some s.mem.cells
  | none => some s.mem.cells

/-! ### The Vehicle Line (R169 to R174) -/

/-- A request frame or text data frame enters the request queue, or is discarded when the queue holds 4 (R169). -/
def enqueueVehicle (r : Request) (s : State) : State :=
  if s.vehicle.requests.length < vehicleRequestLimit then
    { s with vehicle := { s.vehicle with requests := s.vehicle.requests ++ [r] } }
  else s

/-- The VEH field follows the presence (R28, R30). -/
def vehField (before after : Bool) (s : State) : State := rewriteField .veh (vehText before) (vehText after) s

/-- The return, handed to the Key Router, the Alert Controller, the Input Block and the Layout Controller (R172). -/
def vehicleReturn (s : State) : State :=
  let s := { s with vehicle := { s.vehicle with present := true } }
  vehField false true (reportFlags .vehicle (alertReturn s))

/-- The absence: both queues emptied, then handed to the Key Router, the Alert Controller and the Layout Controller
(R172, R108, R121, R30). -/
def vehicleAbsence (s : State) : State :=
  let s := { s with vehicle := { s.vehicle with
    present := false, silence := none, requests := [], outbound := [], restartDone := 0 } }
  vehField true false (alertAbsence (routerGone .vehicle s))

/-- A frame from the vehicle unit acts on presence (R172). -/
def vehicleHeard (s : State) : State :=
  let t := { s with vehicle := { s.vehicle with silence := some (s.now + vehicleSilenceMs) } }
  if s.vehicle.present then t else vehicleReturn t

/-- A frame received from the bus (R169, R172). -/
def takeFrame (f : CanFrame) (s : State) : State :=
  if f.remote then s
  else if f.id = s.vehicle.base then enqueueVehicle (readRequestFrame f.data) (vehicleHeard s)
  else if f.id = s.vehicle.base + 4 then enqueueVehicle (readTextFrame f.data) (vehicleHeard s)
  else if f.id = s.vehicle.base + 5 then vehicleHeard s
  else s

/-! ### RESTART (R174) -/

/-- The unit of a RESTART's set that comes next after those done: DOCK_LINK 0, SCANNER 1, CONVERTER 2 (R174). -/
def nextUnit (units done : Nat) : Option Nat := [0, 1, 2].find? fun k => units.testBit k && !done.testBit k

/-- The units done replaced. -/
def setRestartDone (done : Nat) (s : State) : State := { s with vehicle := { s.vehicle with restartDone := done } }

/-- One unit of the RESTART at the head of a master's queue: the tablet's is refused, a set with no unit or an undefined
unit is refused, and else the unit is restarted in its turn; the reply follows the last one (R174;
notes/assumptions/11.md). -/
def restartUnit (unit : Nat) (m : Master) (units : Nat) (body : State → State) (s : State) : State :=
  if s.canTake m (.restart units) then
    match m with
    | .tablet => reply .tablet (.restart units) .notAllowed [] (s.popRequest .tablet)
    | .vehicle =>
      if units = 0 ∨ 8 ≤ units then reply .vehicle (.restart units) .badValue [] (s.popRequest .vehicle)
      else if nextUnit units s.vehicle.restartDone = some unit then
        let done := s.vehicle.restartDone ||| 2 ^ unit
        let s := body s
        if nextUnit units done = none then
          reply .vehicle (.restart units) .ok [byte units] (setRestartDone 0 (s.popRequest .vehicle))
        else setRestartDone done s
      else s
  else s

end Sys2Proof.Machine
end

