-- ==== Sys2Proof/Machine/Arbiter.lean ====
section
/-! DEFINITION. The memory arbiter (R50): what each of its writing clients has still to write, which of them receives the
next grant, what the access of a grant changes, and what the end of a client's work brings about (R11, R39, R42, R166). -/

namespace Sys2Proof.Machine

/-! ### What is still to be written -/

/-- A byte that a client has still to write: its number in the client's work, its address and its value. It is no part of
State. -/
structure Placed where
  number : Nat
  address : Nat
  value : Byte
deriving DecidableEq, Repr

/-- Who a grant for a write goes to: the fill, the drain, or the text writer for one of its three sources (R50). -/
inductive Writer
  | fill
  | drain
  | text (source : WriteSource)
deriving DecidableEq, Repr

/-- The bytes still to be written of the block that a fill is at, numbered within the block. R39 orders the blocks; that the
bytes of one block are written in ascending address is the model's choice (DESIGN CHOICE: notes/assumptions/43.md). -/
def FillEntry.placed (e : FillEntry) : List Placed :=
  if e.blocksDone < e.run.length then
    (List.range' e.bytesDone (blockBytes - e.bytesDone)).map fun k =>
      let a := (e.run.start + e.blocksDone) * blockBytes + k
      { number := k, address := a, value := e.pattern.byteAt a }
  else []

/-- The bytes of a span in ascending order of address. -/
def Span.bytes (sp : Span) : List (Nat × Byte) := (List.range' sp.base sp.len).map fun a => (a, sp.byteAt a)

/-- The bytes left of a write (R46 to R48), numbered in the order in which the model writes them: row by row, in ascending
address, where the rules give no order (DESIGN CHOICE: notes/assumptions/43.md). -/
def ActiveWrite.placed (p : Pane) (w : ActiveWrite) : List Placed :=
  (((w.spans p).flatMap Span.bytes).zipIdx w.done).map fun (c, k) => { number := k, address := c.1, value := c.2 }

/-- The bytes with a target of a receive buffer, numbered by their stream offsets (R44, R45). -/
def Stream.placed (p : Pane) (st : Stream) (start : Nat) (bytes : List Byte) : List Placed :=
  (bytes.zipIdx start).filterMap fun (b, k) =>
    (st.target p k).map fun a => { number := k, address := a, value := b }

/-- The bytes of a status row write (R28, R47), numbered from its start column in ascending address, where the rules give no
order (DESIGN CHOICE: notes/assumptions/43.md). -/
def RowWrite.placed (w : RowWrite) : List Placed :=
  (List.range (2 * w.cells.length)).map fun k =>
    { number := k, address := statusRowBase + 2 * w.column + k, value := cellByte w.cells k }

/-- Bytes may be written into a buffer of the pane now, and it lies in the memory (R32, R43). -/
def Pane.canWrite (p : Pane) (buffer : Nat) : Bool := p.takesWrites buffer && p.bufferInMemory buffer

/-- What a write under way has still to write (R42, R43). -/
def State.writeLeft (s : State) (w : ActiveWrite) : List Placed :=
  match s.pane? w.job.pane with
  | some p => if p.canWrite w.job.buffer then w.placed p else []
  | none => []

/-- What a client has still to write: the fill at the head of the list in the block that it is at, the drain from the buffer
filled longest ago, the text writer from one source (R50). -/
def State.work (s : State) : Writer → List Placed
  | .fill =>
    match s.mem.fills with
    | e :: _ =>
      if (s.pane? e.pane).any (·.phase == .preparing) && e.inMemory then e.placed else []
    | [] => []
  | .drain =>
    match s.dock.oldest.bind fun name => (s.dock.rx name).content, s.dock.stream with
    | some (start, bytes), some st =>
      match s.pane? st.pane with
      | some p => if p.canWrite st.buffer then st.placed p start bytes else []
      | none => []
    | _, _ => []
  | .text .tablet => (s.mem.tabletWrite.map s.writeLeft).getD []
  | .text .vehicle => (s.mem.vehicleWrite.map s.writeLeft).getD []
  | .text .statusRow =>
    match s.mem.rowWrites with
    | w :: _ => if Memory.covers (statusRowBase + 2 * w.column) (2 * w.cells.length) then w.placed else []
    | [] => []

/-- The client has an access waiting. -/
def State.waits (s : State) (w : Writer) : Bool := !(s.work w).isEmpty

/-! ### Whose turn it is (R50) -/

/-- The next source in the cycle tablet, vehicle unit, status row. -/
def nextSource : WriteSource → WriteSource
  | .tablet => .vehicle
  | .vehicle => .statusRow
  | .statusRow => .tablet

/-- The clients in the order of their turns: the cycle fill, drain, text writer from the turn on, and in the text writer's
place its sources from its own turn on. -/
def State.cycle (s : State) : List Writer :=
  let texts := [.text s.mem.textTurn, .text (nextSource s.mem.textTurn), .text (nextSource (nextSource s.mem.textTurn))]
  match s.mem.turn with
  | .fill => .fill :: .drain :: texts
  | .drain => .drain :: texts ++ [.fill]
  | .text => texts ++ [.fill, .drain]

/-- Who receives the next grant when Scan-out has no read waiting: the first in the order of the turns that has an access
waiting. -/
def State.nextWriter (s : State) : Option Writer := s.cycle.find? s.waits

/-- The turns after a client has been served: the next in the cycle. -/
def served (w : Writer) (m : SurfaceMemory) : SurfaceMemory :=
  match w with
  | .fill => { m with turn := .drain }
  | .drain => { m with turn := .text }
  | .text source => { m with turn := .fill, textTurn := nextSource source }

/-- The turns at a completion: the accesses that the client had left are made now, so it has been served if it had one
(notes/assumptions/22.md). -/
def State.servedIfLeft (s : State) (w : Writer) (m : SurfaceMemory) : SurfaceMemory := if s.waits w then served w m else m

/-! ### One access (R50) -/

/-- The bytes that one access moves (R50). -/
def accessBytes : Nat := 64

/-- The next access of a client's work: the bytes in front that lie in one aligned piece of 64 bytes, which lies within one
block (R50; that the pieces are aligned is the model's choice: notes/assumptions/22.md). -/
def accessOf : List Placed → List Placed
  | [] => []
  | x :: rest => (x :: rest).takeWhile fun y => y.address / accessBytes == x.address / accessBytes

/-- One byte put into memory. -/
def Placed.land (m : List Host.Cell) (x : Placed) : List Host.Cell := Memory.update m x.address 1 fun _ => some x.value

/-- A fill once the bytes of its block below `upTo` are written: after the last one the block is done (R39). -/
def FillEntry.advanced (upTo : Nat) (e : FillEntry) : FillEntry :=
  if upTo < blockBytes then { e with bytesDone := upTo } else { e with blocksDone := e.blocksDone + 1, bytesDone := 0 }

/-- A receive buffer once the drain has written its bytes below offset `upTo`: it is DRAINING and holds the others
(R166; notes/assumptions/21.md). -/
def RxBuffer.advanced (upTo : Nat) (b : RxBuffer) : RxBuffer :=
  match b.content with
  | some (start, bytes) => .draining upTo (bytes.drop (upTo - start))
  | none => b

/-- A status row write once its bytes below `upTo` are written. -/
def RowWrite.advanced (upTo : Nat) (w : RowWrite) : RowWrite :=
  { column := w.column + upTo / 2, cells := w.cells.drop (upTo / 2) }

/-- A client's work with the bytes numbered below `upTo` written. -/
def advanceWork (upTo : Nat) (w : Writer) (s : State) : State :=
  match w with
  | .fill => { s with mem := { s.mem with fills := s.mem.fills.modifyHead (·.advanced upTo) } }
  | .drain =>
    match s.dock.oldest with
    | some name => { s with dock := s.dock.setRx name ((s.dock.rx name).advanced upTo) }
    | none => s
  | .text .tablet => { s with mem := { s.mem with tabletWrite := s.mem.tabletWrite.map ({ · with done := upTo }) } }
  | .text .vehicle => { s with mem := { s.mem with vehicleWrite := s.mem.vehicleWrite.map ({ · with done := upTo }) } }
  | .text .statusRow => { s with mem := { s.mem with rowWrites := s.mem.rowWrites.modifyHead (·.advanced upTo) } }

/-! ### The end of a client's work -/

/-- The fill at the head of the list has written its run: the entry leaves the list, and its PREPARING pane becomes READY at
the tail of the ready list (R11, R39). -/
def fillDone (s : State) : State :=
  match s.mem.fills with
  | e :: rest =>
    let t := { s with mem := { s.mem with fills := rest } }
    match s.pane? e.pane with
    | some p =>
      if p.phase = .preparing then
        let t := t.setPane e.pane (some { p with phase := .ready })
        { t with layout := { t.layout with ready := t.layout.ready ++ [e.pane] } }
      else t
    | none => t
  | [] => s

/-- The drain has written the last byte of the buffer filled longest ago: it is EMPTY, and a pending WRITE DONE is handed
(R166, R167). -/
def drainDone (s : State) : State :=
  match s.dock.oldest with
  | some name => finishStream { s with dock := s.dock.setRx name .empty }
  | none => s

/-- A source of the text writer has written the last byte of its write: it is under way no more (R28, R42). -/
def writeDoneOf (source : WriteSource) (s : State) : State :=
  match source with
  | .tablet => { s with mem := s.mem.setWrite .tablet none }
  | .vehicle => { s with mem := s.mem.setWrite .vehicle none }
  | .statusRow => { s with mem := { s.mem with rowWrites := s.mem.rowWrites.tail } }

/-- What a client's work that has been written to its end brings about. -/
def finishWork (w : Writer) (s : State) : State :=
  match w with
  | .fill => fillDone s
  | .drain => drainDone s
  | .text source => writeDoneOf source s

/-- A grant to a client: the bytes of its next access are written, the turns pass on, and its work goes on behind them or, if
they were its last, is finished at once (R39, R42, R50, R166). -/
def grantWrite (w : Writer) (s : State) : State :=
  let access := accessOf (s.work w)
  match access.getLast? with
  | some last =>
    let cells := access.foldl Placed.land s.mem.cells
    let t := advanceWork (last.number + 1) w { s with mem := served w { s.mem with cells := cells } }
    if t.waits w then t else finishWork w t
  | none => s

/-- The memory once all that a client has left of its work is written; none where it lies outside the memory (R32). -/
def State.landLeft (s : State) (w : Writer) : Option (List Host.Cell) :=
  match w with
  | .fill =>
    match s.mem.fills with
    | e :: _ =>
      if e.inMemory then
        some (if (s.pane? e.pane).any (·.phase == .preparing) then e.left.land s.mem.cells else s.mem.cells)
      else none
    | [] => some s.mem.cells
  | .drain =>
    match s.dock.oldest.bind fun name => (s.dock.rx name).content with
    | some (start, bytes) => landDrain s start bytes
    | none => some s.mem.cells
  | .text .tablet => s.mem.tabletWrite.elim (some s.mem.cells) (landJob s)
  | .text .vehicle => s.mem.vehicleWrite.elim (some s.mem.cells) (landJob s)
  | .text .statusRow =>
    match s.mem.rowWrites with
    | w :: _ =>
      if Memory.covers (statusRowBase + 2 * w.column) (2 * w.cells.length) then
        some (putCells s.mem.cells (statusRowBase + 2 * w.column) w.cells)
      else none
    | [] => some s.mem.cells

/-- The completion of a client's work as a command: the accesses that it has left are made now, which passes its turn on if
there are any, and the work is finished; nothing where there is no work (R11, R28, R39, R42, R166; notes/assumptions/22.md). -/
def completeWork (w : Writer) (s : State) : Host.Outcome State Fault Refusal :=
  if s.scanOut.running then
    match s.landLeft w with
    | some cells => .next (finishWork w { s with mem := s.servedIfLeft w { s.mem with cells := cells } })
    | none => .fault .outsideSurfaceMemory
  else .next s

end Sys2Proof.Machine
end

