-- ==== Sys2Proof/Machine/InputOps.lean ====
section
/-! DEFINITION. The millisecond: the sample of the five inputs, their qualification and edges, and what counts with the
part's millisecond count (R83, R142, R146, R147). -/

namespace Sys2Proof.Machine

/-- One millisecond passes: the part's count, the park countdown and the interval counters (R83, R142, R147;
notes/assumptions/12.md). -/
def millisecond (s : State) : State :=
  { s with
    now := s.now + 1
    park := { s.park with countdown := s.park.countdown.map (· - 1) }
    inputs := s.inputs.map fun i => { i with interval := min 65535 (i.interval + 1) } }

/-- The consumer of an input takes its edge (R147 step 3). -/
def handEdge (n : Nat) (level : Bool) (s : State) : State :=
  if n = 0 then bayEdge level s else if n = 1 then ignitionEdge level s else s

/-- A qualified edge, in the order of R147: the counter read and set to 0, the consumer, the masters' flags. -/
def qualifiedEdge (n : Nat) (level : Bool) (i : DiscreteInput) (s : State) : State :=
  let t := s.setInput n { i with qualified := level, latest := level, changeCount := 0, interval := 0 }
  [Master.tablet, Master.vehicle].foldl (edgeForFlag n level i.interval) (handEdge n level t)

/-- One input's sample (R146). -/
def sampleInput (s : State) (sample : Bool × Nat) : State :=
  match s.inputs[sample.2]? with
  | some i =>
    if sample.1 = i.qualified then s.setInput sample.2 { i with latest := sample.1, changeCount := 0 }
    else if i.qualTime ≤ i.changeCount + 1 then qualifiedEdge sample.2 sample.1 i s
    else s.setInput sample.2 { i with latest := sample.1, changeCount := i.changeCount + 1 }
  | none => s

/-- The 1 ms sample of all five inputs (R146), in ascending input number (DESIGN CHOICE: notes/assumptions/12.md). The
millisecond passes and the edges are taken in one command, so an expiry whose time comes with this millisecond is taken after
them: at the sample that brings the countdown to 0 an ignition on comes before the countdown expiry, where R141 allows either
order (DESIGN CHOICE: notes/assumptions/44.md). -/
def takeSample (pins : InputLevels) (s : State) : State := (pinList pins).zipIdx.foldl sampleInput (millisecond s)

end Sys2Proof.Machine
end

