-- ==== Sys2Proof/Machine/DockLink.lean ====
section
/-! DEFINITION. The Dock Link's commands: what arrives, the timers, what has been sent, and the drain (chapter 9). -/

namespace Sys2Proof.Machine

/-- DOCK_LINK_PACKET_RECEIVED (R158). -/
def execDockLinkPacketReceived (bytes : List Byte) (s : State) : Host.Outcome State Fault Refusal :=
  whenRunning (takePacket bytes) s

/-- KEEPALIVE: a well-formed KEEPALIVE at arrival (R158 steps 2 and 4). -/
def execKeepalive (s : State) : Host.Outcome State Fault Refusal := whenRunning (takeIntake false .keepalive) s

/-- WRITE_DATA: a well-formed WRITE DATA at arrival (R158, R166, R167). -/
def execWriteData (offset : Nat) (data : List Byte) (s : State) : Host.Outcome State Fault Refusal :=
  whenRunning (takeIntake false (.writeData offset data)) s

/-- REFUSED_PACKET: a refused request is answered in its turn and changes nothing else (R158 step 3, R170, R171). A
malformed HELLO taken before the link has started has its reply dropped (DESIGN CHOICE: notes/assumptions/41.md). -/
def execRefusedPacket (who : Master) (code : Nat) (result : Result) (s : State) : Host.Outcome State Fault Refusal :=
  taking who (.refused code result) (reply who (.refused code result) result []) s

/-- HELLO: in UP, and in HOLD with BAY qualified LOW, it is taken from the queue in its turn; in ATTACHING and in HOLD with
BAY qualified HIGH it is taken at arrival (R159, R160, R162). -/
def execHello (grace : Nat) (s : State) : Host.Outcome State Fault Refusal :=
  if s.dock.link = .up ∨ (s.dock.link = .hold ∧ s.bayHigh = false) then taking .tablet (.hello grace) (helloTaken grace) s
  else whenRunning (helloArrives grace) s

/-- DOCK_PACKET_SENT: the packet leaves the queue, the send timer restarts, and a room event reaches the Key Router
(R163). -/
def dockPacketLeaves (s : State) : State :=
  if s.dock.link = .up ∧ s.dock.outbound ≠ [] then
    tryReport .tablet
      { s with dock := { s.dock with outbound := s.dock.outbound.tail, send := some (s.now + dockSendMs) } }
  else s

/-- DOCK_PACKET_SENT (R163). -/
def execDockPacketSent (s : State) : Host.Outcome State Fault Refusal := whenRunning dockPacketLeaves s

/-- The send timer expires in UP: a KEEPALIVE is placed if the queue has room, and the timer runs again (R163;
notes/assumptions/13.md), from the moment at which the expiry is taken (notes/assumptions/39.md). -/
def sendExpires (s : State) : State :=
  if s.dock.link = .up ∧ s.due s.dock.send then
    handTablet .keepalive { s with dock := { s.dock with send := some (s.now + dockSendMs) } }
  else s

/-- SEND_TIMER_EXPIRY (R163). -/
def execSendTimerExpiry (s : State) : Host.Outcome State Fault Refusal := whenRunning sendExpires s

/-- SILENCE_TIMER_EXPIRY (R159, R162). -/
def execSilenceTimerExpiry (s : State) : Host.Outcome State Fault Refusal := whenRunning silenceExpires s

/-- GRACE_TIMER_EXPIRY (R159, R161). -/
def execGraceTimerExpiry (s : State) : Host.Outcome State Fault Refusal := whenRunning graceExpires s

/-- DRAIN_COMPLETE: the drain of the buffer filled longest ago has finished (R45, R166, R167). -/
def execDrainComplete (s : State) : Host.Outcome State Fault Refusal := completeWork .drain s

end Sys2Proof.Machine
end

