-- ==== Sys2Proof/Machine/InputsLines.lean ====
section
/-! DEFINITION. The requests of the Input Block and the Line Block, the input sample and the LINK LED (chapter 8). -/

namespace Sys2Proof.Machine

/-- INPUT ACK taken (R149). -/
def doInputAck (m : Master) (n : Nat) (s : State) : State :=
  match s.inputs[n]? with
  | none => reply m (.inputAck n) .badValue [] s
  | some i => reply m (.inputAck n) .ok [] (s.setInput n (i.acknowledged m))

/-- INPUT_ACK (R149). -/
def execInputAck (who : Master) (input : Nat) (s : State) : Host.Outcome State Fault Refusal :=
  taking who (.inputAck input) (doInputAck who input) s

/-- Step 4 of R150: both flags set over an active level, with an INPUT CHANGE to each present master. -/
def raiseFlags (n : Nat) (s : State) : State :=
  match s.inputs[n]? with
  | some i =>
    if i.levelActive then
      let change : Message := .notice (.inputChange n i.qualified i.interval)
      handVehicle change (handTablet change
        (s.setInput n ((i.setFlag .tablet true false).setFlag .vehicle true false)))
    else s
  | none => s

/-- INPUT MODE taken (R150). -/
def doInputMode (m : Master) (n mode sense time : Nat) (s : State) : State :=
  let r : Request := .inputMode n mode sense time
  match s.inputs[n]?, readMode mode sense with
  | some i, some md =>
    let j := i.remoded n md time
    raiseFlags n (reply m r .ok [byte n, byte mode, byte sense, byte j.qualTime] (s.setInput n j))
  | _, _ => reply m r .badValue [] s

/-- INPUT_MODE (R150). -/
def execInputMode (who : Master) (input mode sense time : Nat) (s : State) : Host.Outcome State Fault Refusal :=
  taking who (.inputMode input mode sense time) (doInputMode who input mode sense time) s

/-- QUERY INPUTS taken: every input's record, or that of the input named (R151, R178, R179). -/
def doQueryInputs (m : Master) (input : Option Nat) (s : State) : State :=
  let r : Request := .queryInputs input
  match input with
  | none => reply m r .ok (s.inputs.flatMap inputRecord) s
  | some n =>
    match s.inputs[n]? with
    | some i => reply m r .ok (inputRecord i) s
    | none => reply m r .badValue [] s

/-- QUERY_INPUTS (R151). -/
def execQueryInputs (who : Master) (input : Option Nat) (s : State) : Host.Outcome State Fault Refusal :=
  taking who (.queryInputs input) (doQueryInputs who input) s

/-- The owner of a line (R152). -/
def lineOwner (n : Nat) : Owner :=
  if n = 3 ∨ n = 4 then .part else if n = 5 ∨ n = 6 then .vehicle else .tablet

/-- LINE SET taken (R154). -/
def doLineSet (m : Master) (n direction latch : Nat) (s : State) : State :=
  let r : Request := .lineSet n direction latch
  if 7 < n ∨ 1 < direction ∨ 1 < latch then reply m r .badValue [] s
  else if lineOwner n = .part then reply m r .notOwner [] s
  else if lineOwner n ≠ masterOwner m then reply m r .notOwner [] s
  else
    reply m r .ok [byte n, byte direction, byte latch]
      { s with lines := { s.lines with lines := s.lines.lines.set n { out := direction == 1, latch := latch == 1 } } }

/-- LINE_SET (R154). -/
def execLineSet (who : Master) (line direction latch : Nat) (s : State) : Host.Outcome State Fault Refusal :=
  taking who (.lineSet line direction latch) (doLineSet who line direction latch) s

/-- QUERY_LINES: the directions, the latches and the pin levels as read (R155, R178). -/
def execQueryLines (who : Master) (pins : BitVec 8) (s : State) : Host.Outcome State Fault Refusal :=
  taking who .queryLines (fun s => reply who .queryLines .ok (linesBytes s.lines.lines pins) s) s

/-- INPUT_SAMPLE: one millisecond and the sample at its end (R146, R147). -/
def execInputSample (pins : InputLevels) (s : State) : Host.Outcome State Fault Refusal := whenRunning (takeSample pins) s

/-- The LINK LED timer expires, once its time has come: the LED changes and the timer starts again (R153), from the moment at
which the expiry is taken (notes/assumptions/39.md). -/
def toggleLed (s : State) : State :=
  match s.lines.ledTimer.filter (· ≤ s.now), s.lines.lines[4]? with
  | some _, some l => setLinkLed (!l.latch) (setLedTimer (some (s.now + ledToggleMs)) s)
  | _, _ => s

/-- LINK_LED_TOGGLE (R153). -/
def execLinkLedToggle (s : State) : Host.Outcome State Fault Refusal := whenRunning toggleLed s

end Sys2Proof.Machine
end

