-- ==== Sys2Proof/Machine/Keys.lean ====
section
/-! DEFINITION. Focus and key requests, the scans of the keyboard and the typematic expiry (chapters 4 and 5). -/

namespace Sys2Proof.Machine

/-- FOCUS taken (R86, R120). The values of a DEFERRED reply are those of OK (notes/assumptions/14.md). -/
def doFocus (m : Master) (n : Nat) (s : State) : State :=
  match s.paneCheck m n with
  | .error r => reply m (.focus n) r [] s
  | .ok _ =>
    if s.eligible n then
      if s.router.hold then deferredFocus n (reply m (.focus n) .deferred [byte n] s)
      else setFocus (some n) (reply m (.focus n) .ok [byte n] s)
    else reply m (.focus n) .notEligible [] s

/-- FOCUS (R86). -/
def execFocus (who : Master) (pane : Nat) (s : State) : Host.Outcome State Fault Refusal :=
  taking who (.focus pane) (doFocus who pane) s

/-- A report gate opened (R105). -/
def openGate (m : Master) (s : State) : State := s.setChannel m { s.router.channel m with gate := .opened }

/-- KEY ACK taken: the reply, then the gate and the report it lets out (R105). -/
def doKeyAck (m : Master) (s : State) : State :=
  let t := reply m .keyAck .ok [] s
  if (s.router.channel m).gate = .waiting then tryReport m (openGate m t) else t

/-- KEY_ACK (R105). -/
def execKeyAck (who : Master) (s : State) : Host.Outcome State Fault Refusal := taking who .keyAck (doKeyAck who) s

/-- REPEAT SET taken (R100); an undefined enabled code is refused with BAD_VALUE (R176). -/
def doRepeatSet (m : Master) (enabled delay period : Nat) (s : State) : State :=
  let r : Request := .repeatSet enabled delay period
  if 1 < enabled then reply m r .badValue [] s
  else
    let delay := max 200 (min 1000 delay)
    let period := max 33 (min 500 period)
    let t := s.setChannel m { s.router.channel m with enabled := enabled == 1, delay := delay, period := period }
    let t := if enabled = 0 ∧ t.router.repeatKey.any (·.target == m) then stopRepeat t else t
    reply m r .ok (byte enabled :: (le16 delay ++ le16 period)) t

/-- REPEAT_SET (R100). -/
def execRepeatSet (who : Master) (enabled delay period : Nat) (s : State) : Host.Outcome State Fault Refusal :=
  taking who (.repeatSet enabled delay period) (doRepeatSet who enabled delay period) s

/-- A count of SCAN SET clamped into 2–40 (R75). -/
def clampScans (n : Nat) : Nat := max 2 (min 40 n)

/-- SCAN SET taken (R75). -/
def doScanSet (m : Master) (press release : Nat) (s : State) : State :=
  let r : Request := .scanSet press release
  match m with
  | .tablet => reply .tablet r .notAllowed [] s
  | .vehicle =>
    reply .vehicle r .ok [byte (clampScans press), byte (clampScans release)]
      { s with scanner := { s.scanner with pressCount := clampScans press, releaseCount := clampScans release } }

/-- SCAN_SET (R75). -/
def execScanSet (who : Master) (press release : Nat) (s : State) : Host.Outcome State Fault Refusal :=
  taking who (.scanSet press release) (doScanSet who press release) s

/-- A full scan in SCANNING mode: the shock test, the debounce of every position, then the accepted changes handed on in
ascending key code (R72 to R74). -/
def takeScan (raw : BitVec 128) (s : State) : State :=
  if s.scanner.mode ≠ .scanning ∨ s.scanner.shock raw then s
  else (s.scanner.changes raw).foldl takeChange { s with scanner := s.scanner.debounced raw }

/-- SCAN_EVENT (R72). -/
def execScanEvent (raw : BitVec 128) (s : State) : Host.Outcome State Fault Refusal := whenRunning (takeScan raw) s

/-- The capture scan in CAPTURE mode: the captured DOWNs handed on in ascending key code (R79, R96). -/
def takeCapture (raw : BitVec 128) (s : State) : State :=
  if s.scanner.mode ≠ .capture then s
  else
    (s.scanner.capturedCodes raw).foldl (fun s c => capturedDown c s) { s with scanner := s.scanner.captured raw }

/-- CAPTURE_SCAN (R79). -/
def execCaptureScan (raw : BitVec 128) (s : State) : Host.Outcome State Fault Refusal := whenRunning (takeCapture raw) s

/-- A wake sample in WAKE_DETECT mode (R77). -/
def takeWakeSample (senses : BitVec 16) (s : State) : State :=
  if s.scanner.mode ≠ .wakeDetect ∨ s.scanner.wakeLatch then s
  else if senses = 0 then { s with scanner := { s.scanner with quietSeen := true } }
  else if s.scanner.quietSeen then keyWake { s with scanner := { s.scanner with wakeLatch := true } }
  else s

/-- WAKE_SAMPLE (R77). -/
def execWakeSample (senses : BitVec 16) (s : State) : Host.Outcome State Fault Refusal :=
  whenRunning (takeWakeSample senses) s

/-- The typematic expiry, once the next expiry's time has come (R101). One that is taken late counts the next expiry, and its
delta, from the moment at which it is taken (DESIGN CHOICE, notes/assumptions/39.md). -/
def repeatExpires (s : State) : State :=
  match s.router.repeatKey.filter (·.next ≤ s.now) with
  | none => s
  | some r =>
    let t := { s with router := { s.router with
      repeatKey := some { r with next := s.now + (s.router.channel r.target).period } } }
    if (s.router.channel r.target).queue.length < repeatThreshold then placeEvent r.target r.code .repeated t else t

/-- REPEAT_EXPIRY (R101). -/
def execRepeatExpiry (s : State) : Host.Outcome State Fault Refusal := whenRunning repeatExpires s

end Sys2Proof.Machine
end

