-- ==== Sys2Proof/Machine/LightPark.lean ====
section
/-! DEFINITION. The requests of the Light and Supply Monitor and the Park Controller, the converter's scans and the park
countdown (chapter 7). -/

namespace Sys2Proof.Machine

/-- QUERY LIGHT taken: the three pages, or the page named (R139, R178, R179). -/
def doQueryLight (m : Master) (page : Option Nat) (s : State) : State :=
  let r : Request := .queryLight page
  match page with
  | none => reply m r .ok (lightPage s.light s.park 0 ++ lightPage s.light s.park 1 ++ lightPage s.light s.park 2) s
  | some k => if 2 < k then reply m r .badValue [] s else reply m r .ok (lightPage s.light s.park k) s

/-- QUERY_LIGHT (R139). -/
def execQueryLight (who : Master) (page : Option Nat) (s : State) : Host.Outcome State Fault Refusal :=
  taking who (.queryLight page) (doQueryLight who page) s

/-- DARK CAB taken: the jump flag on a change from off to on (R136). -/
def doDarkCab (m : Master) (setting : Nat) (s : State) : State :=
  let r : Request := .darkCab setting
  match m with
  | .tablet => reply .tablet r .notAllowed [] s
  | .vehicle =>
    if 1 < setting then reply .vehicle r .badValue [] s
    else
      let on := setting == 1
      reply .vehicle r .ok []
        { s with light := { s.light with darkCab := on, jump := s.light.jump || (on && !s.light.darkCab) } }

/-- DARK_CAB (R136). -/
def execDarkCab (who : Master) (setting : Nat) (s : State) : Host.Outcome State Fault Refusal :=
  taking who (.darkCab setting) (doDarkCab who setting) s

/-- PARK DELAY taken (R144). -/
def doParkDelay (m : Master) (delay : Nat) (s : State) : State :=
  let r : Request := .parkDelay delay
  match m with
  | .tablet => reply .tablet r .notAllowed [] s
  | .vehicle => reply .vehicle r .ok (le16 (min 600 delay)) { s with park := { s.park with delay := min 600 delay } }

/-- PARK_DELAY (R144). -/
def execParkDelay (who : Master) (delay : Nat) (s : State) : Host.Outcome State Fault Refusal :=
  taking who (.parkDelay delay) (doParkDelay who delay) s

/-- WAKE taken (R143). -/
def doWake (m : Master) (s : State) : State :=
  match m with
  | .tablet => reply .tablet .wake .notAllowed [] s
  | .vehicle =>
    let t := reply .vehicle .wake .ok [] s
    match s.park.state with
    | .run => t
    | .parkPending => restartCountdown t
    | .parked => wakeUp t

/-- WAKE (R143). -/
def execWake (who : Master) (s : State) : Host.Outcome State Fault Refusal := taking who .wake (doWake who) s

/-- The countdown expiry in PARK_PENDING, when the countdown has reached 0 (R142): after the edges of the sample that
brought it there (DESIGN CHOICE: notes/assumptions/44.md). -/
def countdownExpires (s : State) : State :=
  if s.park.state = .parkPending ∧ s.park.countdown = some 0 then enterParked s else s

/-- COUNTDOWN_EXPIRY (R142). -/
def execCountdownExpiry (s : State) : Host.Outcome State Fault Refusal := whenRunning countdownExpires s

/-- From the start of the latest scan to the next, in ms (R126). -/
def Light.period (l : Light) : Nat := if l.parked then parkedScanPeriodMs else scanPeriodMs

/-- The converter schedule starts a scan one period after the start of the latest, if none is under way (R126). One that is
started late counts from then (notes/assumptions/39.md). -/
def scheduleScan (s : State) : State :=
  if s.light.converting ∨ s.now < s.light.scanStart + s.light.period then s else startScan s

/-- CONVERTER_SCAN_START (R126). -/
def execConverterScanStart (s : State) : Host.Outcome State Fault Refusal := whenRunning scheduleScan s

/-- The hand-offs for a change of the supply or the temperature state (R130). Where both change, the PWR field is rewritten
before the TEMP field: DESIGN CHOICE, R28 and R130 give no order (notes/assumptions/33.md). -/
def reportSupply (before : Light) (supply panelTemp : Nat) (s : State) : State :=
  let l := s.light
  if l.low = before.low ∧ l.hot = before.hot then s
  else
    let jump := (l.low && !before.low) || (l.hot && !before.hot)
    let change : Message := .notice (.supplyChange l.low l.hot supply panelTemp)
    let s := { s with light := { l with jump := l.jump || jump } }
    rewriteField .temp (tempText before.hot) (tempText l.hot)
      (rewriteField .pwr (pwrText before.low) (pwrText l.low) (handVehicle change (handTablet change s)))

/-- A converter scan completes (R127). -/
def scanCompletes (ambient supply panelTemp : Nat) (s : State) : State :=
  if s.light.converting then
    let t := reportSupply s.light supply panelTemp { s with light := convertedLight ambient supply panelTemp s.light }
    { t with light := backlightUpdate t.light }
  else s

/-- SCAN_COMPLETION (R127). -/
def execScanCompletion (ambient supply panelTemp : Nat) (s : State) : Host.Outcome State Fault Refusal :=
  whenRunning (scanCompletes ambient supply panelTemp) s

end Sys2Proof.Machine
end

