-- ==== Sys2Proof/Machine/Panes.lean ====
section
/-! DEFINITION. The pane requests, the completion of a fill and the frame boundary (chapter 1, R39). -/

namespace Sys2Proof.Machine

/-- CLAIM taken: the checks of R8, then the record of R9. -/
def doClaim (m : Master) (ops : ClaimOps) (s : State) : State :=
  match s.claimCheck m ops with
  | .error r => reply m (.claim ops) r [] s
  | .ok (n, run) =>
    let p := claimedPane m ops run
    reply m (.claim ops) .ok (paneWindowBytes m n p.window) (takeClaim n p s)

/-- CLAIM (R8, R9). -/
def execClaim (who : Master) (ops : ClaimOps) (s : State) : Host.Outcome State Fault Refusal :=
  taking who (.claim ops) (doClaim who ops) s

/-- RELEASE taken: a PREPARING or READY pane is freed (R19), a LIVE one closes (R20); WRITE DONE comes before the reply
and the focus notices after it. -/
def doRelease (m : Master) (n : Nat) (s : State) : State :=
  match s.paneCheck m n with
  | .error r => reply m (.release n) r [] s
  | .ok p =>
    if p.phase = .live then
      takeClosing (reply m (.release n) .ok [] (streamPaneGone n (closePane n p s))) n
    else reply m (.release n) .ok [] (streamPaneGone n (freePane n p s))

/-- RELEASE (R19, R20). -/
def execRelease (who : Master) (pane : Nat) (s : State) : Host.Outcome State Fault Refusal :=
  taking who (.release pane) (doRelease who pane) s

/-- MOVE taken (R13). -/
def doMove (m : Master) (n : Nat) (w : Window) (s : State) : State :=
  match s.paneCheck m n with
  | .error r => reply m (.move n w) r [] s
  | .ok p =>
    if emptyWindow (pixelWindow m w) then reply m (.move n w) .badValue [] s
    else
      let clamped := clampWindow (pixelWindow m w)
      reply m (.move n w) .ok (paneWindowBytes m n clamped) (stage n p { p.staged with window := some clamped } s)

/-- MOVE (R13). -/
def execMove (who : Master) (pane : Nat) (window : Window) (s : State) : Host.Outcome State Fault Refusal :=
  taking who (.move pane window) (doMove who pane window) s

/-- SCROLL taken (R14). -/
def doScroll (m : Master) (n x y : Nat) (s : State) : State :=
  match s.paneCheck m n with
  | .error r => reply m (.scroll n x y) r [] s
  | .ok p =>
    let sc : Scroll := { x := x % p.extentX, y := y % p.extentY }
    reply m (.scroll n x y) .ok (byte n :: (le16 sc.x ++ le16 sc.y)) (stage n p { p.staged with scroll := some sc } s)

/-- SCROLL (R14). -/
def execScroll (who : Master) (pane x y : Nat) (s : State) : Host.Outcome State Fault Refusal :=
  taking who (.scroll pane x y) (doScroll who pane x y) s

/-- RAISE or LOWER taken, with the order it makes of the pending order (R18). -/
def doReorder (m : Master) (r : Request) (n : Nat) (reorder : List Nat → List Nat) (s : State) : State :=
  match s.paneCheck m n with
  | .error e => reply m r e [] s
  | .ok p =>
    if p.cls = .alert then reply m r .badClass [] s
    else if p.phase = .live then reply m r .ok [] (s.setNextOrder (reorder s.layout.nextOrder))
    else reply m r .paneBusy [] s

/-- RAISE (R18). -/
def execRaise (who : Master) (pane : Nat) (s : State) : Host.Outcome State Fault Refusal :=
  taking who (.raise pane) (doReorder who (.raise pane) pane fun o => insertNormal pane (without pane o)) s

/-- LOWER (R18). -/
def execLower (who : Master) (pane : Nat) (s : State) : Host.Outcome State Fault Refusal :=
  taking who (.lower pane) (doReorder who (.lower pane) pane fun o => without pane o ++ [pane]) s

/-- SHOW or HIDE taken (R6, R15). -/
def doVisible (m : Master) (r : Request) (n : Nat) (shown : Bool) (s : State) : State :=
  match s.visibilityCheck m n with
  | .error e => reply m r e [] s
  | .ok p =>
    if p.cls = .alert then reply m r .badClass [] s
    else reply m r .ok [] (stage n p { p.staged with visible := some shown } s)

/-- SHOW (R15). -/
def execShowPane (who : Master) (pane : Nat) (s : State) : Host.Outcome State Fault Refusal :=
  taking who (.showPane pane) (doVisible who (.showPane pane) pane true) s

/-- HIDE (R15). -/
def execHidePane (who : Master) (pane : Nat) (s : State) : Host.Outcome State Fault Refusal :=
  taking who (.hidePane pane) (doVisible who (.hidePane pane) pane false) s

/-- FLIP taken (R16). -/
def doFlip (m : Master) (n : Nat) (s : State) : State :=
  match s.paneCheck m n with
  | .error r => reply m (.flip n) r [] s
  | .ok p =>
    if p.buffers = 1 then reply m (.flip n) .notDouble [] s
    else if p.staged.flip then reply m (.flip n) .flipPending [] s
    else reply m (.flip n) .ok [] (stage n p { p.staged with flip := true } s)

/-- FLIP (R16). -/
def execFlip (who : Master) (pane : Nat) (s : State) : Host.Outcome State Fault Refusal :=
  taking who (.flip pane) (doFlip who pane) s

/-- FILL_COMPLETION: the fill at the head of the list has finished (R11, R39). -/
def execFillCompletion (s : State) : Host.Outcome State Fault Refusal := completeWork .fill s

/-- FRAME_BOUNDARY (R22 to R25, R53, R66). -/
def execFrameBoundary (s : State) : Host.Outcome State Fault Refusal := whenRunning takeBoundary s

end Sys2Proof.Machine
end

