-- ==== Sys2Proof/Machine/ResetEvents.lean ====
section
/-! DEFINITION. FULL_RESET and RESET_RELEASE (R31, R51, R54, R68, R156). -/

namespace Sys2Proof.Machine

/-- Every fill, write and drain under way is cut off (R40, R51: "Discarded"). -/
def cutAll (s : State) : State :=
  let s := match s.mem.fills with
    | e :: _ => cutFill e s
    | [] => s
  let s := cutWrite .vehicle (cutWrite .tablet (cutDrain s))
  s.mem.rowWrites.foldl (fun s w => cutRowWrite w s) s

/-- Every block at its reset value over the memory given, for the pins given; the free values used and the commands
waiting are the model's own and are kept. -/
def resetState (ids1 ids0 : Bool) (pins : InputLevels) (scanOut : ScanOut) (converting : Bool) (link : LinkState)
    (cells : List Host.Cell) (s : State) : State :=
  { layout := Layout.afterReset
    alloc := Allocator.afterReset
    mem := SurfaceMemory.afterReset cells
    scanOut := scanOut
    scanner := Scanner.afterReset
    router := Router.afterReset
    alerts := Alerts.afterReset
    light := Light.afterReset converting
    park := Park.afterReset pins.ignition
    inputs := inputsAfterReset pins
    lines := LineBlock.afterReset link
    dock := DockPort.afterReset link
    vehicle := VehiclePort.afterReset (identifierBase ids1 ids0)
    now := 0
    freeCount := s.freeCount
    pending := s.pending }

/-- The part held in full reset: nothing runs, the panel is off, and the memory holds what it held (R51, R54, R68;
notes/assumptions/9.md for the blocks' values while held). -/
def heldState (s : State) : State :=
  resetState false false lowPins ScanOut.held false .absent s.mem.cells s

/-- The part at the release of full reset: the straps and the first input samples read, the status row written, frame 0
and the first converter scan begun (R26, R31, R54, R126, R146, R157, R169). -/
def releasedState (ids1 ids0 : Bool) (pins : InputLevels) (s : State) : State :=
  resetState ids1 ids0 pins ScanOut.released true (linkAfterReset pins.bay)
    (writeResetRow s.mem.cells (linkAfterReset pins.bay)) s

/-- FULL_RESET (R54). -/
def execFullReset (s : State) : Host.Outcome State Fault Refusal := .next (heldState (cutAll s))

/-- RESET_RELEASE (R31). -/
def execResetRelease (ids1 ids0 : Bool) (pins : InputLevels) (s : State) : Host.Outcome State Fault Refusal :=
  .next (releasedState ids1 ids0 pins (cutAll s))

end Sys2Proof.Machine
end

