-- ==== Sys2Proof/Machine/VehicleLine.lean ====
section
/-! DEFINITION. The Vehicle Line's commands and the units of RESTART (R80, R138, R164, R169 to R174). -/

namespace Sys2Proof.Machine

/-- The Dock Link Port takes RESTART DOCK_LINK (R164). -/
def restartDock (s : State) : State := if s.dock.link = .up ∨ s.dock.link = .hold then departure s else s

/-- RESTART_DOCK_LINK (R164, R174). -/
def execRestartDockLink (who : Master) (units : Nat) (s : State) : Host.Outcome State Fault Refusal :=
  .next (restartUnit 0 who units restartDock s)

/-- The Matrix Scanner takes RESTART SCANNER, with its flush (R80). A key still held is a new press afterwards, key 123
too (R80, R97; R123 says otherwise of an ALERT_ACK: notes/assumptions/34.md). -/
def restartScan (s : State) : State := flush { s with scanner := s.scanner.restarted }

/-- RESTART_SCANNER (R80, R174). -/
def execRestartScanner (who : Master) (units : Nat) (s : State) : Host.Outcome State Fault Refusal :=
  .next (restartUnit 1 who units restartScan s)

/-- The monitor takes RESTART CONVERTER (R138). -/
def restartConvert (s : State) : State :=
  startScan { s with light := { s.light with
    ambient := none, supply := none, panelTemp := none, lowCount := 0, recoverCount := 0 } }

/-- RESTART_CONVERTER (R138, R174). -/
def execRestartConverter (who : Master) (units : Nat) (s : State) : Host.Outcome State Fault Refusal :=
  .next (restartUnit 2 who units restartConvert s)

/-- VEHICLE_FRAME_RECEIVED (R169, R172). -/
def execVehicleFrameReceived (frame : CanFrame) (s : State) : Host.Outcome State Fault Refusal :=
  whenRunning (takeFrame frame) s

/-- The silence expiry of the Vehicle Line (R172). -/
def vehicleSilenceExpires (s : State) : State :=
  if s.vehicle.present ∧ s.due s.vehicle.silence then vehicleAbsence s else s

/-- VEHICLE_SILENCE_EXPIRY (R172). -/
def execVehicleSilenceExpiry (s : State) : Host.Outcome State Fault Refusal := whenRunning vehicleSilenceExpires s

/-- A frame sent leaves the outbound queue, and a room event reaches the Key Router (R173). -/
def vehicleFrameLeaves (s : State) : State :=
  if s.vehicle.outbound ≠ [] then
    tryReport .vehicle { s with vehicle := { s.vehicle with outbound := s.vehicle.outbound.tail } }
  else s

/-- VEHICLE_FRAME_SENT (R173). -/
def execVehicleFrameSent (s : State) : Host.Outcome State Fault Refusal := whenRunning vehicleFrameLeaves s

end Sys2Proof.Machine
end

