-- ==== Sys2Proof/Machine/Writes.lean ====
section
/-! DEFINITION. The write requests and the completion of their memory writes (R41 to R48). -/

namespace Sys2Proof.Machine

/-- The checks of R41 in their order: the pane check, the kind, the values, the state. -/
def State.writeCheck (s : State) (m : Master) (n : Nat) (kind : PaneKind) (valuesOk : Pane → Bool) :
    Except Result Pane :=
  match s.paneCheck m n with
  | .error r => .error r
  | .ok p =>
    if p.kind ≠ kind then .error .badKind
    else if valuesOk p = false then .error .badValue
    else if p.phase = .preparing then .error .paneBusy
    else .ok p

/-- WRITE BEGIN taken: an open stream ends INCOMPLETE before the reply, and the new one is opened (R44, R168). -/
def doWriteBegin (n buffer : Nat) (rect : Rect) (s : State) : State :=
  let r : Request := .writeBegin n buffer rect
  match s.writeCheck .tablet n .pixel fun p =>
    buffer < p.buffers && 1 ≤ rect.w && rect.w ≤ 2048 && 1 ≤ rect.h && rect.h ≤ 2048 with
  | .error e => reply .tablet r e [] s
  | .ok _ => reply .tablet r .ok [] (openStream n buffer rect s)

/-- WRITE_BEGIN (R44). -/
def execWriteBegin (pane buffer : Nat) (rect : Rect) (s : State) : Host.Outcome State Fault Refusal :=
  taking .tablet (.writeBegin pane buffer rect) (doWriteBegin pane buffer rect) s

/-- FILL RECT taken (R46). -/
def doFillRect (n buffer : Nat) (rect : Rect) (colour : Nat) (s : State) : State :=
  let r : Request := .fillRect n buffer rect colour
  match s.writeCheck .tablet n .pixel fun p => buffer < p.buffers && 1 ≤ rect.w && 1 ≤ rect.h with
  | .error e => reply .tablet r e [] s
  | .ok p => reply .tablet r .ok [] (startWrite .tablet p (.fillRect n buffer rect colour) s)

/-- FILL_RECT (R46). -/
def execFillRect (pane buffer : Nat) (rect : Rect) (colour : Nat) (s : State) : Host.Outcome State Fault Refusal :=
  taking .tablet (.fillRect pane buffer rect colour) (doFillRect pane buffer rect colour) s

/-- The value check of TEXT PUT (R41 step 3). -/
def textPutOk (buffer row column : Nat) (p : Pane) : Bool := buffer < p.buffers && row < p.sizeY && column < p.sizeX

/-- TEXT PUT of the tablet taken (R47). -/
def doTextPut (n buffer row column : Nat) (cells : List TextCell) (s : State) : State :=
  let r : Request := .textPut n buffer row column cells
  match s.writeCheck .tablet n .text (textPutOk buffer row column) with
  | .error e => reply .tablet r e [] s
  | .ok p => reply .tablet r .ok [] (startWrite .tablet p (.textPut n buffer row column cells) s)

/-- TEXT_PUT (R47). -/
def execTextPut (pane buffer row column : Nat) (cells : List TextCell) (s : State) : Host.Outcome State Fault Refusal :=
  taking .tablet (.textPut pane buffer row column cells) (doTextPut pane buffer row column cells) s

/-- The cells of a text data frame: every code with the frame's one attribute (R47, R171). -/
def frameCells (attr : Byte) (codes : List Byte) : List TextCell := codes.map fun c => { code := c, attr := attr }

/-- A text data frame taken: answered only when it is refused (R171). -/
def doTextData (n buffer row column : Nat) (attr : Byte) (codes : List Byte) (s : State) : State :=
  match s.writeCheck .vehicle n .text (textPutOk buffer row column) with
  | .error e => reply .vehicle (.textData n buffer row column attr codes) e [] s
  | .ok p => startWrite .vehicle p (.textPut n buffer row column (frameCells attr codes)) s

/-- TEXT_DATA_FRAME (R171). -/
def execTextDataFrame (pane buffer row column : Nat) (attr : Byte) (codes : List Byte) (s : State) :
    Host.Outcome State Fault Refusal :=
  taking .vehicle (.textData pane buffer row column attr codes) (doTextData pane buffer row column attr codes) s

/-- TEXT CLEAR taken (R48). -/
def doTextClear (m : Master) (n buffer : Nat) (s : State) : State :=
  match s.writeCheck m n .text fun p => buffer < p.buffers with
  | .error e => reply m (.textClear n buffer) e [] s
  | .ok p => reply m (.textClear n buffer) .ok [] (startWrite m p (.textClear n buffer) s)

/-- TEXT_CLEAR (R48). -/
def execTextClear (who : Master) (pane buffer : Nat) (s : State) : Host.Outcome State Fault Refusal :=
  taking who (.textClear pane buffer) (doTextClear who pane buffer) s

/-- MEMORY_WRITES_COMPLETE: the write of one source has finished, and its master's next request may be taken (R28, R42,
R43). -/
def execMemoryWritesComplete (source : WriteSource) (s : State) : Host.Outcome State Fault Refusal :=
  completeWork (.text source) s

end Sys2Proof.Machine
end

