-- ==== Sys2Proof/Machine/Dispatch.lean ====
section
/-! DEFINITION. One arm per command, in the order of spec/opcode_table.json: each a direct call of the command's meaning. -/

namespace Sys2Proof.Machine

def exec (i : Instr) (s : State) : Host.Outcome State Fault Refusal :=
  match i with
  | .fullReset => Sys2Proof.Machine.execFullReset s
  | .resetRelease ids1 ids0 pins => Sys2Proof.Machine.execResetRelease ids1 ids0 pins s
  | .dockLinkPacketReceived bytes => Sys2Proof.Machine.execDockLinkPacketReceived bytes s
  | .keepalive => Sys2Proof.Machine.execKeepalive s
  | .writeData offset data => Sys2Proof.Machine.execWriteData offset data s
  | .refusedPacket who code result => Sys2Proof.Machine.execRefusedPacket who code result s
  | .hello grace => Sys2Proof.Machine.execHello grace s
  | .claim who ops => Sys2Proof.Machine.execClaim who ops s
  | .release who pane => Sys2Proof.Machine.execRelease who pane s
  | .move who pane window => Sys2Proof.Machine.execMove who pane window s
  | .scroll who pane x y => Sys2Proof.Machine.execScroll who pane x y s
  | .raise who pane => Sys2Proof.Machine.execRaise who pane s
  | .lower who pane => Sys2Proof.Machine.execLower who pane s
  | .showPane who pane => Sys2Proof.Machine.execShowPane who pane s
  | .hidePane who pane => Sys2Proof.Machine.execHidePane who pane s
  | .flip who pane => Sys2Proof.Machine.execFlip who pane s
  | .focus who pane => Sys2Proof.Machine.execFocus who pane s
  | .keyAck who => Sys2Proof.Machine.execKeyAck who s
  | .repeatSet who enabled delay period => Sys2Proof.Machine.execRepeatSet who enabled delay period s
  | .writeBegin pane buffer rect => Sys2Proof.Machine.execWriteBegin pane buffer rect s
  | .fillRect pane buffer rect colour => Sys2Proof.Machine.execFillRect pane buffer rect colour s
  | .textPut pane buffer row column cells => Sys2Proof.Machine.execTextPut pane buffer row column cells s
  | .textDataFrame pane buffer row column attr codes => Sys2Proof.Machine.execTextDataFrame pane buffer row column attr codes s
  | .textClear who pane buffer => Sys2Proof.Machine.execTextClear who pane buffer s
  | .inputAck who input => Sys2Proof.Machine.execInputAck who input s
  | .inputMode who input mode sense time => Sys2Proof.Machine.execInputMode who input mode sense time s
  | .queryInputs who input => Sys2Proof.Machine.execQueryInputs who input s
  | .lineSet who line direction latch => Sys2Proof.Machine.execLineSet who line direction latch s
  | .queryLines who pins => Sys2Proof.Machine.execQueryLines who pins s
  | .queryLight who page => Sys2Proof.Machine.execQueryLight who page s
  | .darkCab who setting => Sys2Proof.Machine.execDarkCab who setting s
  | .parkDelay who delay => Sys2Proof.Machine.execParkDelay who delay s
  | .wake who => Sys2Proof.Machine.execWake who s
  | .scanSet who press release => Sys2Proof.Machine.execScanSet who press release s
  | .restartDockLink who units => Sys2Proof.Machine.execRestartDockLink who units s
  | .restartScanner who units => Sys2Proof.Machine.execRestartScanner who units s
  | .restartConverter who units => Sys2Proof.Machine.execRestartConverter who units s
  | .vehicleFrameReceived frame => Sys2Proof.Machine.execVehicleFrameReceived frame s
  | .vehicleSilenceExpiry => Sys2Proof.Machine.execVehicleSilenceExpiry s
  | .vehicleFrameSent => Sys2Proof.Machine.execVehicleFrameSent s
  | .dockPacketSent => Sys2Proof.Machine.execDockPacketSent s
  | .sendTimerExpiry => Sys2Proof.Machine.execSendTimerExpiry s
  | .silenceTimerExpiry => Sys2Proof.Machine.execSilenceTimerExpiry s
  | .graceTimerExpiry => Sys2Proof.Machine.execGraceTimerExpiry s
  | .drainComplete => Sys2Proof.Machine.execDrainComplete s
  | .fillCompletion => Sys2Proof.Machine.execFillCompletion s
  | .frameBoundary => Sys2Proof.Machine.execFrameBoundary s
  | .scanEvent raw => Sys2Proof.Machine.execScanEvent raw s
  | .captureScan raw => Sys2Proof.Machine.execCaptureScan raw s
  | .wakeSample senses => Sys2Proof.Machine.execWakeSample senses s
  | .repeatExpiry => Sys2Proof.Machine.execRepeatExpiry s
  | .inputSample pins => Sys2Proof.Machine.execInputSample pins s
  | .countdownExpiry => Sys2Proof.Machine.execCountdownExpiry s
  | .converterScanStart => Sys2Proof.Machine.execConverterScanStart s
  | .scanCompletion ambient supply panelTemp => Sys2Proof.Machine.execScanCompletion ambient supply panelTemp s
  | .linkLedToggle => Sys2Proof.Machine.execLinkLedToggle s
  | .memoryWritesComplete source => Sys2Proof.Machine.execMemoryWritesComplete source s

end Sys2Proof.Machine
end

