-- ==== Sys2Proof/Machine/Outputs.lean ====
section
/-! DEFINITION. What the part drives on its pins, as functions of the state: the composed pixel and the panel group (R56 to
R64), Scan-out's reads (R67), RXRDY (R157), the indicator lines (R152), BLPWM (R134) and the keyboard drive lines (R69,
R77, R81). No command changes them but through the state they are computed from. -/

namespace Sys2Proof.Machine

/-! ### Composition (R56 to R63) -/

/-- The window contains the screen pixel (R56 step 2). -/
def windowHas (w : Window) (x y : Nat) : Bool :=
  w.left ≤ x && x < w.left + w.width && w.top ≤ y && y < w.top + w.height

/-- The surface point for a screen pixel of a candidate pane (R57). -/
def Pane.surfacePoint (p : Pane) (x y : Nat) : Nat × Nat :=
  ((x - p.window.left + p.scroll.x) % p.extentX, (y - p.window.top + p.scroll.y) % p.extentY)

/-- The 16-bit value of two bytes, the low byte at the lower address (R49). -/
def readPixel (m : List Host.Cell) (a : Nat) : Nat := u16 (Memory.read m a) (Memory.read m (a + 1))

/-- The address of the sample of a PIXEL candidate (R58). -/
def Pane.sampleAddress (p : Pane) (u v : Nat) : Nat := p.bufferBase p.front + (v * p.sizeX + u) * 2

/-- The address of the cell of a TEXT candidate (R60). -/
def Pane.cellAddress (p : Pane) (u v : Nat) : Nat := p.bufferBase p.front + (v / 16 * p.sizeX + u / 8) * 2

/-- The colour table (R63). -/
def colourTable : List Nat :=
  [0x0000, 0x0010, 0x0400, 0x0410, 0x8000, 0x8010, 0x8400, 0xC618,
    0x8410, 0x001F, 0x07E0, 0x07FF, 0xF800, 0xF81F, 0xFD20, 0xFFFF]

/-- An entry of the colour table; an index is one of four bits (R61). -/
def colour (index : Nat) : Nat := colourTable.getD index 0

/-- The symbols drawn within columns 0 to 6 and rows 1 to 14 without a dot list: 0x80 to 0x84, 0x8B, 0x8C, 0x8F (R63). -/
def freeSymbol (code : Nat) : Bool :=
  (0x80 ≤ code && code ≤ 0x84) || code == 0x8B || code == 0x8C || code == 0x8F

/-- A dot of a glyph (R63): the symbols that the rule gives dot by dot, and for the others the maker's glyph data, a free
value (notes/assumptions/4.md), within the rule's limits. -/
def glyph (code column row : Nat) : Bool :=
  match code with
  | 0x85 => (row == 7 && 3 ≤ column) || (column == 3 && 7 ≤ row)
  | 0x86 => (row == 7 && column ≤ 3) || (column == 3 && 7 ≤ row)
  | 0x87 => (row == 7 && 3 ≤ column) || (column == 3 && row ≤ 7)
  | 0x88 => (row == 7 && column ≤ 3) || (column == 3 && row ≤ 7)
  | 0x89 => row == 7
  | 0x8A => column == 3
  | 0x8D => true
  | 0x8E => row == 0 || row == 15 || column == 0 || column == 7
  | _ =>
    if (0x21 ≤ code && code ≤ 0x7E) || freeSymbol code then
      column ≤ 6 && 1 ≤ row && row ≤ 14 && Config.glyphDot code column row
    else false

/-- The value of a TEXT candidate's pixel (R60, R61). -/
def Pane.textPixel (p : Pane) (m : List Host.Cell) (u v : Nat) : Nat :=
  let a := p.cellAddress u v
  let attr := (Memory.read m (a + 1)).toNat
  if glyph (Memory.read m a).toNat (u % 8) (v % 16) then colour (attr % 16) else colour (attr / 16)

/-- The value that one pane supplies for a screen pixel, if it supplies it (R56 steps 1 to 3, R58, R59). -/
def Pane.supplies (p : Pane) (m : List Host.Cell) (x y : Nat) : Option Nat :=
  if p.visible && windowHas p.window x y then
    let (u, v) := p.surfacePoint x y
    match p.kind with
    | .text => some (p.textPixel m u v)
    | .pixel =>
      let sample := readPixel m (p.sampleAddress u v)
      if p.transparent = some sample then none else some sample
  else none

/-- The backdrop (R62). -/
def backdrop : Nat := 0x0000

/-- The composed screen pixel: the walk down the current stacking order (R56, R62). -/
def State.composed (s : State) (x y : Nat) : Nat :=
  (s.layout.current.findSome? fun n => (s.pane? n).bind fun p => p.supplies s.mem.cells x y).getD backdrop

/-! ### Scan-out's reads (R67) -/

/-- The address that the walk reads for a candidate's point: its sample or its cell (R58, R60, R67). -/
def Pane.readAddress (p : Pane) (x y : Nat) : Nat :=
  let (u, v) := p.surfacePoint x y
  match p.kind with
  | .pixel => p.sampleAddress u v
  | .text => p.cellAddress u v

/-- The reads of the walk for a screen pixel down an order of panes: one for each candidate that it reaches, through the
transparent ones to the pane that supplies the pixel (R56, R67). -/
def State.walkReads (s : State) (x y : Nat) : List Nat → List Nat
  | [] => []
  | n :: below =>
    match s.pane? n with
    | some p =>
      if p.visible && windowHas p.window x y then
        p.readAddress x y :: if (p.supplies s.mem.cells x y).isSome then [] else s.walkReads x y below
      else s.walkReads x y below
    | none => s.walkReads x y below

/-- The reads that Scan-out has waiting at the position under way: those of the walk for its pixel while the panel output is
ON or RESUMING, none in vertical blanking (R52) and none while it is OFF (R67). -/
def State.scanReads (s : State) : List Nat :=
  if s.scanOut.running && s.scanOut.panel != .off then
    match s.scanOut.activeLine with
    | some y => s.walkReads s.scanOut.column y s.layout.current
    | none => []
  else []

/-! ### The panel (R54, R64, R65) -/

/-- PANEL_EN: high in state ON only (R54, R64). -/
def State.panelEnable (s : State) : Bool := s.scanOut.running && s.scanOut.panel == .on

/-- The value on the panel data group for a pixel of an active line (R54, R64). -/
def State.panelData (s : State) (x y : Nat) : Nat := if s.panelEnable then s.composed x y else 0x0000

/-- What the Scan-out Unit drives on the panel data group at the position under way: 0x0000 while the part is held in full
reset (R54), no pixel in vertical blanking (R52), and the value for the pixel of the position in an active line (R64). -/
def State.panelNow (s : State) : Option Nat :=
  if s.scanOut.running then s.scanOut.activeLine.map fun y => s.panelData s.scanOut.column y else some 0x0000

/-- Red, green and blue of a pixel (R49, R180). -/
def redGreenBlue (pixel : Nat) : Nat × Nat × Nat := (pixel / 2048, pixel / 32 % 64, pixel % 32)

/-! ### The other pins -/

/-- RXRDY: the link UP, the next buffer EMPTY and the request queue empty (R157). -/
def State.rxrdy (s : State) : Bool :=
  s.dock.link == .up && s.dock.rx s.dock.nextBuffer == .empty && s.dock.requests.isEmpty

/-- The level that the part drives on an indicator line; none while the pin is not driven (R152, R156). -/
def State.linePin (s : State) (n : Nat) : Option Bool :=
  match s.lines.lines[n]? with
  | some l => if s.scanOut.running && l.out then some l.latch else none
  | none => none

/-- BLPWM's high time in thousandths of the period (R134). -/
def State.backlightDuty (s : State) : Nat := if s.scanOut.running then s.light.applied else 0

/-- What the scanner does with the drive lines KD0 to KD7 (R69, R77, R81): nothing, a full scan with the order in which it
drives them, or all of them together. -/
inductive KeyboardDrive
  | undriven
  | oneAfterAnother (order : List Nat)
  | allTogether
deriving DecidableEq, Repr

/-- The drive of the keyboard matrix (R69, R77, R81). -/
def State.keyboardDrive (s : State) : KeyboardDrive :=
  if s.scanOut.running then
    match s.scanner.mode with
    | .scanning => .oneAfterAnother driveOrder
    | .capture => .oneAfterAnother driveOrder
    | .wakeDetect => .allTogether
  else .undriven

/-- The value that QUERY LINES' bytes stand for on one line (R155). -/
def lineValue (l : IndicatorLine) (pin : Bool) : Bool := if l.out then l.latch else pin

end Sys2Proof.Machine
end

