-- ==== Sys2Proof/Machine/Idle.lean ====
section
/-! DEFINITION. A step with no command waiting: the arbiter makes its grants and the frame goes on (R50, R52, R67). -/

namespace Sys2Proof.Machine

/-- A grant of the memory (R50): to Scan-out for the read of an address, or to a writing client. -/
inductive Grant
  | read (address : Nat)
  | write (w : Writer)
deriving DecidableEq, Repr

/-- The grants at one position of the frame: first every read that Scan-out has waiting, and when it has none left one grant
to the next of the other clients (R50, R67; one to a position: notes/assumptions/22.md). -/
def State.grants (s : State) : List Grant := s.scanReads.map .read ++ s.nextWriter.toList.map .write

/-- A grant is made; a read changes nothing (R67). -/
def takeGrant (s : State) : Grant → State
  | .read _ => s
  | .write w => grantWrite w s

/-- A step with no command waiting: the grants, and the frame goes on by one position; nothing while the part is held in
full reset (R50, R52, R54; notes/assumptions/12.md, notes/assumptions/22.md). -/
def idle (s : State) : State := if s.scanOut.running then frameGoesOn (s.grants.foldl takeGrant s) else s

end Sys2Proof.Machine
end

