-- ==== Sys2Proof/WellFormed.lean ====
section
/-! DEFINITION. Which commands can arise: each operand within the field that carries it on its link (R169, R175 to R179), or
within the range of the event's own value (R126, R177). A meaning is defined on every operand; these checks say which
ones the part can meet. -/

namespace Sys2Proof

/-- A number that one byte carries. -/
def fitsByte (n : Nat) : Bool := n < 256

/-- A number that two bytes carry. -/
def fitsTwo (n : Nat) : Bool := n < 65536

/-- A window whose four fields pass a check. -/
def Window.all (f : Nat → Bool) (w : Window) : Bool := f w.left && f w.top && f w.width && f w.height

/-- A rectangle of four 2-byte fields (R178). -/
def Rect.fits (r : Rect) : Bool := fitsTwo r.x && fitsTwo r.y && fitsTwo r.w && fitsTwo r.h

/-- The operands of a CLAIM as each link carries them (R178, R179). -/
def ClaimOps.fits (who : Master) (ops : ClaimOps) : Bool :=
  match who with
  | .tablet =>
    fitsByte ops.kind && fitsByte ops.cls && fitsByte ops.buffers && ops.window.all fitsTwo && fitsTwo ops.sizeX
      && fitsTwo ops.sizeY && ops.transparent.all fitsTwo
  | .vehicle =>
    ops.kind ≤ 1 && ops.cls ≤ 1 && (ops.buffers == 1 || ops.buffers == 2) && ops.window.all fitsByte
      && fitsByte ops.sizeX && fitsByte ops.sizeY && ops.transparent.isNone && !ops.transparentBit

/-- The result of a request that the port refuses by itself (R158 step 3, R170 steps 1 and 2). -/
def portRefusal (r : Result) : Bool := r == .unknown || r == .badValue

/-- A request as a master's link can carry it (R177 to R179). -/
def Request.fits (who : Master) (r : Request) : Bool :=
  match r with
  | .refused code result => fitsByte code && portRefusal result
  | .hello grace => who == .tablet && fitsTwo grace
  | .claim ops => ops.fits who
  | .release pane => fitsByte pane
  | .move pane window =>
    fitsByte pane && window.all (match who with
      | .tablet => fitsTwo
      | .vehicle => fitsByte)
  | .scroll pane x y => fitsByte pane && fitsTwo x && fitsTwo y
  | .raise pane => fitsByte pane
  | .lower pane => fitsByte pane
  | .showPane pane => fitsByte pane
  | .hidePane pane => fitsByte pane
  | .flip pane => fitsByte pane
  | .focus pane => fitsByte pane
  | .keyAck => true
  | .repeatSet enabled delay period => fitsByte enabled && fitsTwo delay && fitsTwo period
  | .writeBegin pane buffer rect => who == .tablet && fitsByte pane && fitsByte buffer && rect.fits
  | .fillRect pane buffer rect colour =>
    who == .tablet && fitsByte pane && fitsByte buffer && rect.fits && fitsTwo colour
  | .textPut pane buffer row column cells =>
    who == .tablet && fitsByte pane && fitsByte buffer && fitsByte row && fitsByte column && cells.length ≤ 256
  | .textData pane buffer row column _ codes =>
    who == .vehicle && pane < 16 && buffer < 2 && fitsByte row && fitsByte column && codes.length ≤ 4
  | .textClear pane buffer => fitsByte pane && fitsByte buffer
  | .inputAck input => fitsByte input
  | .inputMode input mode sense time => fitsByte input && fitsByte mode && fitsByte sense && fitsByte time
  | .queryInputs input =>
    match who with
    | .tablet => input.isNone
    | .vehicle => input.any fitsByte
  | .lineSet line direction latch => fitsByte line && fitsByte direction && fitsByte latch
  | .queryLines => true
  | .queryLight page =>
    match who with
    | .tablet => page.isNone
    | .vehicle => page.any fitsByte
  | .darkCab setting => fitsByte setting
  | .parkDelay delay => fitsTwo delay
  | .wake => true
  | .scanSet pressScans releaseScans => fitsByte pressScans && fitsByte releaseScans
  | .restart units => fitsByte units

/-- The request that a command takes from a master's queue, and the master (R165, R170); none for an event. -/
def Instr.request? (i : Instr) : Option (Master × Request) :=
  match i with
  | .fullReset => none
  | .resetRelease _ _ _ => none
  | .dockLinkPacketReceived _ => none
  | .keepalive => none
  | .writeData _ _ => none
  | .refusedPacket who code result => some (who, .refused code result)
  | .hello grace => some (.tablet, .hello grace)
  | .claim who ops => some (who, .claim ops)
  | .release who pane => some (who, .release pane)
  | .move who pane window => some (who, .move pane window)
  | .scroll who pane x y => some (who, .scroll pane x y)
  | .raise who pane => some (who, .raise pane)
  | .lower who pane => some (who, .lower pane)
  | .showPane who pane => some (who, .showPane pane)
  | .hidePane who pane => some (who, .hidePane pane)
  | .flip who pane => some (who, .flip pane)
  | .focus who pane => some (who, .focus pane)
  | .keyAck who => some (who, .keyAck)
  | .repeatSet who enabled delay period => some (who, .repeatSet enabled delay period)
  | .writeBegin pane buffer rect => some (.tablet, .writeBegin pane buffer rect)
  | .fillRect pane buffer rect colour => some (.tablet, .fillRect pane buffer rect colour)
  | .textPut pane buffer row column cells => some (.tablet, .textPut pane buffer row column cells)
  | .textDataFrame pane buffer row column attr codes => some (.vehicle, .textData pane buffer row column attr codes)
  | .textClear who pane buffer => some (who, .textClear pane buffer)
  | .inputAck who input => some (who, .inputAck input)
  | .inputMode who input mode sense time => some (who, .inputMode input mode sense time)
  | .queryInputs who input => some (who, .queryInputs input)
  | .lineSet who line direction latch => some (who, .lineSet line direction latch)
  | .queryLines who _ => some (who, .queryLines)
  | .queryLight who page => some (who, .queryLight page)
  | .darkCab who setting => some (who, .darkCab setting)
  | .parkDelay who delay => some (who, .parkDelay delay)
  | .wake who => some (who, .wake)
  | .scanSet who pressScans releaseScans => some (who, .scanSet pressScans releaseScans)
  | .restartDockLink who units => some (who, .restart units)
  | .restartScanner who units => some (who, .restart units)
  | .restartConverter who units => some (who, .restart units)
  | .vehicleFrameReceived _ => none
  | .vehicleSilenceExpiry => none
  | .vehicleFrameSent => none
  | .dockPacketSent => none
  | .sendTimerExpiry => none
  | .silenceTimerExpiry => none
  | .graceTimerExpiry => none
  | .drainComplete => none
  | .fillCompletion => none
  | .frameBoundary => none
  | .scanEvent _ => none
  | .captureScan _ => none
  | .wakeSample _ => none
  | .repeatExpiry => none
  | .inputSample _ => none
  | .countdownExpiry => none
  | .converterScanStart => none
  | .scanCompletion _ _ _ => none
  | .linkLedToggle => none
  | .memoryWritesComplete _ => none

/-- A frame of the Vehicle Line: an 11-bit identifier and 0 to 8 data bytes (chapter 10, R179). -/
def CanFrame.fits (f : CanFrame) : Bool := f.id < 2048 && f.data.length ≤ 8

/-- A converter result: 0 to 1023 counts (00_scope.md, R126). -/
def fitsCount (n : Nat) : Bool := n < 1024

/-- The operands of an event lie in their ranges. -/
def Instr.eventFits (i : Instr) : Bool :=
  match i with
  | .writeData offset data => offset < 4294967296 && data.length ≤ 1020
  | .vehicleFrameReceived frame => frame.fits
  | .scanCompletion ambient supply panelTemp => fitsCount ambient && fitsCount supply && fitsCount panelTemp
  | _ => true

/-- A command that can arise: its operands fit. -/
def Instr.wf (i : Instr) : Bool :=
  match i.request? with
  | some (who, r) => r.fits who
  | none => i.eventFits

end Sys2Proof
end

