-- ==== Sys2Proof/Machine/Senders.lean ====
section
/-! DEFINITION. What a master sends for a request, written from the layouts of chapter 11 (R175, R178, R179): the other
direction of Operands.lean, in terms of which the agreement of the two is stated. -/

namespace Sys2Proof.Machine

/-- Four 2-byte fields. -/
def le16Four (a b c d : Nat) : List Byte := le16 a ++ le16 b ++ le16 c ++ le16 d

/-- The options byte of a tablet CLAIM (R178); a stray option is sent as bit 3. -/
def tabletOptions (ops : ClaimOps) : Nat :=
  bitWeight ops.acceptsKeys 0 + bitWeight ops.shown 1 + bitWeight ops.transparentBit 2 + bitWeight ops.strayOptions 3

/-- The payload of a request of the tablet (R178); none for what the tablet has no packet for. -/
def tabletPayload (r : Request) : Option (List Byte) :=
  match r with
  | .refused _ _ => none
  | .textData _ _ _ _ _ _ => none
  | .hello grace => some (le16 grace)
  | .claim ops =>
    some ([byte ops.kind, byte ops.cls, byte (tabletOptions ops), byte ops.buffers]
      ++ le16Four ops.window.left ops.window.top ops.window.width ops.window.height ++ le16 ops.sizeX ++ le16 ops.sizeY
      ++ (match ops.transparent with
          | none => []
          | some v => le16 v))
  | .release pane => some [byte pane]
  | .move pane w => some (byte pane :: le16Four w.left w.top w.width w.height)
  | .scroll pane x y => some (byte pane :: (le16 x ++ le16 y))
  | .raise pane => some [byte pane]
  | .lower pane => some [byte pane]
  | .showPane pane => some [byte pane]
  | .hidePane pane => some [byte pane]
  | .flip pane => some [byte pane]
  | .focus pane => some [byte pane]
  | .keyAck => some []
  | .repeatSet enabled delay period => some (byte enabled :: (le16 delay ++ le16 period))
  | .writeBegin pane buffer rect => some (byte pane :: byte buffer :: le16Four rect.x rect.y rect.w rect.h)
  | .fillRect pane buffer rect colour =>
    some (byte pane :: byte buffer :: (le16Four rect.x rect.y rect.w rect.h ++ le16 colour))
  | .textPut pane buffer row column cells =>
    some ([byte pane, byte buffer, byte row, byte column] ++ cells.flatMap fun c => [c.code, c.attr])
  | .textClear pane buffer => some [byte pane, byte buffer]
  | .inputAck input => some [byte input]
  | .inputMode input mode sense time => some [byte input, byte mode, byte sense, byte time]
  | .queryInputs _ => some []
  | .lineSet line direction latch => some [byte line, byte direction, byte latch]
  | .queryLines => some []
  | .queryLight _ => some []
  | .darkCab setting => some [byte setting]
  | .parkDelay delay => some (le16 delay)
  | .wake => some []
  | .scanSet pressScans releaseScans => some [byte pressScans, byte releaseScans]
  | .restart units => some [byte units]

/-- The whole packet of a request of the tablet (R175). -/
def tabletPacket (r : Request) : Option (List Byte) := (tabletPayload r).map (packet (requestCode r))

/-- The options byte of a vehicle CLAIM (R179); a stray option is sent as bit 5. -/
def vehicleOptions (ops : ClaimOps) : Nat :=
  bitWeight (ops.cls == 1) 0 + bitWeight ops.acceptsKeys 1 + bitWeight ops.shown 2 + bitWeight (ops.buffers == 2) 3
    + bitWeight (ops.kind == 0) 4 + bitWeight ops.strayOptions 5

/-- The operand bytes of a request frame (R179); none for what has no request code on the Vehicle Line. -/
def vehicleOperands (r : Request) : Option (List Byte) :=
  match r with
  | .claim ops =>
    some [byte (vehicleOptions ops), byte ops.window.left, byte ops.window.top, byte ops.window.width,
      byte ops.window.height, byte ops.sizeX, byte ops.sizeY]
  | .move pane w => some [byte pane, byte w.left, byte w.top, byte w.width, byte w.height]
  | .queryInputs input => input.map fun n => [byte n]
  | .queryLight page => page.map fun n => [byte n]
  | .hello _ => none
  | .writeBegin _ _ _ => none
  | .fillRect _ _ _ _ => none
  | .textPut _ _ _ _ _ => none
  | r => tabletPayload r

/-- The data bytes of a request frame (R179). -/
def vehicleData (r : Request) : Option (List Byte) := (vehicleOperands r).map fun ops => byte (requestCode r) :: ops

/-- The data bytes of a text data frame (R179). -/
def textFrameData (pane buffer row column : Nat) (attr : Byte) (codes : List Byte) : List Byte :=
  [byte (pane + 16 * buffer), byte row, byte column, attr] ++ codes

end Sys2Proof.Machine
end

