-- ==== Sys2Proof/Safety.lean ====
section
/-! DEFINITION. The terms that the statements use: what it takes for a request to be taken, the state right after it has
been answered, and what a state of the part keeps from step to step. -/

namespace Sys2Proof.Safety

open Sys2Proof.Machine

/-! ### A request in its turn -/

/-- `r` is the oldest request waiting in the queue of master `m`, and that master's port may take it: the part is out of
reset; every memory write of the master's earlier accepted write request has completed (R42); and for the tablet both
receive buffers are EMPTY (R165, R170). -/
def Turn (m : Master) (r : Request) (s : State) : Prop :=
  s.scanOut.running = true ∧
    match m with
    | .tablet =>
      s.dock.requests.head? = some r ∧ s.dock.bufferA = .empty ∧ s.dock.bufferB = .empty ∧ s.mem.tabletWrite = none
    | .vehicle => s.vehicle.requests.head? = some r ∧ s.mem.vehicleWrite = none

/-- The outbound queue of the Dock Link after a message has been handed to the port (R162, R163). -/
def dockOutbound (msg : Message) (s : State) : List Message :=
  if s.dock.link = .up ∧ s.dock.outbound.length < 32 then s.dock.outbound ++ [msg] else s.dock.outbound

/-- The outbound queue of the Vehicle Line after a message has been handed to the port (R172, R173). -/
def vehicleOutbound (msg : Message) (s : State) : List Message :=
  if s.vehicle.present = true ∧ s.vehicle.outbound.length < 16 then s.vehicle.outbound ++ [msg] else s.vehicle.outbound

/-- The state in which the oldest request of master `m` has left its queue and nothing else has changed. -/
def taken (m : Master) (s : State) : State :=
  match m with
  | .tablet => { s with dock := { s.dock with requests := s.dock.requests.tail } }
  | .vehicle => { s with vehicle := { s.vehicle with requests := s.vehicle.requests.tail } }

/-- The state in which a message has been handed to the port of master `m` and nothing else has changed. -/
def handed (m : Master) (msg : Message) (s : State) : State :=
  match m with
  | .tablet => { s with dock := { s.dock with outbound := dockOutbound msg s } }
  | .vehicle => { s with vehicle := { s.vehicle with outbound := vehicleOutbound msg s } }

/-- The state in which the oldest request of master `m` has been taken and answered, and nothing else has changed: the
request has left its queue, and the reply stands last in the outbound queue if there is a place for it. -/
def answered (m : Master) (code : Nat) (result : Result) (values : List Byte) (s : State) : State :=
  handed m (.reply code result values) (taken m s)

/-- The refusal of the pane check (R5, R6) of a request from `m` that names pane `n` and is neither SHOW nor HIDE; none if
the request passes. -/
def paneRefusal (m : Master) (n : Nat) (s : State) : Option Result :=
  match s.pane? n with
  | none => some .noSuchPane
  | some p =>
    if n = 0 then some .notOwner
    else if p.phase = .closing then some .paneClosing
    else if p.owner ≠ masterOwner m then some .notOwner
    else none

/-- The command `c` is answered with a refusal: whenever the request it takes is in its turn, the next state differs only
by the request taken and the reply handed, which carries `code`, `result` and no values. -/
def RefusedWith (c : Instr) (code : Nat) (result : Result) (s : State) : Prop :=
  ∀ m r, c.request? = some (m, r) → Turn m r s → exec c s = .next (answered m code result [] s)

/-- The pane `n` may be changed by master `m`: it passes the pane check of R5. -/
def Owned (m : Master) (n : Nat) (p : Pane) (s : State) : Prop :=
  s.pane? n = some p ∧ n ≠ 0 ∧ p.phase ≠ .closing ∧ p.owner = masterOwner m

/-- The state with a new pending part on a LIVE, READY or PREPARING pane and nothing else changed (R12). -/
def staged (n : Nat) (p : Pane) (part : PendingPart) (s : State) : State :=
  { s with layout := { s.layout with panes := s.layout.panes.set n (some { p with staged := part }) } }

/-- The state in which a notice has been handed to an owner's port, if the owner is a master. -/
def told (o : Option Owner) (x : Notice) (s : State) : State :=
  match o with
  | some .tablet => handed .tablet (.notice x) s
  | some .vehicle => handed .vehicle (.notice x) s
  | _ => s

/-- The state in which a status row field has been handed a new text, if text or attribute changed (R28). -/
def rowTold (f : RowField) (before after : RowText) (s : State) : State :=
  { s with mem := { s.mem with
      rowWrites :=
        if before = after then s.mem.rowWrites else s.mem.rowWrites ++ [{ column := f.start, cells := after.cells f.width }] } }

/-! ### Claims -/

/-- Step 1 of R8 refuses with BAD_CLASS: the tablet asks for class ALERT. -/
def ClassBarred (m : Master) (ops : ClaimOps) : Prop := m = .tablet ∧ ops.kind ≤ 1 ∧ ops.cls = 1

/-- Step 1 of R8 refuses with BAD_KIND: the vehicle unit asks for kind PIXEL. -/
def KindBarred (m : Master) (ops : ClaimOps) : Prop := m = .vehicle ∧ ops.kind = 0 ∧ ops.cls ≤ 1

/-- Step 2 of R8 refuses with BAD_VALUE; an undefined code, an unnamed option bit and a transparent-value option that does
not match the length count as undefined codes (R176). -/
def ValuesBarred (ops : ClaimOps) : Prop :=
  ops.window.width = 0 ∨ ops.window.height = 0 ∨
    (ops.kind = 0 ∧ ¬(1 ≤ ops.sizeX ∧ ops.sizeX ≤ 2048 ∧ 1 ≤ ops.sizeY ∧ ops.sizeY ≤ 2048)) ∨
    (ops.kind = 1 ∧ ¬(1 ≤ ops.sizeX ∧ ops.sizeX ≤ 256 ∧ 1 ≤ ops.sizeY ∧ ops.sizeY ≤ 128)) ∨
    (ops.buffers ≠ 1 ∧ ops.buffers ≠ 2) ∨ (ops.kind = 1 ∧ ops.transparent ≠ none) ∨
    1 < ops.kind ∨ 1 < ops.cls ∨ ops.strayOptions = true ∨ ops.transparentBit ≠ ops.transparent.isSome

/-- The blocks that a CLAIM needs (R34). -/
def blocksNeeded (ops : ClaimOps) : Nat := (ops.sizeX * ops.sizeY * 2 + 4095) / 4096 * ops.buffers

/-- The non-FREE panes that a master may hold (R3). -/
def quotaOf (m : Master) : Nat :=
  match m with
  | .tablet => 4
  | .vehicle => 3

/-! ### The keyboard -/

/-- One row of the table of R72: the state of a position after a scan that reads it DOWN or UP. -/
def scanRow (pressCount releaseCount : Nat) (down : Bool) (p : Position) : Position :=
  match p.state with
  | .stableUp => if down then { state := .pressPending, count := 1 } else { state := .stableUp, count := 0 }
  | .pressPending =>
    if down then
      if p.count + 1 < pressCount then { state := .pressPending, count := p.count + 1 }
      else { state := .stableDown, count := 0 }
    else { state := .stableUp, count := 0 }
  | .stableDown => if down then { state := .stableDown, count := 0 } else { state := .releasePending, count := 1 }
  | .releasePending =>
    if down then { state := .stableDown, count := 0 }
    else if p.count + 1 < releaseCount then { state := .releasePending, count := p.count + 1 }
    else { state := .stableUp, count := 0 }

/-- What the table of R72 hands on for key code `c`. -/
def scanHands (pressCount releaseCount : Nat) (down : Bool) (c : Nat) (p : Position) : Option KeyChange :=
  if p.state = .pressPending ∧ down = true ∧ pressCount ≤ p.count + 1 then some (.down c)
  else if p.state = .releasePending ∧ down = false ∧ releaseCount ≤ p.count + 1 then some (.up c)
  else none

/-- The raw reading differs from the stable state of the position (R73). -/
def readsOther (down : Bool) (p : Position) : Bool :=
  if p.state = .stableUp ∨ p.state = .pressPending then down else !down

/-- The position record of a key code. -/
def positionOf (s : State) (c : Nat) : Position := s.scanner.positions.getD c Position.up

/-- The leaving of PARKED as R143, R66, R78, R126 and R134 give it, with nothing else changed. -/
def leftPark (s : State) : State :=
  { s with
    park :=
      if s.ignitionOn then { s.park with state := .run, countdown := none }
      else
        { s.park with
          state := .parkPending
          countdown := some (max (1000 * s.park.delay) 30000), countdownLength := max (1000 * s.park.delay) 30000 }
    scanOut := { s.scanOut with panel := if s.scanOut.panel = PanelState.off then .resuming else s.scanOut.panel }
    scanner :=
      if s.scanner.mode = .wakeDetect then
        { s.scanner with
          mode := if s.scanner.wakeLatch then .capture else .scanning, wakeLatch := false, quietSeen := false }
      else s.scanner
    light :=
      { s.light with
        parked := false
        converting := true, scanStart := if s.light.converting then s.light.scanStart else s.now } }

/-! ### Timers -/

/-- A timer runs and its expiry count has been reached. -/
def Due (timer : Option Nat) (s : State) : Prop := ∃ e, timer = some e ∧ e ≤ s.now

/-! ### Inputs -/

/-- The mode selects an edge to the level given (R148). -/
def edgeSelected (mode : InputMode) (level : Bool) : Bool :=
  match mode with
  | .edge .rising => level
  | .edge .falling => !level
  | .edge .both => true
  | .level active => level == active

/-- A flag and its ack record after an edge (R148, R149). -/
def flagAfter (mode : InputMode) (level flag ack : Bool) : Bool × Bool :=
  if edgeSelected mode level then (true, if flag then ack else false)
  else
    match mode with
    | .level _ => if ack then (false, false) else (flag, ack)
    | .edge _ => (flag, ack)

/-- An input one millisecond and one sample later (R146 to R149). -/
def sampled (i : DiscreteInput) (pin : Bool) : DiscreteInput :=
  if pin = i.qualified then { i with latest := pin, changeCount := 0, interval := min 65535 (i.interval + 1) }
  else if i.changeCount + 1 < i.qualTime then
    { i with latest := pin, changeCount := i.changeCount + 1, interval := min 65535 (i.interval + 1) }
  else
    { i with
      qualified := pin, latest := pin, changeCount := 0, interval := 0
      tabletFlag := (flagAfter i.mode pin i.tabletFlag i.tabletAck).1
      tabletAck := (flagAfter i.mode pin i.tabletFlag i.tabletAck).2
      vehicleFlag := (flagAfter i.mode pin i.vehicleFlag i.vehicleAck).1
      vehicleAck := (flagAfter i.mode pin i.vehicleFlag i.vehicleAck).2 }

/-! ### Focus, key queues and key reports -/

/-- The owner of a pane that may be NONE. -/
def ownerAt (n : Option Nat) (s : State) : Option Owner := (n.bind s.pane?).map (·.owner)

/-- The focus has taken a value (R85): on a change, FOCUS LOST to the old pane's owner, then FOCUS GAINED to the new one's,
then the KEYS field; nothing else changes. -/
def focusMoved (v : Option Nat) (s : State) : State :=
  if s.router.focus = v then s
  else
    let lost := told (ownerAt s.router.focus s) (.focusLost (s.router.focus.getD 0))
      { s with router := { s.router with focus := v } }
    rowTold .keys (keysText (ownerAt s.router.focus s)) (keysText (ownerAt v s))
      (told (ownerAt v s) (.focusGained (v.getD 0)) lost)

/-- The Key Router's part for a master. -/
def channel (m : Master) (s : State) : KeyChannel :=
  match m with
  | .tablet => s.router.tablet
  | .vehicle => s.router.vehicle

/-- The state with the Key Router's part for a master replaced and nothing else changed. -/
def withChannel (m : Master) (c : KeyChannel) (s : State) : State :=
  match m with
  | .tablet => { s with router := { s.router with tablet := c } }
  | .vehicle => { s with router := { s.router with vehicle := c } }

/-- The port of a master has its link and a free place (R103, R104). -/
def Room (m : Master) (s : State) : Prop :=
  match m with
  | .tablet => s.dock.link = .up ∧ s.dock.outbound.length < 32
  | .vehicle => s.vehicle.present = true ∧ s.vehicle.outbound.length < 16

/-- A report may be built for a master (R103, R104). -/
def ReportDue (m : Master) (s : State) : Prop :=
  (channel m s).gate = .opened ∧ (channel m s).queue ≠ [] ∧ Room m s

/-- The state once the report that was due has been built and handed: the oldest events, up to 8 for the tablet and up to
2 for the vehicle unit, and the gate WAITING (R103, R104). -/
def reportBuilt (m : Master) (s : State) : State :=
  let k := match m with
    | .tablet => 8
    | .vehicle => 2
  handed m (.keyReport ((channel m s).queue.take k))
    (withChannel m { channel m s with queue := (channel m s).queue.drop k, gate := .waiting } s)

/-- `t` is `s` with a key report built if one was due. -/
def ReportedIf (m : Master) (s t : State) : Prop := (ReportDue m s ∧ t = reportBuilt m s) ∨ (¬ReportDue m s ∧ t = s)

/-- The delta of an event that enters a queue now (R98). -/
def deltaNow (m : Master) (s : State) : Nat :=
  match (channel m s).lastEntry with
  | none => 65535
  | some time => min 65535 (s.now - time)

/-- The state once a key event has entered a master's queue (R98). -/
def entered (m : Master) (code : Nat) (kind : KeyKind) (s : State) : State :=
  withChannel m
    { channel m s with
      queue := (channel m s).queue ++ [{ code := code, kind := kind, delta := deltaNow m s }]
      lastEntry := some s.now } s

/-- A master's part of the Key Router once the flush has placed its UPs: one for each entry targeted at it, oldest first,
the first with its delta and the others with 0 (R97, R98). -/
def flushedChannel (m : Master) (s : State) : KeyChannel :=
  let ups := s.router.held.filter fun e => e.target == some (masterOwner m)
  let first := deltaNow m s
  { channel m s with
    queue := (channel m s).queue ++
      ups.zipIdx.map fun (e, k) => { code := e.code, kind := .up, delta := if k = 0 then first else 0 }
    lastEntry := if ups = [] then (channel m s).lastEntry else some s.now }

/-- The state once a flush has placed its UPs, emptied the table and stopped the repeat, before the reports (R97). -/
def flushed (s : State) : State :=
  { s with router := { s.router with
      tablet := flushedChannel .tablet s, vehicle := flushedChannel .vehicle s, held := [], repeatKey := none } }

/-- `t` is `s` after a flush (R97): the UPs, then the reports that were due. -/
def FlushedTo (s t : State) : Prop := ∃ u, ReportedIf .tablet (flushed s) u ∧ ReportedIf .vehicle u t

/-- The repeat has stopped if its key is another than `code` (R91, R102). -/
def quieted (code : Nat) (s : State) : State :=
  if s.router.repeatKey.any (fun r => r.code != code) then { s with router := { s.router with repeatKey := none } } else s

/-- The held-key table with one entry more (R90). -/
def keyHeld (code : Nat) (target : Option Owner) (s : State) : State :=
  { s with router := { s.router with held := s.router.held ++ [{ code := code, target := target, time := s.now }] } }

/-- Key activity has restarted a countdown that runs (R142). -/
def activity (s : State) : State :=
  if s.park.state = .parkPending then { s with park := { s.park with countdown := some s.park.countdownLength } } else s

/-! ### Alerts, light and park -/

/-- The alert focus value (R113). -/
def alertValue (s : State) : Option Nat :=
  if s.vehicle.present = true ∧ ((s.alerts.stack.head?).bind s.pane?).any (·.acceptsKeys) then s.alerts.stack.head?
  else none

/-- The state with line `n`, a dedicated line, switched (R152, R153). -/
def switched (n : Nat) (on : Bool) (s : State) : State :=
  { s with lines := { s.lines with lines := s.lines.lines.set n { out := true, latch := on } } }

/-- The Key Router's fix-up for a pane that is no longer eligible: only if it holds the focus, to NONE during a hold, else
to the first pane of the ring, else to NONE (R88). -/
def paneLost (n : Nat) (s : State) : State :=
  if s.router.focus = some n then focusMoved (if s.router.hold then none else s.ring.head?) s else s

/-- The saved focus becomes NONE if it names pane `n` (R119). -/
def savedDropped (n : Nat) (s : State) : State :=
  if s.alerts.saved = some n then { s with alerts := { s.alerts with saved := none } } else s

/-- The hold has ended, from a stack of `size` panes (R113, R115, R89, R137, R119). -/
def holdOver (size : Nat) (s : State) : State :=
  let back : Option Nat := if s.alerts.saved.any s.eligible then s.alerts.saved else s.ring.head?
  let t := switched 3 false (focusMoved back { s with router := { s.router with hold := false } })
  let t := rowTold .alert (alertText size) (alertText 0) { t with light := { t.light with hold := false } }
  { t with alerts := { t.alerts with saved := none } }

/-- The Alert Controller has taken the closing of pane `n` (R118): off the stack and off the list of unreported
acknowledgements; the hold ends with the last pane, the focus follows a change of the top, the ALERT field the size. -/
def alertClosed (n : Nat) (s : State) : State :=
  let before := s.alerts.stack
  let after := before.filter (· != n)
  let t : State :=
    { s with alerts := { s.alerts with stack := after, unreported := s.alerts.unreported.filter (· != n) } }
  savedDropped n
    (if n ∉ before then t
    else if after = [] then holdOver before.length t
    else
      rowTold .alert (alertText before.length) (alertText after.length)
        (if before.head? = some n then focusMoved (alertValue t) t else t))

/-- The ambient filter after a sample, with the record present before it (R131). -/
def filterMoved (f a : Nat) : Nat :=
  if f + 8 ≤ 16 * a then f + (16 * a - f) / 8
  else if f < 16 * a then f + 1
  else if 16 * a + 8 ≤ f then f - (f - 16 * a) / 8
  else if 16 * a < f then f - 1
  else f

/-- The supply state, the low count and the recover count after a sample (R128). -/
def supplyRow (low : Bool) (lowCount recoverCount value : Nat) : Bool × Nat × Nat :=
  if low = false then
    if 450 ≤ value then (false, 0, recoverCount)
    else if lowCount = 0 then (false, 1, recoverCount)
    else (true, 0, 0)
  else if value < 500 then (true, lowCount, 0)
  else if recoverCount ≤ 3 then (true, lowCount, recoverCount + 1)
  else (false, 0, 0)

/-- The target duty of a filter value and an offset (R132, R133), for the dark cab setting, the hold, the supply and the
temperature state and the park record. -/
def dutyFor (f : Nat) (k : Int) (darkCab hold low hot parked : Bool) : Nat :=
  let a := f / 16
  let auto : Nat := 40 + a * 960 / 1023
  let base : Nat := (min 1000 (max 20 (auto + 60 * k))).toNat
  let base := if darkCab then 0 else base
  let base := if hold ∧ base < 800 then 800 else base
  let base := if low ∧ 200 < base then 200 else base
  let base := if hot ∧ 600 < base then 600 else base
  if parked then 0 else base

/-- The applied duty after an update without a jump (R134). -/
def dutyMoved (applied target : Nat) : Nat :=
  if applied < target then min target (applied + 25) else max target (applied - 25)

/-- `t` is `s` with PARKED entered, for its causes outside: the park state, the panel, the scanner with its flush, the
light (R65, R76, R97, R134, R142). -/
def ParkedTo (s t : State) : Prop :=
  ∃ u, FlushedTo s u ∧ t = { u with
    park := { u.park with state := .parked, countdown := none }
    scanOut := { u.scanOut with panel := .off }
    scanner := { u.scanner with
      mode := .wakeDetect, positions := List.replicate 128 { state := .stableUp, count := 0 }
      wakeLatch := false, quietSeen := false }
    light := { u.light with parked := true, target := 0, applied := 0 } }

/-! ### Inputs at their edges -/

/-- A sample makes a qualified edge (R146). -/
def edgeTaken (i : DiscreteInput) (pin : Bool) : Bool := pin != i.qualified && decide (i.qualTime ≤ i.changeCount + 1)

/-- An INPUT CHANGE for each master whose flag the edge of input `n` sets (R148), the tablet first. The interval is the
counter at the sample (R147). -/
def edgeTold (n : Nat) (i : DiscreteInput) (pin : Bool) (s : State) : State :=
  if edgeTaken i pin && edgeSelected i.mode pin then
    let change : Message := .notice (.inputChange n pin (min 65535 (i.interval + 1)))
    let s := if i.tabletFlag then s else handed .tablet change s
    if i.vehicleFlag then s else handed .vehicle change s
  else s

/-- A flag and its ack record after INPUT ACK (R149). -/
def acked (i : DiscreteInput) (flag ack : Bool) : Bool × Bool :=
  if flag then
    match i.mode with
    | .edge _ => (false, false)
    | .level active => if i.qualified = active then (true, true) else (false, false)
  else (false, ack)

/-! ### The memory as every step keeps it -/

/-- The allocation list of an owner is as R33 says: runs inside the region, in ascending order, not overlapping. -/
def RunsInOrder (o : Owner) (s : State) : Prop :=
  (s.alloc.runs o).Pairwise (fun r q => r.start + r.length ≤ q.start) ∧
    ∀ r ∈ s.alloc.runs o, (regionBounds o).1 ≤ r.start ∧ 1 ≤ r.length ∧ r.start + r.length ≤ (regionBounds o).2

/-- The memory's canonical form (R32). -/
def MemoryKept (s : State) : Prop := Memory.wf s.mem.cells

/-- The allocation lists, the panes' runs and the fill list (R33, R34, R36 to R38, R40), and the status row writes (R28):
each pane's run stands in its owner's list, each listed run is that of one pane, and the fills are those of the PREPARING
panes. -/
def AllocationKept (s : State) : Prop :=
  (∀ o, RunsInOrder o s) ∧
    (∀ n p, s.pane? n = some p →
      p.run ∈ s.alloc.runs p.owner ∧ p.run.length = (p.sizeX * p.sizeY * 2 + 4095) / 4096 * p.buffers) ∧
    (∀ o, ∀ r ∈ s.alloc.runs o, ∃ n p, s.pane? n = some p ∧ p.owner = o ∧ p.run = r) ∧
    (∀ n k p q, s.pane? n = some p → s.pane? k = some q → n ≠ k → p.owner = q.owner → p.run ≠ q.run) ∧
    (∀ n p, s.pane? n = some p → p.phase = .preparing → ∃ e ∈ s.mem.fills, e.pane = n) ∧
    (s.mem.fills.map (·.pane)).Nodup ∧
    (∀ e ∈ s.mem.fills, e.blocksDone ≤ e.run.length ∧
      ∃ p, s.pane? e.pane = some p ∧ p.phase = .preparing ∧ p.run = e.run) ∧
    ∀ w ∈ s.mem.rowWrites, w.column + w.cells.length ≤ 100

/-! ### Codes and layouts (chapter 11) -/

/-- A number as two bytes, the low byte first. -/
def twoBytes (n : Nat) : List Byte := [byte n, byte (n / 256)]

/-- A result's byte in a reply (R177). -/
def resultByte : Result → Byte
  | .ok => 0x00
  | .deferred => 0x01
  | .noSuchPane => 0x10
  | .notOwner => 0x11
  | .paneBusy => 0x12
  | .paneClosing => 0x13
  | .quota => 0x14
  | .noMemory => 0x15
  | .badKind => 0x16
  | .badClass => 0x17
  | .badValue => 0x18
  | .flipPending => 0x19
  | .notDouble => 0x1A
  | .notEligible => 0x1B
  | .notAllowed => 0x1C
  | .unknown => 0x1D

/-- A notice's code and its values (R177, R178). -/
def noticeParts : Notice → Nat × List Byte
  | .paneLive pane frame => (0x90, byte pane :: twoBytes frame)
  | .flipDone pane front frame => (0x91, byte pane :: byte front :: twoBytes frame)
  | .writeDone pane buffer result missing =>
    let code : Byte := match result with
      | .complete => 0
      | .damaged => 1
      | .incomplete => 2
      | .paneGone => 3
    (0x92, [byte pane, byte buffer, code] ++ twoBytes missing ++ twoBytes (missing / 65536))
  | .focusGained pane => (0x93, [byte pane])
  | .focusLost pane => (0x94, [byte pane])
  | .alertAcknowledged pane => (0x95, [byte pane])
  | .inputChange input level interval => (0x96, [byte input, if level then 1 else 0] ++ twoBytes interval)
  | .supplyChange low hot supply panelTemp =>
    (0x97, [if low then 1 else 0, if hot then 1 else 0] ++ twoBytes supply ++ twoBytes panelTemp)
  | .tabletState attached => (0x98, [if attached then 1 else 0])

/-- A key event record (R180). -/
def eventRecord (e : KeyEvent) : List Byte :=
  let kind : Byte := match e.kind with
    | .down => 0
    | .up => 1
    | .repeated => 2
  [byte e.code, kind] ++ twoBytes e.delta

/-- The packet kinds that the tablet may send (R177). -/
def KindDefined (kind : Nat) : Prop :=
  (0x01 ≤ kind ∧ kind ≤ 0x02) ∨ (0x10 ≤ kind ∧ kind ≤ 0x18) ∨ (0x20 ≤ kind ∧ kind ≤ 0x22) ∨
    (0x30 ≤ kind ∧ kind ≤ 0x34) ∨ (0x40 ≤ kind ∧ kind ≤ 0x45) ∨ (0x50 ≤ kind ∧ kind ≤ 0x54)

/-- The request codes that the vehicle unit may send: those of the tablet but HELLO, KEEPALIVE, WRITE BEGIN, WRITE DATA,
FILL RECT and TEXT PUT (R177). -/
def CodeDefined (code : Nat) : Prop := KindDefined code ∧ code ∉ [0x01, 0x02, 0x30, 0x31, 0x32, 0x33]

/-- A payload of `n` bytes fits a kind (R176, R178; for KEEPALIVE, which R178 does not list, the model's choice:
notes/assumptions/36.md). -/
def LengthFits (kind n : Nat) : Prop :=
  (kind ∈ [0x02, 0x21, 0x42, 0x44, 0x45, 0x52] ∧ n = 0) ∨
    (kind ∈ [0x11, 0x14, 0x15, 0x16, 0x17, 0x18, 0x20, 0x40, 0x50, 0x54] ∧ n = 1) ∨
    (kind ∈ [0x01, 0x34, 0x51, 0x53] ∧ n = 2) ∨ (kind = 0x43 ∧ n = 3) ∨ (kind = 0x41 ∧ n = 4) ∨
    (kind ∈ [0x13, 0x22] ∧ n = 5) ∨ (kind = 0x12 ∧ n = 9) ∨ (kind = 0x30 ∧ n = 10) ∨ (kind = 0x32 ∧ n = 12) ∨
    (kind = 0x10 ∧ (n = 16 ∨ n = 18)) ∨ (kind = 0x31 ∧ 4 ≤ n) ∨ (kind = 0x33 ∧ ∃ cells ≤ 256, n = 4 + 2 * cells)

/-- Operands of `n` bytes fit a request code of the vehicle unit (R178, R179). -/
def OperandsFit (code n : Nat) : Prop :=
  if code = 0x10 then n = 7
  else if code = 0x12 then n = 5
  else if code = 0x42 ∨ code = 0x45 then n = 1
  else LengthFits code n

/-! ### The links -/

/-- The TAB field and the LINK LED after the link state has changed to UP, or into HOLD from UP (R27, R28, R153). -/
def linkShown (before after : LinkState) (s : State) : State :=
  let t := rowTold .tab (tabText before) (tabText after) s
  { t with lines :=
      { lines := t.lines.lines.set 4 { out := true, latch := true }
        ledTimer := if after = .hold then some (s.now + 250) else none } }

/-- `t` is `s` after the resume (R162): the timers, the tablet's gate OPEN and its report if one is due (R106), then the
TAB field and the LINK LED. -/
def ResumedTo (s t : State) : Prop :=
  ∃ u, ReportedIf .tablet
      { s with
        dock := { s.dock with link := .up, graceTimer := none, silence := some (s.now + 20), send := some (s.now + 5) }
        router := { s.router with tablet := { s.router.tablet with gate := .opened } } } u ∧
    t = linkShown .hold .up u

/-- The state after the entry to HOLD from UP (R162). -/
def heldLink (s : State) : State :=
  linkShown .up .hold
    { s with dock := { s.dock with
        link := .hold, silence := none, send := none, graceTimer := some (s.now + s.dock.grace), outbound := [] } }

/-- The OK values of HELLO (R160, R178): vendor 0x0A31, part 0x0042, revision 1, 800 × 480, the regions of 400, 80 and 32
blocks, the quotas 4 and 3, the granted grace. -/
def helloValues (granted : Nat) : List Byte :=
  [0x31, 0x0A, 0x42, 0x00, 0x01, 0x20, 0x03, 0xE0, 0x01, 0x90, 0x01, 0x50, 0x00, 0x20, 0x00, 0x04, 0x03,
    byte granted, byte (granted / 256)]

/-- The state after the link start of a HELLO (R160), from a state whose outbound queue is empty: the reply first, then a
key report if the gate is OPEN and events wait, then an INPUT CHANGE for each set tablet flag. -/
def linkStarted (grace : Nat) (s : State) : State :=
  let granted := max 100 (min 1000 grace)
  let c : KeyChannel := { s.router.tablet with lastEntry := none }
  let due : Bool := decide (c.gate = .opened) && !c.queue.isEmpty
  let t : State :=
    { s with
      dock := { s.dock with
        grace := granted, link := .up, graceTimer := none, silence := some (s.now + 20), send := some (s.now + 5)
        outbound :=
          .reply 0x01 .ok (helloValues granted)
            :: ((if due then [.keyReport (c.queue.take 8)] else [])
              ++ s.inputs.zipIdx.filterMap fun (i, n) =>
                if i.tabletFlag then some (.notice (.inputChange n i.qualified i.interval)) else none) }
      router := { s.router with
        tablet := if due then { c with queue := c.queue.drop 8, gate := .waiting } else c }
      vehicle := { s.vehicle with outbound := vehicleOutbound (.notice (.tabletState true)) s } }
  linkShown s.dock.link .up t

/-- Pane `n` is one that a departure frees at once: PREPARING or READY, and the tablet's (R29). -/
def freedBy (s : State) (n : Nat) : Bool :=
  (s.pane? n).any fun p => p.owner == .tablet && (p.phase == .preparing || p.phase == .ready)

/-- Pane `n` is one that a departure closes: LIVE, and the tablet's (R29). -/
def closedBy (s : State) (n : Nat) : Bool := (s.pane? n).any fun p => p.owner == .tablet && p.phase == .live

/-- The fill of an entry is one that a departure aborts (R29, R40). -/
def fillAborted (s : State) (e : FillEntry) : Bool :=
  (s.pane? e.pane).any fun p => p.owner == .tablet && p.phase == .preparing

/-- The state once the port, the Layout Controller and, but for the focus, the Key Router have taken the departure (R161,
R29, R37, R40, R107), with the bytes of memory and the free values used given. -/
def departed (cells : List Host.Cell) (used : Nat) (s : State) : State :=
  { s with
    layout := { s.layout with
      panes := s.layout.panes.map fun r => r.bind fun p =>
        if p.owner = .tablet then
          match p.phase with
          | .preparing => none
          | .ready => none
          | .live =>
            some { p with
              phase := .closing, staged := { window := none, scroll := none, visible := none, flip := false } }
          | .closing => some p
        else some p
      nextOrder := s.layout.nextOrder.filter fun n => !closedBy s n
      ready := s.layout.ready.filter fun n => !freedBy s n }
    alloc := { s.alloc with
      tablet :=
        (s.layout.panes.filterMap fun r => r.bind fun p =>
          if p.owner = .tablet ∧ (p.phase = .preparing ∨ p.phase = .ready) then some p.run else none).foldl
            List.erase s.alloc.tablet }
    mem := { s.mem with cells := cells, fills := s.mem.fills.filter fun e => !fillAborted s e, tabletWrite := none }
    router := { s.router with
      tablet := { s.router.tablet with queue := [], lastEntry := none, gate := .opened }
      held := s.router.held.map fun e => if e.target = some .tablet then { e with target := none } else e
      repeatKey := s.router.repeatKey.filter fun r => r.target != .tablet }
    dock := { s.dock with
      link := if (s.inputs[0]?).any (·.qualified) then .attaching else .absent
      silence := none, graceTimer := none, send := none, requests := [], outbound := []
      bufferA := .empty, bufferB := .empty, nextBuffer := .a, stream := none }
    freeCount := used }

/-- The TAB field and the LINK LED once a departure has taken the link from `before` to ATTACHING or ABSENT (R27, R28,
R153): in ATTACHING after HOLD the LED goes on blinking as it was. -/
def linkGone (before : LinkState) (s : State) : State :=
  let t := rowTold .tab (tabText before) (tabText s.dock.link) s
  { t with lines :=
      if s.dock.link = .attaching then
        if before = .hold then s.lines
        else { lines := s.lines.lines.set 4 { out := true, latch := true }, ledTimer := some (s.now + 250) }
      else { lines := s.lines.lines.set 4 { out := true, latch := false }, ledTimer := none } }

/-- The state after a departure, with the bytes of memory and the free values used given: the focus fix-up of a focus that a
tablet pane held, the saved focus, the tablet's lines, TABLET STATE (departed), the TAB field and the LINK LED (R88, R107,
R122, R156, R161, R153). That the arbiter's turns stay where a fill, a write or a drain is cut off is the model's choice
(notes/assumptions/42.md). -/
def departedState (cells : List Host.Cell) (used : Nat) (s : State) : State :=
  let b := departed cells used s
  let f :=
    if ownerAt s.router.focus b = some .tablet then focusMoved (if s.router.hold then none else b.ring.head?) b else b
  let general := [0, 1, 2, 7].foldl (fun l n => l.set n { out := false, latch := false }) s.lines.lines
  let v : State :=
    { f with
      alerts := { f.alerts with saved := if ownerAt s.alerts.saved b = some .tablet then none else s.alerts.saved }
      lines := { f.lines with lines := general } }
  linkGone s.dock.link (handed .vehicle (.notice (.tabletState false)) v)

/-- An address lies in the run of a pane. -/
def inRun (p : Pane) (a : Nat) : Prop := p.run.start * 4096 ≤ a ∧ a < (p.run.start + p.run.length) * 4096

/-- `t` is what the departure (R161) makes of `s`, block by block: the port and its master's write; the tablet's panes
(R29); its keys (R107); its lines (R156); TABLET STATE (departed) last of what the vehicle unit is sent. While no pane that
it closes is an alert (R118), `t` is that state whole, but for bytes of memory; and the bytes that change are bytes of the
fill at the head, if that is aborted, and of the panes that a write or a stream of the tablet names (R40, R43). The arbiter's
turns stay, which is the model's choice where work is cut off (notes/assumptions/42.md). -/
def DepartedTo (s t : State) : Prop :=
  ((∀ n, closedBy s n = true → n ∉ s.alerts.stack ∧ n ∉ s.alerts.unreported) →
      t = departedState t.mem.cells t.freeCount s) ∧
    (MemoryKept s → AllocationKept s → ∀ a, Memory.read t.mem.cells a ≠ Memory.read s.mem.cells a →
      (∃ e rest, s.mem.fills = e :: rest ∧ fillAborted s e = true ∧
        e.run.start * 4096 ≤ a ∧ a < (e.run.start + e.run.length) * 4096) ∨
      (∃ w p, s.mem.tabletWrite = some w ∧ s.pane? w.job.pane = some p ∧ inRun p a) ∨
      ∃ st p, s.dock.stream = some st ∧ s.pane? st.pane = some p ∧ inRun p a) ∧
    t.dock =
      { s.dock with
        link := if (s.inputs[0]?).any (·.qualified) then .attaching else .absent
        silence := none, graceTimer := none, send := none, requests := [], outbound := []
        bufferA := .empty, bufferB := .empty, nextBuffer := .a, stream := none } ∧
    t.mem.tabletWrite = none ∧ t.mem.vehicleWrite = s.mem.vehicleWrite ∧
    (∀ n p, s.pane? n = some p →
      t.pane? n =
        if p.owner = .tablet then
          match p.phase with
          | .preparing => none
          | .ready => none
          | .live => some { p with phase := .closing, staged := PendingPart.absent }
          | .closing => some p
        else some p) ∧
    (∀ n, s.pane? n = none → t.pane? n = none) ∧
    t.layout.current = s.layout.current ∧ t.layout.frame = s.layout.frame ∧
    (∀ n, n ∈ t.layout.nextOrder ↔
      n ∈ s.layout.nextOrder ∧ ¬∃ p, s.pane? n = some p ∧ p.owner = .tablet ∧ p.phase = .live) ∧
    t.alloc.vehicle = s.alloc.vehicle ∧ t.alloc.part = s.alloc.part ∧
    t.router.tablet = { s.router.tablet with queue := [], lastEntry := none, gate := .opened } ∧
    t.router.vehicle = s.router.vehicle ∧
    t.router.held = s.router.held.map (fun e => if e.target = some .tablet then { e with target := none } else e) ∧
    t.router.repeatKey = s.router.repeatKey.filter (fun r => r.target != .tablet) ∧
    (∀ n ∈ [0, 1, 2, 7], t.lines.lines[n]? = (s.lines.lines[n]?).map fun _ => { out := false, latch := false }) ∧
    (∀ n ∈ [5, 6], t.lines.lines[n]? = s.lines.lines[n]?) ∧
    t.vehicle = { s.vehicle with outbound := t.vehicle.outbound } ∧ s.vehicle.outbound <+: t.vehicle.outbound ∧
    (s.vehicle.present = true → t.vehicle.outbound.length < 16 →
      t.vehicle.outbound.getLast? = some (.notice (.tabletState false))) ∧
    t.scanner = s.scanner ∧ t.park = s.park ∧ t.inputs = s.inputs ∧ t.scanOut = s.scanOut ∧ t.now = s.now

/-- The state after the return of the vehicle unit (R172, R117, R121, R148, R30), its silence timer started: the waiting
ALERT ACKNOWLEDGED notices, the focus during a hold, an INPUT CHANGE for each set vehicle flag, the VEH field. -/
def returned (s : State) : State :=
  let t : State :=
    { s with vehicle := { s.vehicle with present := true, silence := some (s.now + 1000) } }
  let t := s.alerts.unreported.foldl (fun u n => handed .vehicle (.notice (.alertAcknowledged n)) u) t
  let t : State := { t with alerts := { t.alerts with unreported := [] } }
  let t := if s.alerts.stack = [] then t else focusMoved (alertValue t) t
  let t := s.inputs.zipIdx.foldl
    (fun u (i, n) => if i.vehicleFlag then handed .vehicle (.notice (.inputChange n i.qualified i.interval)) u else u) t
  rowTold .veh (vehText false) (vehText true) t

/-- The state after the absence of the vehicle unit (R172, R108, R121, R30). -/
def absented (s : State) : State :=
  let t : State :=
    { s with
      vehicle := { s.vehicle with present := false, silence := none, requests := [], outbound := [], restartDone := 0 }
      router := { s.router with
        vehicle := { s.router.vehicle with queue := [], lastEntry := none, gate := .opened }
        held := s.router.held.map fun e => if e.target = some .vehicle then { e with target := none } else e
        repeatKey := s.router.repeatKey.filter fun r => r.target != .vehicle } }
  let t :=
    if ownerAt s.router.focus s = some .vehicle then
      focusMoved (if s.router.hold then none else t.ring.head?) t
    else t
  let t : State :=
    { t with alerts := { t.alerts with
        saved := if ownerAt s.alerts.saved s = some .vehicle then none else s.alerts.saved } }
  let t := if s.alerts.stack = [] then t else focusMoved none t
  rowTold .veh (vehText true) (vehText false) t

/-- The request queue of the Vehicle Line after a frame has come for it (R169). -/
def frameQueued (r : Request) (s : State) : State :=
  { s with vehicle := { s.vehicle with
      requests := if s.vehicle.requests.length < 4 then s.vehicle.requests ++ [r] else s.vehicle.requests } }

/-- The state after a unit of a RESTART has been restarted in its turn, from the state `t` that the unit's own rule gives:
`done` holds the units restarted up to it, as bits; after the last one the reply is handed (R174; the units as commands
of their own: notes/assumptions/11.md). -/
def unitDone (units done : Nat) (t : State) : State :=
  if units &&& done = units then
    (answered .vehicle 0x54 .ok [byte units] { t with vehicle := { t.vehicle with restartDone := 0 } })
  else { t with vehicle := { t.vehicle with restartDone := done } }

/-! ### Memory -/

/-- The runs of an owner's CLOSING panes, in ascending pane number (R22). -/
def closingRuns (o : Owner) (s : State) : List Run :=
  s.layout.panes.filterMap fun r => r.bind fun p => if p.owner = o ∧ p.phase = .closing then some p.run else none

/-- A record of the pane table after a boundary (R22 to R24). -/
def boundaryPane (s : State) (n : Nat) (p : Pane) : Option Pane :=
  let current : Pane :=
    { p with
      phase := .live
      window := p.staged.window.getD p.window
      scroll := p.staged.scroll.getD p.scroll
      visible := p.staged.visible.getD p.visible
      front := if p.staged.flip then 1 - p.front else p.front
      staged := { window := none, scroll := none, visible := none, flip := false } }
  match p.phase with
  | .closing => none
  | .live => some current
  | .ready => if n ∈ s.layout.ready then some current else some p
  | .preparing => some p

/-- The notices of a boundary with the owner each is for: PANE LIVE in the order of the ready list, then FLIP DONE in
ascending pane number (R23, R24, R25). -/
def boundaryNotices (s : State) : List (Option Owner × Notice) :=
  (s.layout.ready.map fun n => (ownerAt (some n) s, .paneLive n (s.layout.frame + 1).toNat)) ++
    (List.range 8).filterMap fun n => (s.pane? n).bind fun p =>
      if (p.phase = .live ∨ (p.phase = .ready ∧ n ∈ s.layout.ready)) ∧ p.staged.flip = true then
        some (some p.owner, .flipDone n (1 - p.front) (s.layout.frame + 1).toNat)
      else none

/-- The state once the Layout Controller and the Scan-out Unit have taken a boundary that gives `order`, before the pane
events are handed on (R22 to R25, R37, R66). -/
def boundaryMade (order : List Nat) (s : State) : State :=
  (boundaryNotices s).foldl (fun t x => told x.1 x.2 t)
    { s with
      layout :=
        { panes := s.layout.panes.zipIdx.map fun (r, n) => r.bind (boundaryPane s n), current := order
          nextOrder := order, ready := [], frame := s.layout.frame + 1 }
      alloc :=
        { tablet := (closingRuns .tablet s).foldl List.erase s.alloc.tablet
          vehicle := (closingRuns .vehicle s).foldl List.erase s.alloc.vehicle
          part := (closingRuns .part s).foldl List.erase s.alloc.part }
      scanOut :=
        { running := s.scanOut.running, line := 0, column := 0
          panel := if s.scanOut.panel = .resuming then .on else s.scanOut.panel } }

/-- The panes that a boundary hides, ascending (R25). -/
def hiddenAt (s : State) : List Nat :=
  (List.range 8).filter fun n =>
    (s.pane? n).any fun p => p.phase == .live && p.visible && p.staged.visible == some false

/-- `n` blocks from block `a` lie in the region of owner `o`, and no allocated run of the owner holds one of them (R32,
R33, R36). -/
def FreeBlocks (o : Owner) (n a : Nat) (s : State) : Prop :=
  (regionBounds o).1 ≤ a ∧ a + n ≤ (regionBounds o).2 ∧
    ∀ r ∈ s.alloc.runs o, a + n ≤ r.start ∨ r.start + r.length ≤ a

/-- The cells of one span of the status row: a text padded with spaces, every cell with one attribute (R26, R27). -/
def rowSpan (text : List Char) (width : Nat) (attr : Byte) : List (List Byte) :=
  (text ++ List.replicate (width - text.length) ' ').map fun c => [BitVec.ofNat 8 c.toNat, attr]

/-- The status row right after a full reset (R26, R27, R31), cell by cell: the code and the attribute. -/
def resetRow (bay : Bool) : List (List Byte) :=
  rowSpan (if bay then ['T', 'A', 'B', ' ', 'W', 'A', 'I', 'T'] else ['T', 'A', 'B', ' ', 'N', 'O', 'N', 'E']) 12 0xE0
    ++ rowSpan [] 1 0x0F ++ rowSpan ['V', 'E', 'H', ' ', 'L', 'O', 'S', 'T'] 10 0xE0
    ++ rowSpan [] 1 0x0F ++ rowSpan ['P', 'W', 'R', ' ', 'O', 'K'] 10 0x0F
    ++ rowSpan [] 1 0x0F ++ rowSpan ['T', 'E', 'M', 'P', ' ', 'O', 'K'] 8 0x0F
    ++ rowSpan [] 1 0x0F ++ rowSpan ['K', 'E', 'Y', 'S', ' ', 'N', 'O', 'N', 'E'] 12 0x0F
    ++ rowSpan [] 1 0x0F ++ rowSpan [] 8 0x0F
    ++ rowSpan [] 1 0x0F ++ rowSpan ['B', 'R', 'T', ' ', '0'] 10 0x0F ++ rowSpan [] 24 0x0F

/-- Everything that is to be written lies in the memory (R32): the buffers of every pane, the runs of the fill list, the
status row writes. -/
def InMemory (s : State) : Prop :=
  (∀ n p, s.pane? n = some p → ∀ b, b < p.buffers →
      p.bufferBase b + p.sizeX * p.sizeY * 2 ≤ 2097152) ∧
    (∀ e ∈ s.mem.fills, e.blocksDone ≤ e.run.length ∧ (e.run.start + e.run.length) * 4096 ≤ 2097152) ∧
    ∀ w ∈ s.mem.rowWrites, w.column + w.cells.length ≤ 100

/-- Every byte reads in `t` as it did in `s`, except at the addresses for which `f` gives a byte: there it reads as that
byte. -/
def BytesBecome (f : Nat → Option Byte) (s t : State) : Prop :=
  ∀ a, Memory.read t.mem.cells a = (f a).getD (Memory.read s.mem.cells a)

/-! ### The arbiter -/

/-- Bytes may be written into buffer `b` of the pane, and it lies in the memory (R32, R43). -/
def Writable (p : Pane) (b : Nat) : Prop :=
  (p.phase = .ready ∨ p.phase = .live) ∧ b < p.buffers ∧ p.bufferBase b + p.sizeX * p.sizeY * 2 ≤ 2097152

/-- The bytes that a write puts into a pane, clipped to its surface (R46 to R48). -/
def jobBytes (p : Pane) (job : WriteJob) : Nat :=
  match job with
  | .fillRect _ _ rect _ => 2 * min rect.w (p.sizeX - rect.x) * min rect.h (p.sizeY - rect.y)
  | .textPut _ _ row column cells => if row < p.sizeY then 2 * min cells.length (p.sizeX - column) else 0
  | .textClear _ _ => p.sizeX * p.sizeY * 2

/-- A write under way has bytes left (R42, R43). -/
def WriteLeft (w : Option ActiveWrite) (s : State) : Prop :=
  ∃ a p, w = some a ∧ s.pane? a.job.pane = some p ∧ Writable p a.job.buffer ∧ a.done < jobBytes p a.job

/-- The client has an access waiting (R50): bytes left of the run that the fill at the head of the list writes, bytes with a
target in the receive buffer filled longest ago, bytes left of the write of a source. -/
def HasWork (w : Writer) (s : State) : Prop :=
  match w with
  | .fill =>
    ∃ e rest p, s.mem.fills = e :: rest ∧ s.pane? e.pane = some p ∧ p.phase = .preparing ∧
      (e.run.start + e.run.length) * 4096 ≤ 2097152 ∧ e.blocksDone < e.run.length ∧ e.bytesDone < 4096
  | .drain =>
    ∃ name start bytes st p k, s.dock.oldest = some name ∧ (s.dock.rx name).content = some (start, bytes) ∧
      s.dock.stream = some st ∧ s.pane? st.pane = some p ∧ Writable p st.buffer ∧
      start ≤ k ∧ k < start + bytes.length ∧
      st.rect.x + k / 2 % st.rect.w < p.sizeX ∧ st.rect.y + k / 2 / st.rect.w < p.sizeY
  | .text .tablet => WriteLeft s.mem.tabletWrite s
  | .text .vehicle => WriteLeft s.mem.vehicleWrite s
  | .text .statusRow =>
    ∃ r rest, s.mem.rowWrites = r :: rest ∧ r.cells ≠ [] ∧ 1966080 + 2 * (r.column + r.cells.length) ≤ 2097152

/-- The clients in the order of their turns (R50). -/
def turns (s : State) : List Writer :=
  let sources : List Writer :=
    match s.mem.textTurn with
    | .tablet => [.text .tablet, .text .vehicle, .text .statusRow]
    | .vehicle => [.text .vehicle, .text .statusRow, .text .tablet]
    | .statusRow => [.text .statusRow, .text .tablet, .text .vehicle]
  match s.mem.turn with
  | .fill => [.fill, .drain] ++ sources
  | .drain => [.drain] ++ sources ++ [.fill]
  | .text => sources ++ [.fill, .drain]

/-- Client `w` is the one that the next grant goes to when Scan-out has no read waiting: the first in its turn that has an
access waiting (R50). -/
def Granted (w : Writer) (s : State) : Prop :=
  HasWork w s ∧ ∃ before after, turns s = before ++ w :: after ∧ ∀ x ∈ before, ¬HasWork x s

/-- The command at which the work of a client has finished. -/
def completionOf (w : Writer) : Instr :=
  match w with
  | .fill => .fillCompletion
  | .drain => .drainComplete
  | .text source => .memoryWritesComplete source

/-- What Surface Memory holds after a grant to client `w` with the bytes of its work numbered below `upTo` written, and its
turns: the next in the cycle fill, drain, text writer, and for the text writer the next in the cycle tablet, vehicle unit,
status row (R39, R50). -/
def memGranted (w : Writer) (upTo : Nat) (cells : List Host.Cell) (m : SurfaceMemory) : SurfaceMemory :=
  match w with
  | .fill =>
    { m with
      cells := cells, turn := .drain
      fills := match m.fills with
        | e :: rest =>
          (if upTo = 4096 then { e with blocksDone := e.blocksDone + 1, bytesDone := 0 }
            else { e with bytesDone := upTo }) :: rest
        | [] => [] }
  | .drain => { m with cells := cells, turn := .text }
  | .text .tablet =>
    { m with
      cells := cells, turn := .fill, textTurn := .vehicle
      tabletWrite := m.tabletWrite.map fun a => { a with done := upTo } }
  | .text .vehicle =>
    { m with
      cells := cells, turn := .fill, textTurn := .statusRow
      vehicleWrite := m.vehicleWrite.map fun a => { a with done := upTo } }
  | .text .statusRow =>
    { m with
      cells := cells, turn := .fill, textTurn := .tablet
      rowWrites := match m.rowWrites with
        | r :: rest => { column := r.column + upTo / 2, cells := r.cells.drop (upTo / 2) } :: rest
        | [] => [] }

/-- What the Dock Link Port holds after a grant to client `w`: the buffer that the drain writes from is DRAINING and holds
the bytes from offset `upTo` on (R166). -/
def dockGranted (w : Writer) (upTo : Nat) (d : DockPort) : DockPort :=
  let left (b : RxBuffer) : RxBuffer :=
    match b with
    | .empty => .empty
    | .filled start bytes => .draining upTo (bytes.drop (upTo - start))
    | .draining start bytes => .draining upTo (bytes.drop (upTo - start))
  match w, d.oldest with
  | .drain, some .a => { d with bufferA := left d.bufferA }
  | .drain, some .b => { d with bufferB := left d.bufferB }
  | _, _ => d

/-- `t` is what one access of client `w` makes of `s`, but for the frame's position (R50): the bytes `taken` from the front of
its work, those that lie in one aligned piece of 64 bytes, are written and no other, and its work and the turns go on. If they
were the last of its work, the work is finished as its completion finishes it (R11, R28, R39, R42, R166, R167); if not, the
completion makes of `t` what it makes of `s`: an access decides when a byte is written, not which bytes or values. -/
def AccessMade (w : Writer) (s t : State) : Prop :=
  ∃ taken left last, s.work w = taken ++ left ∧ taken.getLast? = some last ∧
    (∀ x ∈ taken, x.address / 64 = last.address / 64) ∧
    (∀ x, left.head? = some x → x.address / 64 ≠ last.address / 64) ∧
    (∀ x ∈ taken, Memory.read t.mem.cells x.address = x.value) ∧
    (∀ a, (∀ x ∈ taken, x.address ≠ a) → Memory.read t.mem.cells a = Memory.read s.mem.cells a) ∧
    (let u : State :=
      { s with
        mem := memGranted w (last.number + 1) t.mem.cells s.mem, dock := dockGranted w (last.number + 1) s.dock }
    (HasWork w u → t = { u with scanOut := t.scanOut } ∧
      ∀ v, exec (completionOf w) s = .next v → exec (completionOf w) t = .next { v with scanOut := t.scanOut }) ∧
    (¬HasWork w u → exec (completionOf w) s = .next { t with scanOut := s.scanOut }))

/-! ### What every step keeps -/

/-- The bounds on the two links' queues (R157, R163, R165, R169, R173), and an outbound queue that is empty in every link
state but UP (R161, R162, R163). -/
def QueuesKept (s : State) : Prop :=
  s.dock.requests.length ≤ 8 ∧ s.dock.outbound.length ≤ 32 ∧ (s.dock.link ≠ .up → s.dock.outbound = []) ∧
    s.vehicle.requests.length ≤ 4 ∧ s.vehicle.outbound.length ≤ 16

/-- The held-key table's bound (R90) and, for each master, the events in its key queue plus the held entries targeted at
it (R99). -/
def KeysKept (s : State) : Prop :=
  s.router.held.length ≤ 10 ∧
    s.router.tablet.queue.length + s.router.held.countP (fun e => e.target == some .tablet) ≤ 32 ∧
    s.router.vehicle.queue.length + s.router.held.countP (fun e => e.target == some .vehicle) ≤ 32

/-- The held-key table (R90, R82): no two entries have one key code, an entry's key is one whose position is STABLE_DOWN or
RELEASE_PENDING, and the table is empty outside SCANNING. -/
def HeldKept (s : State) : Prop :=
  (s.router.held.map (·.code)).Nodup ∧ (s.scanner.mode ≠ .scanning → s.router.held = []) ∧
    ∀ e ∈ s.router.held,
      (positionOf s e.code).state = .stableDown ∨ (positionOf s e.code).state = .releasePending

/-- A receive buffer that is not EMPTY holds 1 to 1,020 stream bytes (R157). -/
def BuffersKept (s : State) : Prop :=
  ∀ name start bytes, (s.dock.rx name).content = some (start, bytes) → 1 ≤ bytes.length ∧ bytes.length ≤ 1020

/-- The counts of the write stream (R167). -/
def StreamKept (s : State) : Prop :=
  ∀ st, s.dock.stream = some st →
    st.received + st.missing = st.nextExpected ∧ st.nextExpected ≤ st.total ∧
      (st.ended = true ↔ st.nextExpected = st.total)

/-- The focus, the alert stack and the saved focus (R84, R89, R111, R112, R119): the focus is NONE or an eligible pane, and
during a hold the alert focus; the hold is in force while the stack is not empty; the stack holds LIVE ALERT panes, none
twice; the saved focus is NONE outside a hold and NONE or an eligible pane in one; an ALERT pane is the vehicle unit's and
shown (R8, R9, R15). -/
def FocusKept (s : State) : Prop :=
  (∀ n, s.router.focus = some n → s.eligible n = true) ∧
    (s.router.hold = true ↔ s.alerts.stack ≠ []) ∧ (s.router.hold = true → s.router.focus = alertValue s) ∧
    s.alerts.stack.Nodup ∧ (∀ n ∈ s.alerts.stack, ∃ p, s.pane? n = some p ∧ p.phase = .live ∧ p.cls = .alert) ∧
    (s.router.hold = false → s.alerts.saved = none) ∧ (∀ n, s.alerts.saved = some n → s.eligible n = true) ∧
    ∀ n p, s.pane? n = some p → p.cls = .alert →
      p.owner = .vehicle ∧ p.visible = true ∧ p.staged.visible = none

/-- The duties' range, and no light in PARKED (R134). -/
def DutyKept (s : State) : Prop :=
  s.light.target ≤ 1000 ∧ s.light.applied ≤ 1000 ∧ (s.light.parked = true ↔ s.park.state = .parked) ∧
    (s.park.state = .parked → s.light.target = 0 ∧ s.light.applied = 0)

/-- The records of the pane table that an owner holds. -/
def holds (o : Owner) (s : State) : Nat := s.layout.panes.countP fun p => p.any fun q => q.owner == o

/-- The quotas of R3. -/
def QuotaKept (s : State) : Prop := holds .tablet s ≤ 4 ∧ holds .vehicle s ≤ 3

/-- Pane `n` is not FREE and is in one of the states given. -/
def InPhase (phases : List PanePhase) (s : State) (n : Nat) : Prop := ∃ p, s.pane? n = some p ∧ p.phase ∈ phases

/-- An order of panes keeps the tiers of R17: ALERT panes, then pane 0, then NORMAL panes. -/
def Tiered (s : State) (order : List Nat) : Prop :=
  ∃ alerts normals, order = alerts ++ 0 :: normals ∧
    (∀ n ∈ alerts, ∃ p, s.pane? n = some p ∧ p.cls = .alert) ∧
    (∀ n ∈ normals, n ≠ 0 ∧ ∃ p, s.pane? n = some p ∧ p.cls = .normal)

/-- The pane table and the orders (R2, R11, R17, R18): eight records, pane 0 LIVE, NORMAL and LOCAL's; the current order
holds each LIVE and CLOSING pane once and no other, the pending order each LIVE pane, the ready list each READY pane; both
orders keep the tiers. -/
def OrdersKept (s : State) : Prop :=
  s.layout.panes.length = 8 ∧
    (∃ p, s.pane? 0 = some p ∧ p.phase = .live ∧ p.cls = .normal ∧ p.owner = .part) ∧
    s.layout.current.Nodup ∧ (∀ n, n ∈ s.layout.current ↔ InPhase [.live, .closing] s n) ∧ Tiered s s.layout.current ∧
    s.layout.nextOrder.Nodup ∧ (∀ n, n ∈ s.layout.nextOrder ↔ InPhase [.live] s n) ∧ Tiered s s.layout.nextOrder ∧
    s.layout.ready.Nodup ∧ (∀ n, n ∈ s.layout.ready ↔ InPhase [.ready] s n)

/-- The alert hold as four blocks hold it (R89, R111, R113, R137, R153), and the numbers of positions, inputs and lines
(R71, R145, R152). -/
def HoldKept (s : State) : Prop :=
  (s.router.hold = true ↔ s.alerts.stack ≠ []) ∧ s.light.hold = s.router.hold ∧
    s.lines.lines[3]? = some { out := true, latch := s.router.hold } ∧ s.scanner.positions.length = 128 ∧
    s.inputs.length = 5 ∧ s.lines.lines.length = 8

end Sys2Proof.Safety
end

