-- ==== Sys2Proof/Certificates/Slice0/Obligations.lean ====
section
/-! DEFINITION. The statements for the provers, in the order of OBLIGATIONS.json. The docstring of each names the rules of
spec/ it formalises, and the log entry where a clause is the model's choice. -/

open Sys2Proof Sys2Proof.Machine Sys2Proof.Safety

/-! ### The queue of commands -/

/-- A step takes the command at the front of the queue and runs it on the state with the queue's rest. With no command
waiting the frame goes on by one position (the model's choice: notes/assumptions/12.md): through the 45 lines of blanking,
then through the pixels of each active line from left to right, the lines from top to bottom (R52), up to the last pixel of
active line 479, which the frame boundary alone follows (R53); nothing else changes but what the arbiter's grants write, take
from the receive buffers and finish (R50: StepsKeepTheMemoryForm). Nothing changes while the part is held in full reset. -/
def Obligations.StepTakesFrontCommand : Prop :=
  (∀ (c : Instr) (rest : List Instr) (s : State),
      step { s with pending := c :: rest } = exec c { s with pending := rest }) ∧
    ∀ s : State, s.pending = [] →
      (s.scanOut.running = false → step s = .next s) ∧
      (s.scanOut.running = true → ∃ t, step s = .next t ∧
        t = { s with
          scanOut := t.scanOut, mem := t.mem
          layout := { s.layout with panes := t.layout.panes, ready := t.layout.ready }
          dock := { s.dock with
            bufferA := t.dock.bufferA, bufferB := t.dock.bufferB, outbound := t.dock.outbound
            stream := t.dock.stream } } ∧
        (s.scanOut.line < 45 → t.scanOut = { s.scanOut with line := s.scanOut.line + 1, column := 0 }) ∧
        (45 ≤ s.scanOut.line → s.scanOut.column < 799 →
          t.scanOut = { s.scanOut with column := s.scanOut.column + 1 }) ∧
        (45 ≤ s.scanOut.line → s.scanOut.line < 524 → 799 ≤ s.scanOut.column →
          t.scanOut = { s.scanOut with line := s.scanOut.line + 1, column := 0 }) ∧
        (524 ≤ s.scanOut.line → 799 ≤ s.scanOut.column → t.scanOut = s.scanOut))

/-- No command changes the queue of commands that wait (the model's own field). -/
def Obligations.ExecKeepsTheQueue : Prop :=
  ∀ (c : Instr) (s t : State), exec c s = .next t → t.pending = s.pending

/-- Every command answers a next state in every state whose panes, fills and status row writes lie in the memory (R32);
only FILL_COMPLETION, DRAIN_COMPLETE and MEMORY_WRITES_COMPLETE need that premise. -/
def Obligations.EveryCommandCompletes : Prop :=
  ∀ (c : Instr) (s : State),
    (InMemory s ∨ (c ≠ .fillCompletion ∧ c ≠ .drainComplete ∧ ∀ w, c ≠ .memoryWritesComplete w)) →
    ∃ t, exec c s = .next t

/-- A command that takes a request changes nothing while the request is not the oldest of its master's queue or the port
may not take it (R42, R165, R170; the command's waiting is the model's choice: notes/assumptions/8.md). HELLO is such a
request while the link is UP, and in HOLD with BAY LOW (R159, R162). -/
def Obligations.WaitingRequestChangesNothing : Prop :=
  ∀ (c : Instr) (m : Master) (r : Request) (s : State),
    c.request? = some (m, r) → ¬Turn m r s →
    ((∀ grace, r ≠ .hello grace) ∨ s.dock.link = .up ∨ (s.dock.link = .hold ∧ s.bayHigh = false)) → exec c s = .next s

/-- While the part is held in full reset no command but FULL_RESET and RESET_RELEASE changes anything (R54; the commands
that the spec does not speak of: notes/assumptions/9.md). -/
def Obligations.HeldPartTakesNothing : Prop :=
  ∀ (c : Instr) (s : State),
    s.scanOut.running = false → c ≠ .fullReset → (∀ ids1 ids0 pins, c ≠ .resetRelease ids1 ids0 pins) →
    exec c s = .next s

/-! ### Reset -/

/-- R31: what the Layout Controller holds right after a full reset, in every state that the release finds: pane 0 as R2
gives it, panes 1 to 7 FREE, both orders pane 0 alone, the ready list empty, the frame counter 0, and the 100 cells of the
status row (R26; that they are in memory at once is the model's choice: notes/assumptions/27.md). -/
def Obligations.ReleaseSetsTheLayout : Prop :=
  ∀ (ids1 ids0 : Bool) (pins : InputLevels) (s : State), ∃ t, exec (.resetRelease ids1 ids0 pins) s = .next t ∧
    t.layout =
      { panes :=
          some
            { phase := .live, owner := .part, kind := .text, cls := .normal, acceptsKeys := false
              window := { left := 0, top := 464, width := 800, height := 16 }, sizeX := 100, sizeY := 1, buffers := 1
              front := 0, run := { start := 480, length := 1 }, scroll := { x := 0, y := 0 }, transparent := none
              visible := true, staged := { window := none, scroll := none, visible := none, flip := false } }
            :: [none, none, none, none, none, none, none]
        current := [0], nextOrder := [0], ready := [], frame := 0 } ∧
    ∀ k < 100,
      ([Memory.read t.mem.cells (1966080 + 2 * k), Memory.read t.mem.cells (1966080 + 2 * k + 1)] : List Byte) =
        ((resetRow pins.bay).getD k [])

/-- R54: while the part is held in full reset the running flag is clear, no boundary is taken, PANEL_EN is low and the panel
data is 0x0000; at the release the running flag is set, the position is the first line of blanking and the panel output is
RESUMING; frame 0 is not shown, and the boundary at its end makes the frame counter 1 and the panel output ON. What is
driven on the panel data group at the position under way (R52, R64): no pixel in the 45 lines of blanking, and in an active
line the composed pixel of the position while the panel output is ON, else 0x0000. -/
def Obligations.FullResetHoldsAndReleases : Prop :=
  (∀ s : State, ∃ t, exec .fullReset s = .next t ∧ t.scanOut.running = false ∧ t.panelEnable = false ∧
      (∀ x y, t.panelData x y = 0) ∧ t.panelNow = some 0 ∧ exec .frameBoundary t = .next t) ∧
    (∀ s : State, s.scanOut.running = true →
      (s.scanOut.line < 45 → s.panelNow = none) ∧
      (45 ≤ s.scanOut.line → s.panelNow =
        some (if s.scanOut.panel = .on then s.composed s.scanOut.column (s.scanOut.line - 45) else 0))) ∧
    ∀ (ids1 ids0 : Bool) (pins : InputLevels) (s : State), ∃ t, exec (.resetRelease ids1 ids0 pins) s = .next t ∧
      t.scanOut = { running := true, line := 0, column := 0, panel := .resuming } ∧ t.layout.frame = 0 ∧
      (∀ x y, t.panelData x y = 0) ∧
      ∃ u, exec .frameBoundary t = .next u ∧ u.layout.frame = 1 ∧ u.panelEnable = true

/-- The other blocks right after a full reset (R50, R51, R71, R83, R111, R125, R140, R145, R152, R153, R157, R169, R172,
R173), for the strap pins and the input pins read at the release: Surface Memory's fill list, writes and turns with no status
row write waiting, and the millisecond count at 0 from the release on. The countdown length in RUN is the model's choice
(notes/assumptions/7.md), and so is that the status row's first write waits no more (notes/assumptions/27.md). -/
def Obligations.ReleaseSetsTheOtherBlocks : Prop :=
  ∀ (ids1 ids0 : Bool) (pins : InputLevels) (s : State), ∃ t, exec (.resetRelease ids1 ids0 pins) s = .next t ∧
    t.alloc = { tablet := [], vehicle := [], part := [{ start := 480, length := 1 }] } ∧
    t.mem =
      { cells := t.mem.cells, fills := [], tabletWrite := none, vehicleWrite := none, rowWrites := [], turn := .fill
        textTurn := .tablet } ∧
    t.now = 0 ∧
    t.scanner =
      { mode := .scanning, positions := List.replicate 128 { state := .stableUp, count := 0 }, pressCount := 5
        releaseCount := 8, wakeLatch := false, quietSeen := false } ∧
    (let channel : KeyChannel :=
      { queue := [], lastEntry := none, gate := .opened, enabled := true, delay := 500, period := 100 }
    t.router =
      { focus := none, hold := false, held := [], tablet := channel, vehicle := channel, repeatKey := none }) ∧
    t.alerts = { stack := [], saved := none, unreported := [] } ∧
    t.light =
      { ambient := none, supply := none, panelTemp := none, filter := 8192, low := false, lowCount := 0
        recoverCount := 0, hot := false, offset := 0, darkCab := false, hold := false, parked := false, target := 0
        applied := 0, jump := false, converting := true, scanStart := 0 } ∧
    t.park =
      { state := if pins.ignition then .run else .parkPending
        countdown := if pins.ignition then none else some 30000, countdownLength := 30000, delay := 30 } ∧
    (let input (time : Nat) (level : Bool) : DiscreteInput :=
      { qualified := level, changeCount := 0, latest := level, qualTime := time, interval := 65535
        mode := .edge .both, tabletFlag := false, vehicleFlag := false, tabletAck := false, vehicleAck := false }
    t.inputs =
      [input 10 pins.bay, input 50 pins.ignition, input 20 pins.lock, input 10 pins.aux0, input 10 pins.aux1]) ∧
    (let general : IndicatorLine := { out := false, latch := false }
    t.lines =
      { lines :=
          [general, general, general, { out := true, latch := false }, { out := true, latch := pins.bay }, general,
            general, general]
        ledTimer := if pins.bay then some 250 else none }) ∧
    t.dock =
      { link := if pins.bay then .attaching else .absent, grace := 300, silence := none, graceTimer := none
        send := none, requests := [], outbound := [], bufferA := .empty, bufferB := .empty, nextBuffer := .a
        stream := none } ∧
    t.vehicle.base = (if ids1 then (if ids0 then 0x670 else 0x660) else if ids0 then 0x650 else 0x640) ∧
    t.vehicle.present = false ∧ t.vehicle.silence = none ∧ t.vehicle.requests = [] ∧ t.vehicle.outbound = []

/-- The state right after reset meets every invariant stated below. -/
def Obligations.ResetMeetsTheInvariants : Prop :=
  MemoryKept State.reset ∧ QueuesKept State.reset ∧ KeysKept State.reset ∧ DutyKept State.reset ∧
    QuotaKept State.reset ∧ OrdersKept State.reset ∧ HoldKept State.reset ∧ AllocationKept State.reset ∧
    HeldKept State.reset ∧ FocusKept State.reset ∧ StreamKept State.reset ∧ BuffersKept State.reset

/-! ### Panes -/

/-- R5 and R6: a request that names a pane which fails the pane check is answered with the first failing step's result and
changes nothing else: every request of chapter 1, FOCUS and the writes. SHOW and HIDE of pane 0 from the tablet give
NOT_ALLOWED. A number above 7 names no record. -/
def Obligations.PaneCheckRefuses : Prop :=
  ∀ (m : Master) (n : Nat) (s : State) (result : Result),
    s.layout.panes.length = 8 →
    (7 < n → paneRefusal m n s = some .noSuchPane) ∧
    (paneRefusal m n s = some result →
      RefusedWith (.release m n) 0x11 result s ∧ (∀ w, RefusedWith (.move m n w) 0x12 result s) ∧
      (∀ x y, RefusedWith (.scroll m n x y) 0x13 result s) ∧ RefusedWith (.raise m n) 0x14 result s ∧
      RefusedWith (.lower m n) 0x15 result s ∧ RefusedWith (.flip m n) 0x18 result s ∧
      RefusedWith (.focus m n) 0x20 result s ∧
      (m = .tablet → ∀ b rect, RefusedWith (.writeBegin n b rect) 0x30 result s) ∧
      (m = .tablet → ∀ b rect colour, RefusedWith (.fillRect n b rect colour) 0x32 result s) ∧
      (m = .tablet → ∀ b row column cells, RefusedWith (.textPut n b row column cells) 0x33 result s) ∧
      (m = .vehicle → ∀ b row column attr codes,
        RefusedWith (.textDataFrame n b row column attr codes) 0x33 result s) ∧
      (∀ b, RefusedWith (.textClear m n b) 0x34 result s) ∧
      (n ≠ 0 ∨ s.pane? n = none →
        RefusedWith (.showPane m n) 0x16 result s ∧ RefusedWith (.hidePane m n) 0x17 result s)) ∧
    (m = .tablet → n = 0 → s.pane? 0 ≠ none →
      RefusedWith (.showPane m n) 0x16 .notAllowed s ∧ RefusedWith (.hidePane m n) 0x17 .notAllowed s)

/-- R8: a CLAIM is refused by the first of the four steps that fails: kind and class, values, quota, memory. That a CLAIM
with an undefined kind or class code passes step 1 is the model's choice (notes/assumptions/17.md). -/
def Obligations.ClaimRefusedInOrder : Prop :=
  ∀ (m : Master) (ops : ClaimOps) (s : State), RunsInOrder (masterOwner m) s →
    (ClassBarred m ops → RefusedWith (.claim m ops) 0x10 .badClass s) ∧
    (KindBarred m ops → RefusedWith (.claim m ops) 0x10 .badKind s) ∧
    (¬ClassBarred m ops → ¬KindBarred m ops →
      (ValuesBarred ops → RefusedWith (.claim m ops) 0x10 .badValue s) ∧
      (¬ValuesBarred ops →
        (quotaOf m ≤ holds (masterOwner m) s → RefusedWith (.claim m ops) 0x10 .quota s) ∧
        (holds (masterOwner m) s < quotaOf m → (∀ a, ¬FreeBlocks (masterOwner m) (blocksNeeded ops) a s) →
          RefusedWith (.claim m ops) 0x10 .noMemory s)))

/-- R9, with R3, R36 and R38: a CLAIM that passes every step of R8 takes the lowest FREE record and the first gap that is
long enough, the record's fields are set as R9 lists them, the fill starts, and the reply carries the pane and the window as
clamped; nothing else changes. -/
def Obligations.ClaimTakesLowestFreeRecord : Prop :=
  ∀ (m : Master) (ops : ClaimOps) (n a : Nat) (s : State),
    Turn m (.claim ops) s → RunsInOrder (masterOwner m) s →
    ¬ClassBarred m ops → ¬KindBarred m ops → ¬ValuesBarred ops → holds (masterOwner m) s < quotaOf m →
    FreeBlocks (masterOwner m) (blocksNeeded ops) a s →
    (∀ b < a, ¬FreeBlocks (masterOwner m) (blocksNeeded ops) b s) →
    1 ≤ n → n ≤ 7 → s.layout.panes[n]? = some none → (∀ k < n, 1 ≤ k → s.layout.panes[k]? ≠ some none) →
    let window := clampWindow (pixelWindow m ops.window)
    let run : Run := { start := a, length := blocksNeeded ops }
    let pane : Pane :=
      { phase := .preparing, owner := masterOwner m, kind := if ops.kind = 0 then .pixel else .text
        cls := if ops.cls = 0 then .normal else .alert, acceptsKeys := ops.acceptsKeys, window := window
        sizeX := ops.sizeX, sizeY := ops.sizeY, buffers := ops.buffers, front := 0, run := run
        scroll := { x := 0, y := 0 }, transparent := ops.transparent
        visible := if ops.cls = 1 then true else ops.shown
        staged := { window := none, scroll := none, visible := none, flip := false } }
    let entry : FillEntry :=
      { pane := n, run := run, pattern := if ops.kind = 0 then .zero else .blank, blocksDone := 0
        bytesDone := 0 }
    exec (.claim m ops) s = .next (answered m 0x10 .ok (byte n :: windowBytes m window)
      { s with
        layout := { s.layout with panes := s.layout.panes.set n (some pane) }
        alloc := s.alloc.setRuns (masterOwner m) (insertRun run (s.alloc.runs (masterOwner m)))
        mem := { s.mem with fills := s.mem.fills ++ [entry] } })

/-- R36: over an allocation list kept as R33 says, the run found for `n` blocks starts at the lowest block from which `n`
blocks of the region are free, and no run is found exactly when there is no such block. -/
def Obligations.FirstFitFindsTheLowestGap : Prop :=
  ∀ (o : Owner) (n : Nat) (s : State), 1 ≤ n → RunsInOrder o s →
    (∀ r : Run, s.findRun o n = some r ↔
      r.length = n ∧ FreeBlocks o n r.start s ∧ ∀ b < r.start, ¬FreeBlocks o n b s) ∧
    (s.findRun o n = none ↔ ∀ a, ¬FreeBlocks o n a s)

/-- R10: window clamping, and that its result lies inside the screen. -/
def Obligations.ClampedWindowLiesOnScreen : Prop :=
  ∀ w : Window,
    let left := min w.left 799
    let top := min w.top 479
    clampWindow w =
        { left := left, top := top, width := min w.width (800 - left), height := min w.height (480 - top) } ∧
      (clampWindow w).left + (clampWindow w).width ≤ 800 ∧ (clampWindow w).top + (clampWindow w).height ≤ 480

/-- R13 with R170, and R14: MOVE and SCROLL on a pane that passes the pane check. MOVE of an empty window is refused with
BAD_VALUE; else the window, in pixels (the vehicle unit's cell units × 8 and × 16) and clamped, is staged and given in the
reply. SCROLL reduces both offsets by the surface extent in pixels (cols × 8 and rows × 16 for TEXT), stages them and gives
them in the reply. Nothing else changes. -/
def Obligations.MoveAndScrollStageGeometry : Prop :=
  ∀ (m : Master) (n : Nat) (p : Pane) (s : State), Owned m n p s →
    (∀ w : Window, Turn m (.move n w) s →
      let v : Window :=
        match m with
        | .tablet => w
        | .vehicle => { left := w.left * 8, top := w.top * 16, width := w.width * 8, height := w.height * 16 }
      exec (.move m n w) s = .next
        (if w.width = 0 ∨ w.height = 0 then answered m 0x12 .badValue [] s
        else
          answered m 0x12 .ok (byte n :: windowBytes m (clampWindow v))
            (staged n p { p.staged with window := some (clampWindow v) } s))) ∧
    ∀ x y : Nat, Turn m (.scroll n x y) s →
      let u := x % (if p.kind = .pixel then p.sizeX else p.sizeX * 8)
      let v := y % (if p.kind = .pixel then p.sizeY else p.sizeY * 16)
      exec (.scroll m n x y) s = .next
        (answered m 0x13 .ok [byte n, byte u, byte (u / 256), byte v, byte (v / 256)]
          (staged n p { p.staged with scroll := some { x := u, y := v } } s))

/-- R15 with R6: SHOW and HIDE on a pane that passes its check (pane 0 for the vehicle unit): BAD_CLASS on an ALERT pane,
else the visibility is staged. -/
def Obligations.ShowAndHideStageVisibility : Prop :=
  ∀ (m : Master) (n : Nat) (p : Pane) (s : State),
    (Owned m n p s ∨ (m = .vehicle ∧ n = 0 ∧ s.pane? 0 = some p)) →
    (p.cls = .alert → RefusedWith (.showPane m n) 0x16 .badClass s ∧ RefusedWith (.hidePane m n) 0x17 .badClass s) ∧
    (p.cls = .normal →
      (Turn m (.showPane n) s → exec (.showPane m n) s = .next
        (answered m 0x16 .ok [] (staged n p { p.staged with visible := some true } s))) ∧
      (Turn m (.hidePane n) s → exec (.hidePane m n) s = .next
        (answered m 0x17 .ok [] (staged n p { p.staged with visible := some false } s))))

/-- R16: FLIP on a pane that passes the pane check: NOT_DOUBLE, then FLIP_PENDING, else the flip flag is staged. -/
def Obligations.FlipStagesOneFlip : Prop :=
  ∀ (m : Master) (n : Nat) (p : Pane) (s : State), Turn m (.flip n) s → Owned m n p s →
    exec (.flip m n) s = .next
      (if p.buffers = 1 then answered m 0x18 .notDouble [] s
      else if p.staged.flip = true then answered m 0x18 .flipPending [] s
      else answered m 0x18 .ok [] (staged n p { p.staged with flip := true } s))

/-- R18: RAISE and LOWER on a pane that passes the pane check: BAD_CLASS for an ALERT pane in every state it can be in,
PANE_BUSY while PREPARING or READY, and for a LIVE NORMAL pane a move to the top or the bottom of the NORMAL tier of the
pending order, whose tiers are `alerts`, pane 0 and `normals`. -/
def Obligations.RaiseAndLowerMoveInTheTier : Prop :=
  ∀ (m : Master) (n : Nat) (p : Pane) (s : State), Owned m n p s →
    (p.cls = .alert → RefusedWith (.raise m n) 0x14 .badClass s ∧ RefusedWith (.lower m n) 0x15 .badClass s) ∧
    (p.cls = .normal → p.phase ≠ .live →
      RefusedWith (.raise m n) 0x14 .paneBusy s ∧ RefusedWith (.lower m n) 0x15 .paneBusy s) ∧
    (p.cls = .normal → p.phase = .live → ∀ alerts normals : List Nat,
      s.layout.nextOrder = alerts ++ 0 :: normals → 0 ∉ alerts → n ∉ alerts →
      (Turn m (.raise n) s → exec (.raise m n) s = .next (answered m 0x14 .ok []
        { s with layout := { s.layout with nextOrder := alerts ++ 0 :: n :: normals.filter (· != n) } })) ∧
      (Turn m (.lower n) s → exec (.lower m n) s = .next (answered m 0x15 .ok []
        { s with layout := { s.layout with nextOrder := alerts ++ 0 :: (normals.filter (· != n) ++ [n]) } })))

/-- R19 with R37 and R40: RELEASE of a PREPARING or READY pane frees it at once. Its record becomes FREE, its run leaves the
region's list, it leaves the ready list, its fill is aborted, an open write stream into it ends with PANE_GONE before the
OK reply (R168), and nothing else changes; no byte outside its run changes, and none at all for a READY pane. That the
arbiter's turns (R50) stay when the fill is cut off is the model's choice (notes/assumptions/42.md). -/
def Obligations.ReleaseFreesAPaneNotYetLive : Prop :=
  ∀ (m : Master) (n : Nat) (p : Pane) (s : State), Turn m (.release n) s → Owned m n p s → p.phase ≠ .live →
    MemoryKept s → (∀ e ∈ s.mem.fills, e.pane = n → e.run = p.run) →
    ∃ t u, exec (.release m n) s = .next (answered m 0x11 .ok [] u) ∧
      u = (match s.dock.stream with
        | some st =>
          if st.pane = n ∧ st.ended = false then
            handed .tablet (.notice (.writeDone n st.buffer .paneGone (st.total - st.received)))
              { t with dock := { t.dock with stream := none } }
          else t
        | none => t) ∧
      t = { s with
        layout := { s.layout with panes := s.layout.panes.set n none, ready := s.layout.ready.filter (· != n) }
        alloc := s.alloc.setRuns p.owner ((s.alloc.runs p.owner).erase p.run)
        mem := { s.mem with
          cells := t.mem.cells
          fills := if p.phase = .preparing then s.mem.fills.filter (·.pane != n) else s.mem.fills }
        freeCount := t.freeCount } ∧
      (∀ x, Memory.read t.mem.cells x ≠ Memory.read s.mem.cells x →
        p.phase = .preparing ∧ p.run.start * 4096 ≤ x ∧ x < (p.run.start + p.run.length) * 4096)

/-- R20: RELEASE of a LIVE pane makes it CLOSING at once: its pending part is gone, it leaves the pending order and stays in
the current one, its run stays allocated, and the OK reply comes after a WRITE DONE of its stream (R168) and before every
notice of a focus change. Then the Key Router takes the closing event, with its fix-up (R88), and the Alert Controller, with
the stack, the hold, the light, the ALERT LED and field, and the saved focus (R118, R119). Nothing else changes. That the Key
Router is first of the two, where R118 lets either be, is the model's choice (notes/assumptions/19.md). -/
def Obligations.ReleaseClosesALivePane : Prop :=
  ∀ (m : Master) (n : Nat) (p : Pane) (s : State), Turn m (.release n) s → Owned m n p s → p.phase = .live →
    ∃ t, exec (.release m n) s = .next t ∧
      t.layout =
        { s.layout with
          panes := s.layout.panes.set n
            (some { p with
              phase := .closing, staged := { window := none, scroll := none, visible := none, flip := false } })
          nextOrder := s.layout.nextOrder.filter (· != n) } ∧
      t.alloc = s.alloc ∧ t.mem.cells = s.mem.cells ∧ t.mem.fills = s.mem.fills ∧ t.scanner = s.scanner ∧
      t.park = s.park ∧ t.inputs = s.inputs ∧ t.scanOut = s.scanOut ∧
      (let gone : State :=
        match s.dock.stream with
        | some st =>
          if st.pane = n ∧ st.ended = false then
            handed .tablet (.notice (.writeDone n st.buffer .paneGone (st.total - st.received)))
              { s with dock := { s.dock with stream := none } }
          else s
        | none => s
      (answered m 0x11 .ok [] gone).dock.outbound <+: t.dock.outbound ∧
        (answered m 0x11 .ok [] gone).vehicle.outbound <+: t.vehicle.outbound ∧
        t.dock.stream = gone.dock.stream ∧ t.dock.requests = (answered m 0x11 .ok [] gone).dock.requests ∧
        t.vehicle.requests = (answered m 0x11 .ok [] gone).vehicle.requests ∧
        t = alertClosed n (paneLost n { answered m 0x11 .ok [] gone with layout := t.layout }))

/-- R11 with R38 and R39: the completion of the fill at the head of the list. The entry leaves the list, its PREPARING pane
becomes READY at the tail of the ready list, every byte of the run that single accesses have not written before holds the
pattern (ZERO: 0x00; BLANK: 0x20 at even and 0x0F at odd addresses), so the whole run does if the bytes before do; and nothing
else changes but the arbiter's turn (R50): the accesses that the fill has left are made in this very step, and if there are
any the turn passes on to the drain, which is the model's choice (notes/assumptions/22.md), and so is that the bytes of a block
are written in ascending address (notes/assumptions/43.md). -/
def Obligations.FillCompletionMakesThePaneReady : Prop :=
  ∀ (e : FillEntry) (rest : List FillEntry) (p : Pane) (s : State),
    s.scanOut.running = true → s.mem.fills = e :: rest → s.pane? e.pane = some p → p.phase = .preparing →
    (e.run.start + e.run.length) * 4096 ≤ 2097152 → MemoryKept s →
    ∃ t, exec .fillCompletion s = .next t ∧
      t = { s with
        layout := { s.layout with
          panes := s.layout.panes.set e.pane (some { p with phase := .ready })
          ready := s.layout.ready ++ [e.pane] }
        mem := { s.mem with
          cells := t.mem.cells, fills := rest
          turn := if e.blocksDone < e.run.length ∧ e.bytesDone < 4096 then .drain else s.mem.turn } } ∧
      BytesBecome (fun a =>
        if (e.run.start + e.blocksDone) * 4096 + e.bytesDone ≤ a ∧ a < (e.run.start + e.run.length) * 4096 then
          some (match e.pattern with
            | .zero => 0x00
            | .blank => if a % 2 = 0 then 0x20 else 0x0F)
        else none) s t

/-- R22 to R25 with R53 and R66: the frame boundary, on every pane number of the table. A CLOSING pane becomes FREE; a READY
pane of the ready list becomes LIVE; the pending part of each pane that is LIVE then becomes current and absent; a PREPARING
pane keeps its own. The ready list is then empty, the pending order is the current one, the frame counter has gone up by 1,
and a RESUMING panel output is ON. No byte of memory, key, input, allocated run of a pane that stays, or waiting request
changes. The runs of the CLOSING panes leave the allocation lists (R37); a PANE LIVE notice for each pane of the ready list
and a FLIP DONE notice for each flip are handed; then the Alert Controller takes the pane live events in list order (R114),
and the Key Router and the Alert Controller the hiding of each pane that is hidden now, ascending (R25, R88, R119). Nothing
else changes. That every pane live event is taken before any hiding, and both after the whole work on the layout, is the
model's choice (notes/assumptions/20.md): the rules order the events of one kind only. -/
def Obligations.BoundaryMakesStagedChangesCurrent : Prop :=
  ∀ s : State, s.scanOut.running = true →
    (∀ n ∈ s.layout.ready, n < 8 ∧ ∃ p, s.pane? n = some p ∧ p.phase = .ready) →
    ∃ t, exec .frameBoundary s = .next t ∧
      (∀ n < 8, ∀ p, s.pane? n = some p →
        t.pane? n =
          (let current : Pane :=
            { p with
              phase := .live
              window := p.staged.window.getD p.window
              scroll := p.staged.scroll.getD p.scroll
              visible := p.staged.visible.getD p.visible
              front := if p.staged.flip then 1 - p.front else p.front
              staged := { window := none, scroll := none, visible := none, flip := false } }
          match p.phase with
          | .closing => none
          | .live => some current
          | .ready => if n ∈ s.layout.ready then some current else some p
          | .preparing => some p)) ∧
      (∀ n, s.pane? n = none → t.pane? n = none) ∧
      t.layout.ready = [] ∧ t.layout.current = t.layout.nextOrder ∧ t.layout.frame = s.layout.frame + 1 ∧
      t.scanOut.panel = (if s.scanOut.panel = .resuming then .on else s.scanOut.panel) ∧
      t.scanOut.line = 0 ∧ t.scanOut.running = true ∧
      t.mem.cells = s.mem.cells ∧ t.mem.fills = s.mem.fills ∧ t.scanner = s.scanner ∧ t.inputs = s.inputs ∧
      t.park = s.park ∧ t.router.held = s.router.held ∧ t.dock.requests = s.dock.requests ∧
      t.vehicle.requests = s.vehicle.requests ∧ t.dock.link = s.dock.link ∧ t.scanOut.column = 0 ∧
      (s.layout.panes.length = 8 → s.layout.ready.Nodup →
        t = (hiddenAt s).foldl (fun u n => savedDropped n (paneLost n u))
          (s.layout.ready.foldl (fun u n => alertPaneLive n u) (boundaryMade t.layout.nextOrder s)))

/-- R23 and R24: the orders at a boundary. With the tiers `alerts`, pane 0 and `normals` in the pending order, the panes of
the ready list are inserted one after another, each at the top of its tier, and the result is both orders. -/
def Obligations.BoundaryInsertsReadyPanesOnTop : Prop :=
  ∀ (s : State) (alerts normals : List Nat), s.scanOut.running = true →
    s.layout.nextOrder = alerts ++ 0 :: normals → 0 ∉ alerts → s.layout.ready.Nodup → 0 ∉ s.layout.ready →
    (∀ n ∈ s.layout.ready, ∃ p, s.pane? n = some p ∧ p.phase = .ready) →
    ∃ t, exec .frameBoundary s = .next t ∧
      (let isAlert (n : Nat) : Bool := (s.pane? n).any fun p => p.cls == .alert
      t.layout.nextOrder =
        (s.layout.ready.filter isAlert).reverse ++ alerts ++ 0 ::
          ((s.layout.ready.filter fun n => !isAlert n).reverse ++ normals)) ∧
      t.layout.current = t.layout.nextOrder

/-! ### Surface memory -/

/-- R41: a write request that passes the pane check is refused by the first failing step: BAD_KIND, BAD_VALUE, PANE_BUSY. -/
def Obligations.WriteRequestsRefusedInOrder : Prop :=
  ∀ (m : Master) (n b : Nat) (rect : Rect) (colour row column : Nat) (cells : List TextCell) (attr : Byte)
    (codes : List Byte) (p : Pane) (s : State), Owned m n p s →
    (m = .tablet →
      (p.kind = .text → RefusedWith (.writeBegin n b rect) 0x30 .badKind s ∧
        RefusedWith (.fillRect n b rect colour) 0x32 .badKind s) ∧
      (p.kind = .pixel →
        (p.buffers ≤ b ∨ rect.w = 0 ∨ 2048 < rect.w ∨ rect.h = 0 ∨ 2048 < rect.h →
          RefusedWith (.writeBegin n b rect) 0x30 .badValue s) ∧
        (p.buffers ≤ b ∨ rect.w = 0 ∨ rect.h = 0 → RefusedWith (.fillRect n b rect colour) 0x32 .badValue s) ∧
        (b < p.buffers → 1 ≤ rect.w → 1 ≤ rect.h → p.phase = .preparing →
          RefusedWith (.fillRect n b rect colour) 0x32 .paneBusy s ∧
          (rect.w ≤ 2048 → rect.h ≤ 2048 → RefusedWith (.writeBegin n b rect) 0x30 .paneBusy s))) ∧
      (p.kind = .pixel → RefusedWith (.textPut n b row column cells) 0x33 .badKind s) ∧
      (p.kind = .text →
        (p.buffers ≤ b ∨ p.sizeY ≤ row ∨ p.sizeX ≤ column →
          RefusedWith (.textPut n b row column cells) 0x33 .badValue s) ∧
        (b < p.buffers → row < p.sizeY → column < p.sizeX → p.phase = .preparing →
          RefusedWith (.textPut n b row column cells) 0x33 .paneBusy s))) ∧
    (m = .vehicle →
      (p.kind = .pixel → RefusedWith (.textDataFrame n b row column attr codes) 0x33 .badKind s) ∧
      (p.kind = .text →
        (p.buffers ≤ b ∨ p.sizeY ≤ row ∨ p.sizeX ≤ column →
          RefusedWith (.textDataFrame n b row column attr codes) 0x33 .badValue s) ∧
        (b < p.buffers → row < p.sizeY → column < p.sizeX → p.phase = .preparing →
          RefusedWith (.textDataFrame n b row column attr codes) 0x33 .paneBusy s))) ∧
    (p.kind = .pixel → RefusedWith (.textClear m n b) 0x34 .badKind s) ∧
    (p.kind = .text →
      (p.buffers ≤ b → RefusedWith (.textClear m n b) 0x34 .badValue s) ∧
      (b < p.buffers → p.phase = .preparing → RefusedWith (.textClear m n b) 0x34 .paneBusy s))

/-- R46 to R48 with R41 and R171: FILL RECT, TEXT PUT, TEXT CLEAR and a text data frame that pass R41 are answered OK (a
text data frame not at all), and the write begins. That one with no cell or point inside the surface to write is complete at
once is the model's choice (notes/assumptions/24.md). Nothing else changes. -/
def Obligations.AcceptedWritesBegin : Prop :=
  ∀ (m : Master) (n b row column : Nat) (rect : Rect) (colour : Nat) (cells : List TextCell) (attr : Byte)
    (codes : List Byte) (p : Pane) (s : State), Owned m n p s → p.phase ≠ .preparing → b < p.buffers →
    (m = .tablet → p.kind = .pixel → 1 ≤ rect.w → 1 ≤ rect.h → Turn .tablet (.fillRect n b rect colour) s →
      exec (.fillRect n b rect colour) s = .next (answered .tablet 0x32 .ok []
        { s with mem := { s.mem with
            tabletWrite :=
              if rect.x < p.sizeX ∧ rect.y < p.sizeY then some { job := .fillRect n b rect colour, done := 0 }
              else none } })) ∧
    (m = .tablet → p.kind = .text → row < p.sizeY → column < p.sizeX →
      Turn .tablet (.textPut n b row column cells) s →
      exec (.textPut n b row column cells) s = .next (answered .tablet 0x33 .ok []
        { s with mem := { s.mem with
            tabletWrite :=
              if cells ≠ [] then some { job := .textPut n b row column cells, done := 0 } else none } })) ∧
    (m = .vehicle → p.kind = .text → row < p.sizeY → column < p.sizeX →
      Turn .vehicle (.textData n b row column attr codes) s →
      exec (.textDataFrame n b row column attr codes) s = .next (taken .vehicle
        { s with mem := { s.mem with
            vehicleWrite :=
              if codes ≠ [] then
                some { job := .textPut n b row column (codes.map fun c => { code := c, attr := attr }), done := 0 }
              else none } })) ∧
    (p.kind = .text → 1 ≤ p.sizeX → 1 ≤ p.sizeY → Turn m (.textClear n b) s →
      exec (.textClear m n b) s = .next (answered m 0x34 .ok []
        { s with mem := match m with
          | .tablet => { s.mem with tabletWrite := some { job := .textClear n b, done := 0 } }
          | .vehicle => { s.mem with vehicleWrite := some { job := .textClear n b, done := 0 } } }))

/-- R44 with R167 and R168: a WRITE BEGIN that passes R41 is answered OK and opens a stream of w × h × 2 bytes; an open
stream that has not ended ends first with WRITE DONE INCOMPLETE and the bytes it has not received. Nothing else changes. -/
def Obligations.WriteBeginOpensAStream : Prop :=
  ∀ (n b : Nat) (rect : Rect) (p : Pane) (s : State), Turn .tablet (.writeBegin n b rect) s → Owned .tablet n p s →
    p.kind = .pixel → p.phase ≠ .preparing → b < p.buffers → 1 ≤ rect.w → rect.w ≤ 2048 → 1 ≤ rect.h →
    rect.h ≤ 2048 →
    let ended : State :=
      match s.dock.stream with
      | some st =>
        if st.ended then s
        else handed .tablet (.notice (.writeDone st.pane st.buffer .incomplete (st.total - st.received))) s
      | none => s
    exec (.writeBegin n b rect) s = .next (answered .tablet 0x30 .ok []
      { ended with dock := { ended.dock with
          stream := some
            { pane := n, buffer := b, rect := rect, total := rect.w * rect.h * 2, nextExpected := 0, received := 0
              missing := 0, ended := false } } })

/-- R46 and R49: the memory writes of a FILL RECT complete. Every surface point of the rectangle holds the colour, its low byte
at the lower address, but for the `done` bytes in front, row by row, that single accesses have written before; no other byte
changes, and nothing else but the master's write and the arbiter's turns (R50): the accesses that the write has left are made
in this very step, and if there are any the turns pass on, which is the model's choice (notes/assumptions/22.md), and so is the
order of the bytes of one write (notes/assumptions/43.md). -/
def Obligations.FillRectWritesItsPoints : Prop :=
  ∀ (n b done : Nat) (rect : Rect) (colour : Nat) (p : Pane) (s : State),
    s.scanOut.running = true → s.mem.tabletWrite = some { job := .fillRect n b rect colour, done := done } →
    s.pane? n = some p →
    (p.phase = .ready ∨ p.phase = .live) → b < p.buffers →
    p.bufferBase b + p.sizeX * p.sizeY * 2 ≤ 2097152 → MemoryKept s →
    let w := min rect.w (p.sizeX - rect.x)
    let h := min rect.h (p.sizeY - rect.y)
    let left : Prop := done < 2 * w * h
    let spot (i j : Nat) : Nat := p.bufferBase b + ((rect.y + j) * p.sizeX + rect.x + i) * 2
    ∃ t, exec (.memoryWritesComplete .tablet) s = .next t ∧
      t = { s with mem := { s.mem with
          cells := t.mem.cells, tabletWrite := none, turn := t.mem.turn, textTurn := t.mem.textTurn } } ∧
      (left → t.mem.turn = .fill ∧ t.mem.textTurn = .vehicle) ∧
      (¬left → t.mem.turn = s.mem.turn ∧ t.mem.textTurn = s.mem.textTurn) ∧
      (∀ i j, i < w → j < h →
        (done ≤ 2 * (j * w + i) → Memory.read t.mem.cells (spot i j) = byte colour) ∧
        (done ≤ 2 * (j * w + i) + 1 → Memory.read t.mem.cells (spot i j + 1) = byte (colour / 256))) ∧
      (∀ a, (∀ i j, i < w → j < h →
          (done ≤ 2 * (j * w + i) → a ≠ spot i j) ∧ (done ≤ 2 * (j * w + i) + 1 → a ≠ spot i j + 1)) →
        Memory.read t.mem.cells a = Memory.read s.mem.cells a)

/-- R47 and R48 with R49: the memory writes of a TEXT PUT complete (cell k goes to column + k of its row while that column
exists), and those of a TEXT CLEAR (every cell of the buffer is the blank cell), for either master; and the status row's
writes (R28), which go to pane 0's row from their start column; but for the `done` bytes in front that single accesses have
written before. No other byte changes, and nothing else but the write that has finished (R42) and the arbiter's turns (R50):
the accesses that the write has left are made in this very step, and if there are any the turns pass on, which is the
model's choice (notes/assumptions/22.md), and so is the order of the bytes of one write, ascending (notes/assumptions/43.md). -/
def Obligations.TextWritesWriteTheirCells : Prop :=
  (∀ (m : Master) (source : WriteSource) (n b row column done : Nat) (cells : List TextCell) (p : Pane) (s : State),
    ((m = .tablet ∧ source = .tablet) ∨ (m = .vehicle ∧ source = .vehicle)) →
    s.scanOut.running = true → s.pane? n = some p →
    (p.phase = .ready ∨ p.phase = .live) → b < p.buffers →
    p.bufferBase b + p.sizeX * p.sizeY * 2 ≤ 2097152 → MemoryKept s →
    let finished (total : Nat) (bytes : List Host.Cell) : State :=
      let passed (after : WriteSource) : ArbiterClient × WriteSource :=
        if done < total then (.fill, after) else (s.mem.turn, s.mem.textTurn)
      { s with mem :=
          match m with
          | .tablet =>
            { s.mem with
              cells := bytes, tabletWrite := none, turn := (passed .vehicle).1, textTurn := (passed .vehicle).2 }
          | .vehicle =>
            { s.mem with
              cells := bytes, vehicleWrite := none, turn := (passed .statusRow).1
              textTurn := (passed .statusRow).2 } }
    (s.mem.writeOf m = some { job := .textPut n b row column cells, done := done } → row < p.sizeY →
      column < p.sizeX →
      ∃ t, exec (.memoryWritesComplete source) s = .next t ∧ t.mem.writeOf m = none ∧
        t = finished (2 * min cells.length (p.sizeX - column)) t.mem.cells ∧
        BytesBecome (fun a =>
          let first := p.bufferBase b + (row * p.sizeX + column) * 2
          if first + done ≤ a ∧ a < first + 2 * min cells.length (p.sizeX - column) then
            (cells[(a - first) / 2]?).map fun c => if (a - first) % 2 = 0 then c.code else c.attr
          else none) s t) ∧
    (s.mem.writeOf m = some { job := .textClear n b, done := done } →
      ∃ t, exec (.memoryWritesComplete source) s = .next t ∧ t.mem.writeOf m = none ∧
        t = finished (p.sizeX * p.sizeY * 2) t.mem.cells ∧
        BytesBecome (fun a =>
          if p.bufferBase b + done ≤ a ∧ a < p.bufferBase b + p.sizeX * p.sizeY * 2 then
            some (if a % 2 = 0 then 0x20 else 0x0F)
          else none) s t)) ∧
  ∀ (w : RowWrite) (rest : List RowWrite) (s : State),
    s.scanOut.running = true → s.mem.rowWrites = w :: rest → w.column + w.cells.length ≤ 100 → MemoryKept s →
    ∃ t, exec (.memoryWritesComplete .statusRow) s = .next t ∧
      t = { s with mem := { s.mem with
          cells := t.mem.cells, rowWrites := rest, turn := if w.cells = [] then s.mem.turn else .fill
          textTurn := if w.cells = [] then s.mem.textTurn else .tablet } } ∧
      BytesBecome (fun a =>
        let first := 1966080 + 2 * w.column
        if first ≤ a ∧ a < first + 2 * w.cells.length then
          (w.cells[(a - first) / 2]?).map fun c => if (a - first) % 2 = 0 then c.code else c.attr
        else none) s t

/-- R44, R45, R166 and R167 with R50: the drain of a receive buffer completes, from the bytes that it still holds. Each of
them that has a target stands at it, no other byte changes, and the buffer is EMPTY. If the stream has ended and no buffer
holds bytes of it now, the record is absent and its WRITE DONE is handed: COMPLETE, or DAMAGED with the missing count.
Nothing else changes but the arbiter's turn: the accesses that the drain has left are made in this very step, and if there
are any the turn passes on to the text writer, which is the model's choice (notes/assumptions/22.md). -/
def Obligations.DrainWritesTheStreamBytes : Prop :=
  ∀ (name : BufferName) (start : Nat) (bytes : List Byte) (st : Stream) (p : Pane) (s : State),
    s.scanOut.running = true → s.dock.oldest = some name → (s.dock.rx name).content = some (start, bytes) →
    s.dock.stream = some st → s.pane? st.pane = some p → (p.phase = .ready ∨ p.phase = .live) →
    st.buffer < p.buffers → p.bufferBase st.buffer + p.sizeX * p.sizeY * 2 ≤ 2097152 → MemoryKept s →
    let target (k : Nat) : Nat :=
      p.bufferBase st.buffer + ((st.rect.y + k / 2 / st.rect.w) * p.sizeX + (st.rect.x + k / 2 % st.rect.w)) * 2 + k % 2
    let inside (k : Nat) : Prop :=
      st.rect.x + k / 2 % st.rect.w < p.sizeX ∧ st.rect.y + k / 2 / st.rect.w < p.sizeY
    let port : DockPort :=
      match name with
      | .a => { s.dock with bufferA := .empty }
      | .b => { s.dock with bufferB := .empty }
    ∃ t, exec .drainComplete s = .next t ∧ t.dock.rx name = .empty ∧
      t = { s with dock := t.dock, mem := { s.mem with cells := t.mem.cells, turn := t.mem.turn } } ∧
      ((∃ k < bytes.length, inside (start + k)) → t.mem.turn = .text) ∧
      ((∀ k < bytes.length, ¬inside (start + k)) → t.mem.turn = s.mem.turn) ∧
      ((st.ended = false ∨ s.dock.rx name.other ≠ .empty) → t.dock = port) ∧
      (st.ended = true → s.dock.rx name.other = .empty →
        t.dock = (handed .tablet
          (.notice (.writeDone st.pane st.buffer (if st.missing = 0 then .complete else .damaged) st.missing))
          { s with dock := { port with stream := none } }).dock) ∧
      (∀ k (h : k < bytes.length), inside (start + k) →
        Memory.read t.mem.cells (target (start + k)) = bytes[k]) ∧
      (∀ a, (∀ k < bytes.length, inside (start + k) → a ≠ target (start + k)) →
        Memory.read t.mem.cells a = Memory.read s.mem.cells a)

/-- R166 and R167: a WRITE DATA that arrives in UP. It is discarded, with nothing changed but the silence timer (R158),
while a request waits, the next buffer is not EMPTY, no stream is open or it has ended, or its offset lies below next
expected. Else its bytes below T land in the next buffer if there are any, which makes the other buffer the next one, and
the stream's counts change as R167 says; the stream is marked ended at T, and its WRITE DONE is handed at once when no
buffer holds bytes. In ABSENT, in ATTACHING and in HOLD with BAY LOW it is discarded; in HOLD with BAY HIGH the link resumes
first and the packet is taken as in UP (R158, R159, R162). RXRDY is asserted while the link is UP, the next buffer EMPTY and
the request queue empty (R157). -/
def Obligations.WriteDataEntersTheStream : Prop :=
  (∀ (offset : Nat) (data : List Byte) (s : State), s.scanOut.running = true → s.dock.link = .up →
    let heard : State := { s with dock := { s.dock with silence := some (s.now + 20) } }
    ((s.dock.requests ≠ [] ∨ s.dock.rx s.dock.nextBuffer ≠ .empty ∨
        ¬(∃ st, s.dock.stream = some st ∧ st.ended = false ∧ st.nextExpected ≤ offset)) →
      exec (.writeData offset data) s = .next heard) ∧
    (∀ st, s.dock.stream = some st → s.dock.requests = [] → s.dock.rx s.dock.nextBuffer = .empty →
      st.ended = false → st.nextExpected ≤ offset →
      let upTo := min (offset + data.length) st.total
      let next := max st.nextExpected upTo
      let st' : Stream :=
        { st with
          missing := st.missing + (min offset st.total - st.nextExpected), received := st.received + (upTo - offset)
          nextExpected := next, ended := decide (next = st.total) }
      let bytes := data.take (st.total - offset)
      let landed : DockPort :=
        match s.dock.nextBuffer with
        | .a => { heard.dock with stream := some st', bufferA := .filled offset bytes, nextBuffer := .b }
        | .b => { heard.dock with stream := some st', bufferB := .filled offset bytes, nextBuffer := .a }
      (bytes ≠ [] → exec (.writeData offset data) s = .next { heard with dock := landed }) ∧
      (bytes = [] → (st'.ended = false ∨ s.dock.bufferA ≠ .empty ∨ s.dock.bufferB ≠ .empty) →
        exec (.writeData offset data) s = .next { heard with dock := { heard.dock with stream := some st' } }) ∧
      (bytes = [] → st'.ended = true → s.dock.bufferA = .empty → s.dock.bufferB = .empty →
        exec (.writeData offset data) s = .next (handed .tablet
          (.notice (.writeDone st.pane st.buffer (if st'.missing = 0 then .complete else .damaged) st'.missing))
          { heard with dock := { heard.dock with stream := none } })))) ∧
  (∀ (offset : Nat) (data : List Byte) (s : State), s.scanOut.running = true →
    (s.dock.link = .absent ∨ s.dock.link = .attaching ∨ (s.dock.link = .hold ∧ s.bayHigh = false) →
      exec (.writeData offset data) s = .next s) ∧
    (s.dock.link = .hold → s.bayHigh = true →
      ∃ t, ResumedTo s t ∧ exec (.writeData offset data) s = exec (.writeData offset data) t)) ∧
  ∀ s : State,
    s.rxrdy = true ↔ s.dock.link = .up ∧ s.dock.rx s.dock.nextBuffer = .empty ∧ s.dock.requests = []

/-- Every step keeps the memory's canonical form: addresses strictly rising within the 2,097,152 bytes of R32, and no
entry for a byte that an unlisted address reads as. The arbiter (R50), in a step with no command waiting: every read that
Scan-out has waiting is granted first; then the next of the other clients that has an access waiting, in the cycles fill,
drain, text writer and tablet, vehicle unit, status row, counting on from the one last served, receives one grant. Its access
moves up to 64 bytes within one block, and the turns pass on; with no access waiting nothing changes but the frame's position.
The access that writes the last byte of a work finishes it, as its completion command does (R39, R42, R166); and an access
decides when a byte is written, not which bytes or values: the completion after it gives what it gives without it.
Scan-out's reads (R67): none in blanking and with the panel output OFF; each is of 16 bits inside the surface part of the
front buffer of a pane in the current order. That one grant is made at a position, and that an access ends at an address
divisible by 64, is the model's choice (notes/assumptions/22.md), and so are that the bytes which the drain has written leave
the DRAINING buffer (notes/assumptions/21.md) and the order of the bytes of one write and of one block of a fill
(notes/assumptions/43.md). -/
def Obligations.StepsKeepTheMemoryForm : Prop :=
  (∀ s t : State, MemoryKept s → step s = .next t → MemoryKept t) ∧
  (∀ s t : State, s.pending = [] → s.scanOut.running = true → MemoryKept s → step s = .next t →
    ((∀ w, ¬HasWork w s) → t = { s with scanOut := t.scanOut }) ∧
    (∃ piece, ∀ a, Memory.read t.mem.cells a ≠ Memory.read s.mem.cells a → a / 64 = piece) ∧
    ∀ w, Granted w s →
      s.grants = s.scanReads.map .read ++ [.write w] ∧ AccessMade w s t) ∧
  ∀ s : State,
    (s.scanOut.line < 45 ∨ s.scanOut.panel = .off → s.scanReads = []) ∧
    ∀ a ∈ s.scanReads, ∃ n ∈ s.layout.current, ∃ p, s.pane? n = some p ∧ p.visible = true ∧
      (1 ≤ p.sizeX → 1 ≤ p.sizeY →
        p.bufferBase p.front ≤ a ∧ a + 2 ≤ p.bufferBase p.front + p.sizeX * p.sizeY * 2)

/-- R33 with R32, R34, R36 to R38 and R40: every step keeps each region's list in order and free of overlaps, each pane's run
in its owner's list with the blocks its buffers need, each listed run that of one pane, and the fills those of the PREPARING
panes over their runs. All that is to be written then lies in the memory. -/
def Obligations.StepsKeepTheAllocation : Prop :=
  (∀ s t : State, AllocationKept s → step s = .next t → AllocationKept t) ∧ ∀ s : State, AllocationKept s → InMemory s

/-! ### Composition -/

/-- R56 to R62: the walk for one pixel. A pane that is hidden, whose window does not contain the pixel, or whose sample
equals its transparent value lets the walk go on; the first pane of the current order that does not decides: a PIXEL pane by
its sample, a TEXT pane by the colour of its cell's dot. Where no pane supplies the pixel, it is 0x0000. The colour table,
and of the glyph set what R63 gives: the limits of the glyphs drawn elsewhere, and the symbols given dot by dot. -/
def Obligations.WalkComposesThePixel : Prop :=
  (∀ (s : State) (x y : Nat),
    let inside (p : Pane) : Prop :=
      p.window.left ≤ x ∧ x < p.window.left + p.window.width ∧ p.window.top ≤ y ∧ y < p.window.top + p.window.height
    let u (p : Pane) : Nat := (x - p.window.left + p.scroll.x) % (if p.kind = .pixel then p.sizeX else p.sizeX * 8)
    let v (p : Pane) : Nat := (y - p.window.top + p.scroll.y) % (if p.kind = .pixel then p.sizeY else p.sizeY * 16)
    let base (p : Pane) : Nat := (p.run.start + p.front * ((p.sizeX * p.sizeY * 2 + 4095) / 4096)) * 4096
    let at16 (a : Nat) : Nat := (Memory.read s.mem.cells a).toNat + 256 * (Memory.read s.mem.cells (a + 1)).toNat
    let sample (p : Pane) : Nat := at16 (base p + (v p * p.sizeX + u p) * 2)
    let cell (p : Pane) : Nat := base p + (v p / 16 * p.sizeX + u p / 8) * 2
    let passes (n : Nat) : Prop :=
      ∀ p, s.pane? n = some p →
        p.visible = false ∨ ¬inside p ∨ (p.kind = .pixel ∧ p.transparent = some (sample p))
    ((∀ n ∈ s.layout.current, passes n) → s.composed x y = 0x0000) ∧
    ∀ (above below : List Nat) (n : Nat) (p : Pane),
      s.layout.current = above ++ n :: below → (∀ k ∈ above, passes k) → s.pane? n = some p → p.visible = true →
      inside p →
      (p.kind = .pixel → p.transparent ≠ some (sample p) → s.composed x y = sample p) ∧
      (p.kind = .text →
        s.composed x y =
          (let attr := (Memory.read s.mem.cells (cell p + 1)).toNat
          if glyph (Memory.read s.mem.cells (cell p)).toNat (u p % 8) (v p % 16) then colour (attr % 16)
          else colour (attr / 16)))) ∧
  (List.range 16).map colour =
    [0x0000, 0x0010, 0x0400, 0x0410, 0x8000, 0x8010, 0x8400, 0xC618, 0x8410, 0x001F, 0x07E0, 0x07FF, 0xF800, 0xF81F,
      0xFD20, 0xFFFF] ∧
  ∀ code c r : Nat, c < 8 → r < 16 →
    (code ≤ 0x20 ∨ code = 0x7F ∨ 0x90 ≤ code → glyph code c r = false) ∧
    ((0x21 ≤ code ∧ code ≤ 0x7E) ∨ (0x80 ≤ code ∧ code ≤ 0x84) ∨ code ∈ [0x8B, 0x8C, 0x8F] →
      c = 7 ∨ r = 0 ∨ r = 15 → glyph code c r = false) ∧
    (glyph 0x85 c r = true ↔ (r = 7 ∧ 3 ≤ c) ∨ (c = 3 ∧ 7 ≤ r)) ∧
    (glyph 0x86 c r = true ↔ (r = 7 ∧ c ≤ 3) ∨ (c = 3 ∧ 7 ≤ r)) ∧
    (glyph 0x87 c r = true ↔ (r = 7 ∧ 3 ≤ c) ∨ (c = 3 ∧ r ≤ 7)) ∧
    (glyph 0x88 c r = true ↔ (r = 7 ∧ c ≤ 3) ∨ (c = 3 ∧ r ≤ 7)) ∧
    (glyph 0x89 c r = true ↔ r = 7) ∧ (glyph 0x8A c r = true ↔ c = 3) ∧ glyph 0x8D c r = true ∧
    (glyph 0x8E c r = true ↔ r = 0 ∨ r = 15 ∨ c = 0 ∨ c = 7)

/-! ### Focus and keys -/

/-- R86 with R84, R85 and R120: FOCUS. A pane that fails the pane check gives its refusal; one that is not LIVE, shown,
accepting keys and of a present owner gives NOT_ELIGIBLE; during a hold the request is DEFERRED and the pane becomes the
saved focus; otherwise the reply is handed and then the focus becomes the pane. Nothing else changes. The values of a
DEFERRED reply are not stated (notes/assumptions/14.md). -/
def Obligations.FocusIsCheckedThenSet : Prop :=
  ∀ (m : Master) (n : Nat) (s : State), (s.router.hold = true ↔ s.alerts.stack ≠ []) →
    (∀ result, paneRefusal m n s = some result → RefusedWith (.focus m n) 0x20 result s) ∧
    (∀ p, Owned m n p s → Turn m (.focus n) s →
      let present : Prop := match m with
        | .tablet => s.dock.link = .up ∨ s.dock.link = .hold
        | .vehicle => s.vehicle.present = true
      let eligible : Prop := p.phase = .live ∧ p.visible = true ∧ p.acceptsKeys = true ∧ present
      (¬eligible → exec (.focus m n) s = .next (answered m 0x20 .notEligible [] s)) ∧
      (eligible → s.router.hold = true → ∃ values, exec (.focus m n) s =
        .next { answered m 0x20 .deferred values s with alerts := { s.alerts with saved := some n } }) ∧
      (eligible → s.router.hold = false →
        exec (.focus m n) s = .next (focusMoved (some n) (answered m 0x20 .ok [byte n] s))))

/-- R105 with R103 and R104: KEY ACK is answered OK in every case; a WAITING gate becomes OPEN, and a report is then built
at once if one is due, after the reply. -/
def Obligations.KeyAckOpensTheGate : Prop :=
  ∀ (m : Master) (s : State), Turn m .keyAck s →
    ((channel m s).gate = .opened → exec (.keyAck m) s = .next (answered m 0x21 .ok [] s)) ∧
    ((channel m s).gate = .waiting → ∃ t,
      ReportedIf m (withChannel m { channel m s with gate := .opened } (answered m 0x21 .ok [] s)) t ∧
      exec (.keyAck m) s = .next t)

/-- R100, R101: REPEAT SET replaces its sender's settings by the clamped values and answers with them; turned off, it stops
a repeat to its sender; an undefined code for "enabled" is refused (R176). The repeat expiry, at its time, places a REPEAT
while the target's queue holds fewer than 16 events, and in either case sets the next expiry one period later; before its
time it is not taken (notes/assumptions/37.md). That the period and the delta of an expiry taken late count from the moment
at which it is taken is the model's choice (notes/assumptions/39.md). -/
def Obligations.TypematicFollowsItsSettings : Prop :=
  (∀ (m : Master) (enabled delay period : Nat) (s : State), Turn m (.repeatSet enabled delay period) s →
    (1 < enabled → exec (.repeatSet m enabled delay period) s = .next (answered m 0x22 .badValue [] s)) ∧
    (enabled ≤ 1 →
      let d := if delay < 200 then 200 else if 1000 < delay then 1000 else delay
      let p := if period < 33 then 33 else if 500 < period then 500 else period
      let t := withChannel m { channel m s with enabled := decide (enabled = 1), delay := d, period := p }
        (answered m 0x22 .ok [byte enabled, byte d, byte (d / 256), byte p, byte (p / 256)] s)
      exec (.repeatSet m enabled delay period) s = .next
        (if enabled = 0 ∧ s.router.repeatKey.any (fun r => r.target == m) then
          { t with router := { t.router with repeatKey := none } }
        else t))) ∧
    ∀ s : State, s.scanOut.running = true →
      (s.router.repeatKey = none → exec .repeatExpiry s = .next s) ∧
      (∀ r, s.router.repeatKey = some r → s.now < r.next → exec .repeatExpiry s = .next s) ∧
      (∀ r, s.router.repeatKey = some r → r.next ≤ s.now →
        let t : State :=
          { s with router := { s.router with
              repeatKey := some { r with next := s.now + (channel r.target s).period } } }
        (16 ≤ (channel r.target s).queue.length → exec .repeatExpiry s = .next t) ∧
        ((channel r.target s).queue.length < 16 →
          ∃ u, ReportedIf r.target (entered r.target r.code .repeated t) u ∧ exec .repeatExpiry s = .next u))

/-- R91, R92 and R94: the Key Router takes the DOWN of a key that is not local. It stops the repeat of another key. With 10
entries in the table, or for an IGNORED key, it does nothing more. A ROUTED key goes to the owner of the focused pane, whose
queue must hold fewer than 22 events; else its entry has target NONE. -/
def Obligations.PressesAreRouted : Prop :=
  ∀ (code : Nat) (s : State), code < 128 →
    (10 ≤ s.router.held.length ∨ 124 ≤ code → keyDown code s = quieted code s) ∧
    (s.router.held.length < 10 → code < 120 →
      ((∀ m, ownerAt s.router.focus s = some (masterOwner m) → 22 ≤ (channel m s).queue.length) →
        keyDown code s = keyHeld code none (quieted code s)) ∧
      (∀ m, ownerAt s.router.focus s = some (masterOwner m) → (channel m s).queue.length < 22 →
        ∃ t, ReportedIf m (entered m code .down (quieted code s)) t ∧
          keyDown code s =
            (let u := keyHeld code (some (masterOwner m)) t
          if (channel m s).enabled = true then
              { u with router := { u.router with
                  repeatKey := some { code := code, target := m, next := s.now + (channel m s).delay } } }
            else u)))

/-- R87, R93, R135 and R95: a local key's DOWN makes an entry for LOCAL and acts: FOCUS_NEXT moves the focus one place along
the ring, outside a hold; BRIGHT_DOWN and BRIGHT_UP move k within −6 to +6; ALERT_ACK is an acknowledge press. An UP removes
its key's entry and goes where the entry says. -/
def Obligations.LocalKeysActAndReleasesFollow : Prop :=
  (∀ s : State, s.router.held.length < 10 →
    (let t := keyHeld 120 (some .part) (quieted 120 s)
    (s.router.hold = true → keyDown 120 s = t) ∧
    (s.router.hold = false → s.router.focus = none → keyDown 120 s = focusMoved s.ring.head? t) ∧
    (∀ above below n, s.router.hold = false → s.router.focus = some n → s.ring = above ++ n :: below → n ∉ above →
      keyDown 120 s = focusMoved (below ++ above ++ [n]).head? t)) ∧
    (∀ code, code = 121 ∨ code = 122 →
      let k := s.light.offset
      let k' := if code = 121 then (if k ≤ -6 then -6 else k - 1) else (if 6 ≤ k then 6 else k + 1)
      (-6 ≤ k ∧ k ≤ 6) →
      keyDown code s =
        (let t := keyHeld code (some .part) (quieted code s)
        rowTold .brt (brtText k) (brtText k') { t with light := { t.light with offset := k' } })) ∧
    keyDown 123 s = acknowledgePress (keyHeld 123 (some .part) (quieted 123 s))) ∧
  ∀ (code : Nat) (s : State),
    ((∀ e ∈ s.router.held, e.code ≠ code) → keyUp code s = s) ∧
    (∀ (older newer : List HeldKey) (e : HeldKey), s.router.held = older ++ e :: newer → e.code = code →
      (∀ d ∈ older, d.code ≠ code) →
      let t : State := { s with router := { s.router with held := older ++ newer } }
      let stopped (u : State) : State :=
        if s.router.repeatKey.any (fun r => r.code == code) then
          { u with router := { u.router with repeatKey := none } }
        else u
      ((∀ m, e.target ≠ some (masterOwner m)) → keyUp code s = stopped t) ∧
      (∀ m, e.target = some (masterOwner m) →
        ∃ u, ReportedIf m (entered m code .up t) u ∧ keyUp code s = stopped u))

/-- R90 and R99: every step keeps the held-key table at no more than 10 entries, and for each master the events in its key
queue plus the held entries targeted at it at no more than 32. R90 with R82: it keeps the entries' key codes apart, each of
a key that the scanner holds to be down. -/
def Obligations.StepsKeepTheKeyBounds : Prop :=
  (∀ s t : State, KeysKept s → step s = .next t → KeysKept t) ∧
    ∀ s t : State, HeldKept s → step s = .next t → HeldKept t

/-! ### The keyboard matrix -/

/-- R72, R73 and R74: a scan event in SCANNING mode. With 6 or more positions that read other than their stable state,
nothing changes. Else every position moves by the table of R72, and the changes accepted are handed to the Key Router in
ascending key code, each DOWN also to the Park Controller as key activity. -/
def Obligations.ScanMovesEveryPosition : Prop :=
  ∀ (raw : BitVec 128) (s : State),
    s.scanOut.running = true → s.scanner.mode = .scanning → s.scanner.positions.length = 128 →
    let down (c : Nat) : Bool := raw.getLsbD c
    let others := (List.range 128).countP fun c => readsOther (down c) (positionOf s c)
    (6 ≤ others → exec (.scanEvent raw) s = .next s) ∧
    (others < 6 →
      let moved : State :=
        { s with scanner := { s.scanner with
            positions := (List.range 128).map fun c =>
              scanRow s.scanner.pressCount s.scanner.releaseCount (down c) (positionOf s c) } }
      let changes := (List.range 128).filterMap fun c =>
        scanHands s.scanner.pressCount s.scanner.releaseCount (down c) c (positionOf s c)
      exec (.scanEvent raw) s = .next (changes.foldl (fun t change =>
        match change with
        | .down c => activity (keyDown c t)
        | .up c => keyUp c t) moved))

/-- R77 with R143, R78, R66, R126 and R134, and R79 with R96: the wake samples and the capture scan. The latch is set only
by a sample with an active line after a quiet one; the key wake then leaves PARKED for CAPTURE, a new converter scan and a
panel that resumes, and has no effect in the other park states. At the capture scan every position read DOWN becomes
STABLE_DOWN, every other STABLE_UP, the mode becomes SCANNING, and each key read DOWN enters the held-key table with target
NONE, in ascending code, while the table has room; nothing else changes. The drive lines (R69, R77, R81): all together in
WAKE_DETECT, one after another in the other modes, KD0 first, not driven in full reset; the key at drive line d and sense
line s has the code d × 16 + s, and the 16 sense lines read in the slot of drive line d give the raw readings of the codes d
× 16 to d × 16 + 15, so that a scan makes its 128 readings in ascending key code. -/
def Obligations.WakeKeysAreCaptured : Prop :=
  (∀ (senses : BitVec 16) (s : State), s.scanOut.running = true → s.scanner.mode = .wakeDetect →
    (s.scanner.wakeLatch = true → exec (.wakeSample senses) s = .next s) ∧
    (s.scanner.wakeLatch = false → senses = 0 →
      exec (.wakeSample senses) s = .next { s with scanner := { s.scanner with quietSeen := true } }) ∧
    (s.scanner.wakeLatch = false → senses ≠ 0 → s.scanner.quietSeen = false →
      exec (.wakeSample senses) s = .next s) ∧
    (s.scanner.wakeLatch = false → senses ≠ 0 → s.scanner.quietSeen = true →
      let latched : State := { s with scanner := { s.scanner with wakeLatch := true } }
      exec (.wakeSample senses) s = .next (if s.park.state = .parked then leftPark latched else latched))) ∧
  (∀ s : State,
    (s.scanOut.running = false → s.keyboardDrive = .undriven) ∧
    (s.scanOut.running = true → s.scanner.mode = .wakeDetect → s.keyboardDrive = .allTogether) ∧
    (s.scanOut.running = true → s.scanner.mode ≠ .wakeDetect → 
      s.keyboardDrive = .oneAfterAnother [0, 1, 2, 3, 4, 5, 6, 7])) ∧
  (∀ raw : BitVec 128,
    (∀ d k : Nat, d < 8 → k < 16 →
      crossing d k = d * 16 + k ∧ (slotSenses raw d).getLsbD k = raw.getLsbD (d * 16 + k) ∧
      readsDown raw (crossing d k) = (slotSenses raw d).getLsbD k) ∧
    scanReadings raw = (List.range 128).map fun c => (c, raw.getLsbD c)) ∧
  ∀ (raw : BitVec 128) (s : State),
    s.scanOut.running = true → s.scanner.mode = .capture → s.scanner.positions.length = 128 →
    exec (.captureScan raw) s = .next
      { s with
        scanner := { s.scanner with
          mode := .scanning
          positions := (List.range 128).map fun c =>
            if raw.getLsbD c then { state := .stableDown, count := 0 } else { state := .stableUp, count := 0 } }
        router := { s.router with
          held := s.router.held ++
            (((List.range 128).filter fun c => raw.getLsbD c).take (10 - s.router.held.length)).map fun c =>
              { code := c, target := none, time := s.now } } }

/-! ### Alerts -/

/-- R114, R115, R116, R117 with R113, R89 and R137: a pane live event of an ALERT pane, and an acknowledge press. The first
alert saves the focus and begins the hold: the focus, the ALERT LED, the monitor, the ALERT field. The press takes the top
pane off the stack and reports it, or keeps it for the vehicle unit's return; the last one ends the hold and gives the focus
back. A NORMAL pane and an empty stack change nothing. -/
def Obligations.AlertsHoldAndGiveBackTheFocus : Prop :=
  (∀ (n : Nat) (p : Pane) (s : State), s.pane? n = some p →
    (p.cls = .normal → alertPaneLive n s = s) ∧
    (p.cls = .alert →
      let value : Option Nat := if p.acceptsKeys = true ∧ s.vehicle.present = true then some n else none
      (s.alerts.stack = [] →
        alertPaneLive n s = rowTold .alert (alertText 0) (alertText 1)
          (let t := switched 3 true (focusMoved value
            { s with
              router := { s.router with hold := true }
              alerts := { s.alerts with saved := s.router.focus, stack := [n] } })
          { t with light := { t.light with hold := true, jump := true } })) ∧
      (s.alerts.stack ≠ [] →
        alertPaneLive n s =
          rowTold .alert (alertText s.alerts.stack.length) (alertText (s.alerts.stack.length + 1))
            (focusMoved value { s with alerts := { s.alerts with stack := n :: s.alerts.stack } })))) ∧
  ∀ s : State,
    (s.alerts.stack = [] → acknowledgePress s = s) ∧
    (∀ top rest, s.alerts.stack = top :: rest →
      let popped : State := { s with alerts := { s.alerts with stack := rest } }
      let reported : State :=
        if s.vehicle.present = true then handed .vehicle (.notice (.alertAcknowledged top)) popped
        else { popped with alerts := { popped.alerts with unreported := s.alerts.unreported ++ [top] } }
      (rest ≠ [] →
        acknowledgePress s = rowTold .alert (alertText (rest.length + 1)) (alertText rest.length)
          (focusMoved (alertValue popped) reported)) ∧
      (rest = [] →
        let back : Option Nat :=
          if s.alerts.saved.any s.eligible then s.alerts.saved else s.ring.head?
        acknowledgePress s =
          (let t := switched 3 false (focusMoved back
            { reported with router := { reported.router with hold := false } })
          let t := rowTold .alert (alertText 1) (alertText 0) { t with light := { t.light with hold := false } }
          { t with alerts := { t.alerts with saved := none } })))

/-- R111 with R89, R113, R137 and R153: every step keeps the hold in force exactly while the alert stack is not empty, in
the Key Router, in the monitor and on the ALERT LED; and the scanner's positions, the inputs and the lines at their
numbers. R84, R89, R112 and R119: over a pane table kept as StepsKeepTheLayout says, it keeps the focus NONE or an eligible
pane, and during a hold the alert focus; the stack a list of LIVE ALERT panes, none twice; the saved focus NONE outside a
hold, and NONE or an eligible pane in one. -/
def Obligations.StepsKeepTheHold : Prop :=
  (∀ s t : State, HoldKept s → step s = .next t → HoldKept t) ∧
    ∀ s t : State, OrdersKept s → FocusKept s → step s = .next t → FocusKept t

/-! ### Light, supply and park -/

/-- R126 to R134: a converter scan starts 10 ms after the start of the latest, 1,000 ms in PARKED, when none is under way
(that it does not start before is the model's choice: notes/assumptions/37.md; and that one begun late counts from then:
notes/assumptions/39.md), and completes. At the completion the three values are stored, the filter is seeded or moves by its
step, the supply and the temperature state move by their tables, a change of either is handed to the present masters and to
the status row, where both change in either order (notes/assumptions/33.md), and sets the jump flag where it should, and the
backlight update gives the target through the stages of R132 and R133 and the applied duty by jump or slew. -/
def Obligations.CompletionUpdatesLightAndSupply : Prop :=
  (∀ s : State, s.scanOut.running = true →
    let next : Nat := s.light.scanStart + if s.light.parked = true then 1000 else 10
    (s.light.converting = false → next ≤ s.now →
      exec .converterScanStart s = .next { s with light := { s.light with converting := true, scanStart := s.now } }) ∧
    (s.light.converting = true ∨ s.now < next → exec .converterScanStart s = .next s)) ∧
  ∀ (a v p : Nat) (s : State), s.scanOut.running = true → s.light.converting = true →
    let l := s.light
    let f : Nat := if l.ambient = none then 16 * a else filterMoved l.filter a
    let row := supplyRow l.low l.lowCount l.recoverCount v
    let hot : Bool := decide (if l.hot = true then 500 ≤ p else 540 ≤ p)
    let jump : Bool := l.jump || (row.1 && !l.low) || (hot && !l.hot)
    let target := dutyFor f l.offset l.darkCab l.hold row.1 hot l.parked
    let after : State :=
      { s with light :=
          { l with
            converting := false, ambient := some a, supply := some v, panelTemp := some p, filter := f
            low := row.1, lowCount := row.2.1, recoverCount := row.2.2, hot := hot, jump := false, target := target
            applied := if jump then target else dutyMoved l.applied target } }
    let change : Message := .notice (.supplyChange row.1 hot v p)
    let pwr := rowTold .pwr (pwrText l.low) (pwrText row.1)
    let temp := rowTold .temp (tempText l.hot) (tempText hot)
    let noticed := handed .vehicle change (handed .tablet change after)
    (row.1 = l.low → hot = l.hot → exec (.scanCompletion a v p) s = .next after) ∧
    (row.1 ≠ l.low ∨ hot ≠ l.hot →
      exec (.scanCompletion a v p) s = .next (temp (pwr noticed)) ∨
        exec (.scanCompletion a v p) s = .next (pwr (temp noticed)))

/-- R134: every step keeps both duties within 0 to 1000, and 0 in PARKED, with the monitor's park record as the Park
Controller's state says. BLPWM is then high for no more than the whole period, and low in PARKED and in full reset. -/
def Obligations.StepsKeepTheDutyRange : Prop :=
  (∀ s t : State, DutyKept s → step s = .next t → DutyKept t) ∧
    ∀ s : State, DutyKept s →
      s.backlightDuty ≤ 1000 ∧ (s.scanOut.running = true → s.backlightDuty = s.light.applied) ∧
      (s.park.state = .parked ∨ s.scanOut.running = false → s.backlightDuty = 0)

/-- R75, R136 and R144: SCAN SET, DARK CAB and PARK DELAY. From the tablet each is refused with NOT_ALLOWED, as WAKE is
(R143); that this comes before every check of the operands is the model's choice (notes/assumptions/18.md). From the vehicle
unit the clamped values replace the settings and are given in the reply, and DARK CAB turned on sets the jump flag. A DARK
CAB code that is not defined is refused (R176). -/
def Obligations.VehicleSettingsAreClamped : Prop :=
  ∀ (press release setting delay : Nat) (s : State),
    RefusedWith (.scanSet .tablet press release) 0x53 .notAllowed s ∧
    RefusedWith (.darkCab .tablet setting) 0x50 .notAllowed s ∧
    RefusedWith (.parkDelay .tablet delay) 0x51 .notAllowed s ∧ RefusedWith (.wake .tablet) 0x52 .notAllowed s ∧
    (1 < setting → RefusedWith (.darkCab .vehicle setting) 0x50 .badValue s) ∧
    (Turn .vehicle (.scanSet press release) s →
      let clamp (n : Nat) : Nat := if n < 2 then 2 else if 40 < n then 40 else n
      exec (.scanSet .vehicle press release) s = .next
        (answered .vehicle 0x53 .ok [byte (clamp press), byte (clamp release)]
          { s with scanner := { s.scanner with pressCount := clamp press, releaseCount := clamp release } })) ∧
    (Turn .vehicle (.darkCab setting) s → setting ≤ 1 →
      exec (.darkCab .vehicle setting) s = .next
        (answered .vehicle 0x50 .ok []
          { s with light := { s.light with
              darkCab := decide (setting = 1)
              jump := if setting = 1 ∧ s.light.darkCab = false then true else s.light.jump } })) ∧
    (Turn .vehicle (.parkDelay delay) s →
      let d := if 600 < delay then 600 else delay
      exec (.parkDelay .vehicle delay) s = .next
        (answered .vehicle 0x51 .ok [byte d, byte (d / 256)] { s with park := { s.park with delay := d } }))

/-- R142 with R65, R76, R97 and R134: the countdown expiry in PARK_PENDING, when the countdown is 0, enters PARKED: the
countdown is absent, the panel output OFF, the scanner in WAKE_DETECT with every position STABLE_UP, the light out; the flush
gives each master an UP for every key it holds and empties the table. Outside PARK_PENDING, and while time is left
(notes/assumptions/37.md), no expiry is taken. That it comes after the edges of the sample which brought the countdown to 0 is
the model's choice (notes/assumptions/44.md). -/
def Obligations.CountdownExpiryEntersPark : Prop :=
  ∀ s : State, s.scanOut.running = true →
    (s.park.state = .parkPending → s.park.countdown = some 0 →
      ∃ t, exec .countdownExpiry s = .next t ∧ ParkedTo s t) ∧
    (s.park.state ≠ .parkPending ∨ s.park.countdown ≠ some 0 → exec .countdownExpiry s = .next s)

/-- R141 and R143: a WAKE of the vehicle unit, and a qualified edge of IGNITION as the Park Controller takes it, by their
tables. -/
def Obligations.WakeAndIgnitionMoveThePark : Prop :=
  ∀ s : State,
    (Turn .vehicle .wake s →
      let t := answered .vehicle 0x52 .ok [] s
      (s.park.state = .run → exec (.wake .vehicle) s = .next t) ∧
      (s.park.state = .parkPending → exec (.wake .vehicle) s =
        .next { t with park := { s.park with countdown := some s.park.countdownLength } }) ∧
      (s.park.state = .parked → exec (.wake .vehicle) s = .next (leftPark t))) ∧
    (s.ignitionOn = true →
      ignitionEdge true s =
        match s.park.state with
        | .run => s
        | .parkPending => { s with park := { s.park with state := .run, countdown := none } }
        | .parked => leftPark s) ∧
    (s.park.state ≠ .run → ignitionEdge false s = s) ∧
    (s.park.state = .run → 1 ≤ s.park.delay →
      ignitionEdge false s =
        { s with park := { s.park with
            state := .parkPending, countdown := some (1000 * s.park.delay), countdownLength := 1000 * s.park.delay } }) ∧
    (s.park.state = .run → s.park.delay = 0 → ParkedTo s (ignitionEdge false s))

/-! ### Inputs and lines -/

/-- R139, R151 and R155 with the layouts of R178 and R179: the three queries change nothing but their queues. QUERY LIGHT
gives the tablet three pages of 6 bytes and the vehicle unit the page it names; QUERY INPUTS gives each input's record, or
that of the input named; QUERY LINES gives directions, latches and pin levels. A page above 2 and an input above 4 are
refused. -/
def Obligations.QueriesGiveTheState : Prop :=
  ∀ (m : Master) (pins : BitVec 8) (s : State),
    let two (n : Nat) : List Byte := [byte n, byte (n / 256)]
    let bit (b : Bool) (w : Nat) : Nat := if b then w else 0
    let pageOf (k : Nat) : List Byte :=
      match k with
      | 0 => two (s.light.ambient.getD 65535) ++ two (s.light.supply.getD 65535) ++ two (s.light.panelTemp.getD 65535)
      | 1 => two s.light.filter ++ two s.light.target ++ two s.light.applied
      | _ =>
        let park : Nat := match s.park.state with
          | .run => 0
          | .parkPending => 16
          | .parked => 32
        [byte (bit s.light.low 1 + bit s.light.hot 2 + bit s.light.darkCab 4 + bit s.light.hold 8 + park),
          BitVec.ofInt 8 s.light.offset]
          ++ two s.park.delay ++ two ((s.park.countdown.map fun ms => (ms + 9) / 10).getD 65535)
    let inputOf (i : DiscreteInput) : List Byte :=
      let mode : Nat := match i.mode with
        | .edge .rising => 0
        | .edge .falling => 8
        | .edge .both => 16
        | .level false => 4
        | .level true => 12
      [byte (bit i.qualified 1 + bit i.latest 2 + mode), byte i.qualTime] ++ two i.interval
        ++ [byte (bit i.tabletFlag 1 + bit i.tabletAck 2 + bit i.vehicleFlag 4 + bit i.vehicleAck 8)]
    (Turn m (.queryLight none) s →
      exec (.queryLight m none) s = .next (answered m 0x45 .ok (pageOf 0 ++ pageOf 1 ++ pageOf 2) s)) ∧
    (∀ k, Turn m (.queryLight (some k)) s → exec (.queryLight m (some k)) s = .next
      (if k ≤ 2 then answered m 0x45 .ok (pageOf k) s else answered m 0x45 .badValue [] s)) ∧
    (Turn m (.queryInputs none) s →
      exec (.queryInputs m none) s = .next (answered m 0x42 .ok (s.inputs.flatMap inputOf) s)) ∧
    (∀ n, Turn m (.queryInputs (some n)) s → exec (.queryInputs m (some n)) s = .next
      (match s.inputs[n]? with
      | some i => answered m 0x42 .ok (inputOf i) s
      | none => answered m 0x42 .badValue [] s)) ∧
    (∀ a b c d e f g h : IndicatorLine, s.lines.lines = [a, b, c, d, e, f, g, h] → Turn m .queryLines s →
      exec (.queryLines m pins) s = .next (answered m 0x44 .ok
        [byte (bit a.out 1 + bit b.out 2 + bit c.out 4 + bit d.out 8 + bit e.out 16 + bit f.out 32 + bit g.out 64
            + bit h.out 128),
          byte (bit a.latch 1 + bit b.latch 2 + bit c.latch 4 + bit d.latch 8 + bit e.latch 16 + bit f.latch 32
            + bit g.latch 64 + bit h.latch 128),
          pins] s))

/-- R149 and R150: INPUT ACK acts on its sender's flag only, by the mode. INPUT MODE replaces the mode, the time of AUX0 and
AUX1, clamped, and clears both flags and ack records; in LEVEL mode over an active level it then sets both flags and, after
the reply, hands an INPUT CHANGE to each present master. Numbers and codes that are not defined are refused. -/
def Obligations.InputAckAndModeActOnFlags : Prop :=
  ∀ (m : Master) (n mode sense time : Nat) (s : State),
    (s.inputs[n]? = none → RefusedWith (.inputAck m n) 0x40 .badValue s ∧
      RefusedWith (.inputMode m n mode sense time) 0x41 .badValue s) ∧
    (1 < mode ∨ 2 < sense ∨ (mode = 1 ∧ 1 < sense) → RefusedWith (.inputMode m n mode sense time) 0x41 .badValue s) ∧
    ∀ i, s.inputs[n]? = some i →
      (let after : DiscreteInput :=
        match m with
        | .tablet =>
          { i with
            tabletFlag := (acked i i.tabletFlag i.tabletAck).1, tabletAck := (acked i i.tabletFlag i.tabletAck).2 }
        | .vehicle =>
          { i with
            vehicleFlag := (acked i i.vehicleFlag i.vehicleAck).1
            vehicleAck := (acked i i.vehicleFlag i.vehicleAck).2 }
      Turn m (.inputAck n) s →
        exec (.inputAck m n) s = .next (answered m 0x40 .ok [] { s with inputs := s.inputs.set n after })) ∧
      (∀ md : InputMode,
        md = (if mode = 0 then (if sense = 0 then .edge .rising else if sense = 1 then .edge .falling else .edge .both)
          else .level (decide (sense = 1))) →
        mode ≤ 1 → sense ≤ 2 → (mode = 1 → sense ≤ 1) → Turn m (.inputMode n mode sense time) s →
        let q : Nat := if n < 3 then i.qualTime else if time < 1 then 1 else if 255 < time then 255 else time
        let active : Bool := decide (md = .level i.qualified)
        let after : DiscreteInput :=
          { i with
            mode := md, qualTime := q, tabletFlag := active, vehicleFlag := active, tabletAck := false
            vehicleAck := false }
        let t := answered m 0x41 .ok [byte n, byte mode, byte sense, byte q] { s with inputs := s.inputs.set n after }
        let change : Message := .notice (.inputChange n i.qualified i.interval)
        exec (.inputMode m n mode sense time) s = .next
          (if active then handed .vehicle change (handed .tablet change t) else t))

/-- R146, R147 and R148: the 1 ms sample. Every input's counter, sample and count move, a level qualifies at the
qualification-time-th sample that reads it, and at a qualified edge the flags follow the mode; the BAY edge goes to the Dock
Link Port and the IGNITION edge to the Park Controller before the notices of that input. Two points are the model's choice
(notes/assumptions/12.md): the part's millisecond count and the park countdown move with the sample; and where one sample
makes edges of several inputs, they are taken in ascending number (BAY, IGNITION, LOCK, AUX0, AUX1), which fixes the order of
their effects and of their INPUT CHANGE notices: R146 and R147 order the steps of one input only. It is the model's choice too
that the edges of the sample which brings the countdown to 0 come before the expiry (R141; notes/assumptions/44.md). -/
def Obligations.SampleQualifiesTheInputs : Prop :=
  ∀ (pins : InputLevels) (bay ignition lock aux0 aux1 : DiscreteInput) (s : State), s.scanOut.running = true →
    s.inputs = [bay, ignition, lock, aux0, aux1] →
    let start : State :=
      { s with
        now := s.now + 1
        park := { s.park with countdown := s.park.countdown.map (· - 1) }
        inputs :=
          [sampled bay pins.bay, sampled ignition pins.ignition, sampled lock pins.lock, sampled aux0 pins.aux0,
            sampled aux1 pins.aux1] }
    let afterBay := edgeTold 0 bay pins.bay (if edgeTaken bay pins.bay then bayEdge pins.bay start else start)
    let afterIgnition := edgeTold 1 ignition pins.ignition
      (if edgeTaken ignition pins.ignition then ignitionEdge pins.ignition afterBay else afterBay)
    exec (.inputSample pins) s = .next
      (edgeTold 4 aux1 pins.aux1 (edgeTold 3 aux0 pins.aux0 (edgeTold 2 lock pins.lock afterIgnition)))

/-- R154, and the toggle of R153: LINE SET is refused by the first failing step, else direction and latch replace the line's
values, the pin follows at once and nothing else changes; the LINK LED changes at each expiry of its timer, which starts
again; while the timer is stopped or has time left, nothing changes (R153; notes/assumptions/37.md). That it starts again
from the moment at which the expiry is taken is the model's choice (notes/assumptions/39.md). -/
def Obligations.LinesFollowTheirOwners : Prop :=
  (∀ (m : Master) (line direction latch : Nat) (s : State),
    (7 < line ∨ 1 < direction ∨ 1 < latch → RefusedWith (.lineSet m line direction latch) 0x43 .badValue s) ∧
    (line ≤ 7 → direction ≤ 1 → latch ≤ 1 →
      ((m = .tablet ∧ line ∉ [0, 1, 2, 7]) ∨ (m = .vehicle ∧ line ∉ [5, 6]) →
        RefusedWith (.lineSet m line direction latch) 0x43 .notOwner s) ∧
      ((m = .tablet ∧ line ∈ [0, 1, 2, 7]) ∨ (m = .vehicle ∧ line ∈ [5, 6]) → Turn m (.lineSet line direction latch) s →
        exec (.lineSet m line direction latch) s = .next
          (answered m 0x43 .ok [byte line, byte direction, byte latch]
            { s with lines := { s.lines with
                lines := s.lines.lines.set line { out := decide (direction = 1), latch := decide (latch = 1) } } }) ∧
        (s.lines.lines.length = 8 → ∃ t, exec (.lineSet m line direction latch) s = .next t ∧
          t.linePin line = if direction = 1 then some (decide (latch = 1)) else none)))) ∧
  ∀ s : State, s.scanOut.running = true →
    (∀ led : IndicatorLine, s.lines.lines[4]? = some led → Due s.lines.ledTimer s →
      exec .linkLedToggle s = .next
        { s with lines :=
            { lines := s.lines.lines.set 4 { out := true, latch := !led.latch }, ledTimer := some (s.now + 250) } }) ∧
    (¬Due s.lines.ledTimer s → exec .linkLedToggle s = .next s)

/-! ### The Dock Link -/

/-- R158 with R159, R162 and R165: a packet at its end. A wrong CRC or length field discards it; in ABSENT, in ATTACHING
(unless it is a HELLO) and in HOLD with BAY LOW it is discarded; in UP it restarts the silence timer, in HOLD with BAY HIGH
it resumes the link first. A KEEPALIVE does no more; a kind that is not defined, non-zero flags and a length that does not
fit enter the request queue as refused; every other request enters it too, while it holds fewer than 8. A refused request is
answered in its turn and changes nothing else. A well-formed HELLO in ATTACHING and in HOLD with BAY HIGH is taken at
arrival (R159). That a request which the full queue discards has restarted the silence timer or resumed the link is the
model's choice (notes/assumptions/40.md), and so is that a refused request is taken in every link state, its reply dropped
outside UP (notes/assumptions/41.md). Which kinds are defined (R177) and which payload lengths fit them (R176, R178; that of
a KEEPALIVE is the model's choice: notes/assumptions/36.md). -/
def Obligations.PacketsAreCheckedAndQueued : Prop :=
  (∀ (kind : Nat) (payload : List Byte),
    (tabletKind kind = true ↔ KindDefined kind) ∧
      (readPayload kind payload ≠ none ↔ LengthFits kind payload.length)) ∧
  (∀ (kind flags l0 l1 hi lo : Byte) (payload : List Byte) (s : State), s.scanOut.running = true →
    let bytes := kind :: flags :: l0 :: l1 :: (payload ++ [hi, lo])
    let crc := (crc16 (kind :: flags :: l0 :: l1 :: payload)).toNat
    let valid : Prop :=
      hi = byte (crc / 256) ∧ lo = byte crc ∧ l0.toNat + 256 * l1.toNat = payload.length ∧ payload.length ≤ 1024
    let heard : State := { s with dock := { s.dock with silence := some (s.now + 20) } }
    let queued (r : Request) : State :=
      { heard with dock := { heard.dock with
          requests := if s.dock.requests.length < 8 then s.dock.requests ++ [r] else s.dock.requests } }
    (¬valid → exec (.dockLinkPacketReceived bytes) s = .next s) ∧
    (s.dock.link = .absent → exec (.dockLinkPacketReceived bytes) s = .next s) ∧
    (s.dock.link = .attaching → kind ≠ 0x01 → exec (.dockLinkPacketReceived bytes) s = .next s) ∧
    (s.dock.link = .hold → s.bayHigh = false → exec (.dockLinkPacketReceived bytes) s = .next s) ∧
    (valid → s.dock.link = .hold → s.bayHigh = true → kind ≠ 0x01 →
      ∃ t, ResumedTo s t ∧ exec (.dockLinkPacketReceived bytes) s = exec (.dockLinkPacketReceived bytes) t) ∧
    (valid → kind = 0x01 → flags = 0 → s.dock.link = .attaching ∨ (s.dock.link = .hold ∧ s.bayHigh = true) →
      ∀ g0 g1, payload = [g0, g1] →
        exec (.dockLinkPacketReceived bytes) s = exec (.hello (g0.toNat + 256 * g1.toNat)) s) ∧
    (valid → s.dock.link = .up →
      (tabletKind kind.toNat = false →
        exec (.dockLinkPacketReceived bytes) s = .next (queued (.refused kind.toNat .unknown))) ∧
      (tabletKind kind.toNat = true → flags ≠ 0 ∨ readPayload kind.toNat payload = none →
        exec (.dockLinkPacketReceived bytes) s = .next (queued (.refused kind.toNat .badValue))) ∧
      (tabletKind kind.toNat = true → flags = 0 →
        (readPayload kind.toNat payload = some .keepalive → exec (.dockLinkPacketReceived bytes) s = .next heard) ∧
        (∀ offset data, readPayload kind.toNat payload = some (.writeData offset data) →
          exec (.dockLinkPacketReceived bytes) s = exec (.writeData offset data) s) ∧
        ∀ r, readPayload kind.toNat payload = some (.request r) →
          exec (.dockLinkPacketReceived bytes) s = .next (queued r)))) ∧
  (∀ (bytes : List Byte) (s : State), bytes.length < 6 → s.scanOut.running = true →
    exec (.dockLinkPacketReceived bytes) s = .next s) ∧
  (∀ s : State, s.scanOut.running = true →
    (s.dock.link = .absent ∨ s.dock.link = .attaching ∨ (s.dock.link = .hold ∧ s.bayHigh = false) →
      exec .keepalive s = .next s) ∧
    (s.dock.link = .up →
      exec .keepalive s = .next { s with dock := { s.dock with silence := some (s.now + 20) } }) ∧
    (s.dock.link = .hold → s.bayHigh = true → ∃ t, ResumedTo s t ∧ exec .keepalive s = .next t)) ∧
  ∀ (m : Master) (code : Nat) (result : Result) (s : State), Turn m (.refused code result) s →
    exec (.refusedPacket m code result) s = .next (answered m code result [] s)

/-- R160 with R159 and R161: a HELLO starts the link in ATTACHING; in HOLD with BAY HIGH, and in UP when it is taken from the
queue, the departure comes first. In HOLD with BAY LOW one that waits in the queue leaves it in its turn and nothing else
changes (R162; notes/assumptions/38.md); one that arrives then, and any in ABSENT, changes nothing. That the arbiter's turns
(R50) stay when the departure cuts off a fill, a write or a drain is the model's choice (notes/assumptions/42.md). -/
def Obligations.HelloStartsTheLink : Prop :=
  ∀ (grace : Nat) (s : State), s.scanOut.running = true → s.inputs.length = 5 → s.layout.panes.length = 8 →
    (s.dock.link = .attaching → s.dock.outbound = [] → exec (.hello grace) s = .next (linkStarted grace s)) ∧
    (s.dock.link = .hold → s.bayHigh = true →
      ∃ t, DepartedTo s t ∧ exec (.hello grace) s = .next (linkStarted grace t)) ∧
    (Turn .tablet (.hello grace) s → s.dock.link = .up →
      ∃ t, DepartedTo s t ∧ exec (.hello grace) s = .next (linkStarted grace t)) ∧
    (s.dock.link = .hold → s.bayHigh = false →
      (Turn .tablet (.hello grace) s → exec (.hello grace) s = .next (taken .tablet s)) ∧
      (¬Turn .tablet (.hello grace) s → exec (.hello grace) s = .next s)) ∧
    (s.dock.link = .absent → exec (.hello grace) s = .next s)

/-- R159, R161, R162 and R163: the Dock Link's timers and what it has sent. The silence expiry in UP enters HOLD; the grace
expiry in HOLD departs; the send timer's expiry in UP places a KEEPALIVE if there is room (that the timer runs on from its
expiry, and from the moment at which that is taken, is the model's choice: notes/assumptions/13.md and 39.md); a packet sent
leaves the queue and lets out a report that waits. In the other states, and before their time (notes/assumptions/37.md), the
three expiries change nothing. The BAY edges move the link by R159. That the arbiter's turns (R50) stay when the departure of
the grace expiry cuts off a fill, a write or a drain is the model's choice (notes/assumptions/42.md). -/
def Obligations.DockTimersMoveTheLink : Prop :=
  ∀ s : State, s.scanOut.running = true →
    (s.dock.link = .up → Due s.dock.silence s → exec .silenceTimerExpiry s = .next (heldLink s)) ∧
    (s.dock.link ≠ .up ∨ ¬Due s.dock.silence s → exec .silenceTimerExpiry s = .next s) ∧
    (s.dock.link = .hold → Due s.dock.graceTimer s → s.layout.panes.length = 8 →
      ∃ t, DepartedTo s t ∧ exec .graceTimerExpiry s = .next t) ∧
    (s.dock.link ≠ .hold ∨ ¬Due s.dock.graceTimer s → exec .graceTimerExpiry s = .next s) ∧
    (s.dock.link ≠ .up ∨ ¬Due s.dock.send s → exec .sendTimerExpiry s = .next s) ∧
    (s.dock.link = .up → Due s.dock.send s →
      exec .sendTimerExpiry s = .next
        { s with dock := { s.dock with
            send := some (s.now + 5)
            outbound := if s.dock.outbound.length < 32 then s.dock.outbound ++ [.keepalive] else s.dock.outbound } }) ∧
    (∀ first rest, s.dock.link = .up → s.dock.outbound = first :: rest →
      ∃ t, ReportedIf .tablet { s with dock := { s.dock with outbound := rest, send := some (s.now + 5) } } t ∧
        exec .dockPacketSent s = .next t) ∧
    (s.dock.link = .up → bayEdge false s = heldLink s ∧ bayEdge true s = s) ∧
    (s.dock.link = .hold → ∀ high, bayEdge high s = s) ∧
    (s.dock.link = .absent →
      bayEdge true s =
        (let t := rowTold .tab (tabText .absent) (tabText .attaching)
          { s with dock := { s.dock with link := .attaching } }
        { t with lines :=
            { lines := t.lines.lines.set 4 { out := true, latch := true }, ledTimer := some (s.now + 250) } })) ∧
    (s.dock.link = .attaching →
      bayEdge false s =
        (let t := rowTold .tab (tabText .attaching) (tabText .absent)
          { s with dock := { s.dock with link := .absent } }
        { t with lines := { lines := t.lines.lines.set 4 { out := true, latch := false }, ledTimer := none } }))

/-! ### The Vehicle Line -/

/-- R169, R172 and R173: a frame from the vehicle unit restarts its silence timer, brings the unit back if it was ABSENT,
and then enters the request queue if it is a request or text data frame and the queue holds fewer than 4. Any other frame
is ignored. The silence expiry makes the absence; a frame sent leaves the queue and lets out a report that waits. What a
request frame and a text data frame are refused with as they are read (R170, R171, R177, R179): UNKNOWN for a code that is
not defined, BAD_VALUE for a length that does not fit. That a text data frame with one of bits 5 to 7 of byte 0 set is so
refused is the model's choice (notes/assumptions/35.md). -/
def Obligations.VehicleFramesAndPresence : Prop :=
  (∀ (code : Byte) (operands : List Byte),
    (¬CodeDefined code.toNat → readRequestFrame (code :: operands) = .refused code.toNat .unknown) ∧
    (CodeDefined code.toNat → ¬OperandsFit code.toNat operands.length →
      readRequestFrame (code :: operands) = .refused code.toNat .badValue) ∧
    (CodeDefined code.toNat → OperandsFit code.toNat operands.length →
      ∀ c result, readRequestFrame (code :: operands) ≠ .refused c result)) ∧
  (∃ echo, readRequestFrame [] = .refused echo .badValue) ∧
  (∀ data : List Byte, data.length < 4 → readTextFrame data = .refused 0x33 .badValue) ∧
  (∀ (b0 row column attr : Byte) (codes : List Byte),
    readTextFrame (b0 :: row :: column :: attr :: codes) =
      if b0.toNat < 32 then .textData (b0.toNat % 16) (b0.toNat / 16) row.toNat column.toNat attr codes
      else .refused 0x33 .badValue) ∧
  (∀ (f : CanFrame) (s : State), s.scanOut.running = true →
    let heard : State :=
      if s.vehicle.present = true then { s with vehicle := { s.vehicle with silence := some (s.now + 1000) } }
      else returned s
    (f.remote = true ∨ (f.id ≠ s.vehicle.base ∧ f.id ≠ s.vehicle.base + 4 ∧ f.id ≠ s.vehicle.base + 5) →
      exec (.vehicleFrameReceived f) s = .next s) ∧
    (f.remote = false →
      (f.id = s.vehicle.base →
        exec (.vehicleFrameReceived f) s = .next (frameQueued (readRequestFrame f.data) heard)) ∧
      (f.id = s.vehicle.base + 4 →
        exec (.vehicleFrameReceived f) s = .next (frameQueued (readTextFrame f.data) heard)) ∧
      (f.id = s.vehicle.base + 5 → exec (.vehicleFrameReceived f) s = .next heard))) ∧
  ∀ s : State, s.scanOut.running = true →
    (s.vehicle.present = true → Due s.vehicle.silence s → exec .vehicleSilenceExpiry s = .next (absented s)) ∧
    (s.vehicle.present = false ∨ ¬Due s.vehicle.silence s → exec .vehicleSilenceExpiry s = .next s) ∧
    (∀ first rest, s.vehicle.outbound = first :: rest →
      ∃ t, ReportedIf .vehicle { s with vehicle := { s.vehicle with outbound := rest } } t ∧
        exec .vehicleFrameSent s = .next t)

/-- R174 with R164, R80 and R138: a RESTART of the tablet is refused with NOT_ALLOWED (before its units are checked: the
model's choice, notes/assumptions/18.md), and a set with no unit or an undefined one with BAD_VALUE. Else
each unit is restarted in its turn (bit 0 DOCK_LINK, bit 1 SCANNER, bit 2 CONVERTER) and the reply follows the last one. That
each unit is a command of its own is the model's choice (notes/assumptions/11.md), and so is that the arbiter's turns (R50)
stay when the departure of the DOCK_LINK unit cuts off a fill, a write or a drain (notes/assumptions/42.md). -/
def Obligations.RestartTakesUnitsInOrder : Prop :=
  ∀ (who : Master) (units : Nat) (s : State),
    (who = .tablet →
      RefusedWith (.restartDockLink who units) 0x54 .notAllowed s ∧
      RefusedWith (.restartScanner who units) 0x54 .notAllowed s ∧
      RefusedWith (.restartConverter who units) 0x54 .notAllowed s) ∧
    (who = .vehicle → units = 0 ∨ 8 ≤ units →
      RefusedWith (.restartDockLink who units) 0x54 .badValue s ∧
      RefusedWith (.restartScanner who units) 0x54 .badValue s ∧
      RefusedWith (.restartConverter who units) 0x54 .badValue s) ∧
    (Turn .vehicle (.restart units) s → units < 8 →
      let up : Prop := s.dock.link = .up ∨ s.dock.link = .hold
      (s.vehicle.restartDone = 0 → units % 2 = 1 → s.layout.panes.length = 8 →
        (up → ∃ t, DepartedTo s t ∧ exec (.restartDockLink .vehicle units) s = .next (unitDone units 1 t)) ∧
        (¬up → exec (.restartDockLink .vehicle units) s = .next (unitDone units 1 s))) ∧
      (s.vehicle.restartDone = units % 2 → units / 2 % 2 = 1 →
        let cleared : State :=
          { s with scanner := { s.scanner with
              positions := List.replicate 128 { state := .stableUp, count := 0 }
              mode := if s.scanner.mode = .wakeDetect then .wakeDetect else .scanning
              wakeLatch := false, quietSeen := false } }
        ∃ t, FlushedTo cleared t ∧ exec (.restartScanner .vehicle units) s = .next (unitDone units (units % 2 + 2) t)) ∧
      (s.vehicle.restartDone = units % 4 → units / 4 = 1 →
        exec (.restartConverter .vehicle units) s = .next (unitDone units units
          { s with light := { s.light with
              ambient := none, supply := none, panelTemp := none, lowCount := 0, recoverCount := 0
              converting := true, scanStart := s.now } })))

/-! ### What every step keeps, and what is read from the links -/

/-- R157, R161, R162, R163, R165, R169 and R173: every step keeps both links' queues within their bounds, and the Dock Link's
outbound queue empty in every link state but UP. R167: it keeps the bytes received plus the missing count equal to next
expected, which is at most T, and the stream marked ended exactly at T. R157: a receive buffer that is not EMPTY holds 1 to
1,020 stream bytes, while no command WRITE_DATA brings more data bytes than a packet carries (R166). -/
def Obligations.StepsKeepTheQueueBounds : Prop :=
  (∀ s t : State, QueuesKept s → step s = .next t → QueuesKept t) ∧
    (∀ s t : State, StreamKept s → step s = .next t → StreamKept t) ∧
    ∀ s t : State, BuffersKept s → (∀ offset data, s.pending.head? = some (.writeData offset data) → data.length ≤ 1020) →
      step s = .next t → BuffersKept t

/-- R2, R3, R11, R17 and R18: every step keeps the quotas, pane 0, the tiers of both orders, and each order and the ready
list as the panes' states say. -/
def Obligations.StepsKeepTheLayout : Prop :=
  ∀ s t : State, OrdersKept s → QuotaKept s → step s = .next t → OrdersKept t ∧ QuotaKept t

/-- R175, R178 and R179 (and R158 step 1): every request that a link can carry is read back from what its master sends for
it: from the payload and the whole packet of the tablet, from the request frame and from the text data frame of the vehicle
unit, each of at most 8 bytes. And what the part sends (R175, R177 to R180): the packet's layout; a reply's echoed code,
result code and values; a key report's records; a notice's code and values; the window of a reply; each as a packet and as
a frame. -/
def Obligations.RequestsAreReadBack : Prop :=
  (∀ (kind : Nat) (payload : List Byte),
    let body := byte kind :: 0 :: byte payload.length :: byte (payload.length / 256) :: payload
    let crc := (crc16 body).toNat
    packet kind payload = body ++ [byte (crc / 256), byte crc]) ∧
  (∀ (base code : Nat) (result : Result) (values : List Byte),
    messagePacket (.reply code result values) = packet 0x80 (byte code :: resultByte result :: values) ∧
      messageFrame base (.reply code result values) =
        some { id := base + 1, remote := false, data := byte code :: resultByte result :: values }) ∧
  (∀ (base : Nat) (events : List KeyEvent),
    messagePacket (.keyReport events) = packet 0x81 (byte events.length :: events.flatMap eventRecord) ∧
      messageFrame base (.keyReport events) =
        some { id := base + 2, remote := false, data := events.flatMap eventRecord }) ∧
  (∀ (base : Nat) (n : Notice),
    messagePacket (.notice n) = packet (noticeParts n).1 (noticeParts n).2 ∧
      messageFrame base (.notice n) =
        some { id := base + 3, remote := false, data := byte (noticeParts n).1 :: (noticeParts n).2 }) ∧
  messagePacket .keepalive = packet 0x02 [] ∧
  (∀ w : Window, w.left < 1024 → w.top < 512 → w.width < 1024 → w.height < 512 →
    windowBytes .tablet w = twoBytes w.left ++ twoBytes w.top ++ twoBytes w.width ++ twoBytes w.height ∧
      ∃ b0 b1 b2 b3 b4 : Byte, windowBytes .vehicle w = [b0, b1, b2, b3, b4] ∧
        b0.toNat + 256 * b1.toNat + 65536 * b2.toNat + 16777216 * b3.toNat + 4294967296 * b4.toNat =
          w.left + 1024 * w.top + 524288 * w.width + 536870912 * w.height) ∧
  (∀ (r : Request) (payload : List Byte), r.fits .tablet = true → tabletPayload r = some payload →
    openPacket (packet (requestCode r) payload) = some (requestCode r, 0, payload) ∧
      intakeOf (requestCode r) 0 payload = .request r) ∧
  (∀ (r : Request) (data : List Byte), r.fits .vehicle = true → vehicleData r = some data →
    data.length ≤ 8 ∧ readRequestFrame data = r) ∧
  ∀ (n b row column : Nat) (attr : Byte) (codes : List Byte),
    (Request.textData n b row column attr codes).fits .vehicle = true →
    (textFrameData n b row column attr codes).length ≤ 8 ∧
      readTextFrame (textFrameData n b row column attr codes) = .textData n b row column attr codes
end

