-- ==== Sys2Proof/Laws/State.lean ====
section
/-! SUPPORT. What the named updates of the state leave as it was and what they set: one lemma for each field and update, by
`rfl`, so that no proof unfolds a record update. -/

namespace Sys2Proof.Machine

@[simp] theorem setPane_layout (s : State) (n : Nat) (p : Option Pane) : (s.setPane n p).layout = { s.layout with panes := s.layout.panes.set n p } := rfl
@[simp] theorem setPane_alloc (s : State) (n : Nat) (p : Option Pane) : (s.setPane n p).alloc = s.alloc := rfl
@[simp] theorem setPane_mem (s : State) (n : Nat) (p : Option Pane) : (s.setPane n p).mem = s.mem := rfl
@[simp] theorem setPane_scanOut (s : State) (n : Nat) (p : Option Pane) : (s.setPane n p).scanOut = s.scanOut := rfl
@[simp] theorem setPane_scanner (s : State) (n : Nat) (p : Option Pane) : (s.setPane n p).scanner = s.scanner := rfl
@[simp] theorem setPane_router (s : State) (n : Nat) (p : Option Pane) : (s.setPane n p).router = s.router := rfl
@[simp] theorem setPane_alerts (s : State) (n : Nat) (p : Option Pane) : (s.setPane n p).alerts = s.alerts := rfl
@[simp] theorem setPane_light (s : State) (n : Nat) (p : Option Pane) : (s.setPane n p).light = s.light := rfl
@[simp] theorem setPane_park (s : State) (n : Nat) (p : Option Pane) : (s.setPane n p).park = s.park := rfl
@[simp] theorem setPane_inputs (s : State) (n : Nat) (p : Option Pane) : (s.setPane n p).inputs = s.inputs := rfl
@[simp] theorem setPane_lines (s : State) (n : Nat) (p : Option Pane) : (s.setPane n p).lines = s.lines := rfl
@[simp] theorem setPane_dock (s : State) (n : Nat) (p : Option Pane) : (s.setPane n p).dock = s.dock := rfl
@[simp] theorem setPane_vehicle (s : State) (n : Nat) (p : Option Pane) : (s.setPane n p).vehicle = s.vehicle := rfl
@[simp] theorem setPane_now (s : State) (n : Nat) (p : Option Pane) : (s.setPane n p).now = s.now := rfl
@[simp] theorem setPane_freeCount (s : State) (n : Nat) (p : Option Pane) : (s.setPane n p).freeCount = s.freeCount := rfl
@[simp] theorem setPane_pending (s : State) (n : Nat) (p : Option Pane) : (s.setPane n p).pending = s.pending := rfl

@[simp] theorem setNextOrder_layout (s : State) (order : List Nat) : (s.setNextOrder order).layout = { s.layout with nextOrder := order } := rfl
@[simp] theorem setNextOrder_alloc (s : State) (order : List Nat) : (s.setNextOrder order).alloc = s.alloc := rfl
@[simp] theorem setNextOrder_mem (s : State) (order : List Nat) : (s.setNextOrder order).mem = s.mem := rfl
@[simp] theorem setNextOrder_scanOut (s : State) (order : List Nat) : (s.setNextOrder order).scanOut = s.scanOut := rfl
@[simp] theorem setNextOrder_scanner (s : State) (order : List Nat) : (s.setNextOrder order).scanner = s.scanner := rfl
@[simp] theorem setNextOrder_router (s : State) (order : List Nat) : (s.setNextOrder order).router = s.router := rfl
@[simp] theorem setNextOrder_alerts (s : State) (order : List Nat) : (s.setNextOrder order).alerts = s.alerts := rfl
@[simp] theorem setNextOrder_light (s : State) (order : List Nat) : (s.setNextOrder order).light = s.light := rfl
@[simp] theorem setNextOrder_park (s : State) (order : List Nat) : (s.setNextOrder order).park = s.park := rfl
@[simp] theorem setNextOrder_inputs (s : State) (order : List Nat) : (s.setNextOrder order).inputs = s.inputs := rfl
@[simp] theorem setNextOrder_lines (s : State) (order : List Nat) : (s.setNextOrder order).lines = s.lines := rfl
@[simp] theorem setNextOrder_dock (s : State) (order : List Nat) : (s.setNextOrder order).dock = s.dock := rfl
@[simp] theorem setNextOrder_vehicle (s : State) (order : List Nat) : (s.setNextOrder order).vehicle = s.vehicle := rfl
@[simp] theorem setNextOrder_now (s : State) (order : List Nat) : (s.setNextOrder order).now = s.now := rfl
@[simp] theorem setNextOrder_freeCount (s : State) (order : List Nat) : (s.setNextOrder order).freeCount = s.freeCount := rfl
@[simp] theorem setNextOrder_pending (s : State) (order : List Nat) : (s.setNextOrder order).pending = s.pending := rfl

@[simp] theorem setChannel_layout (s : State) (m : Master) (c : KeyChannel) : (s.setChannel m c).layout = s.layout := rfl
@[simp] theorem setChannel_alloc (s : State) (m : Master) (c : KeyChannel) : (s.setChannel m c).alloc = s.alloc := rfl
@[simp] theorem setChannel_mem (s : State) (m : Master) (c : KeyChannel) : (s.setChannel m c).mem = s.mem := rfl
@[simp] theorem setChannel_scanOut (s : State) (m : Master) (c : KeyChannel) : (s.setChannel m c).scanOut = s.scanOut := rfl
@[simp] theorem setChannel_scanner (s : State) (m : Master) (c : KeyChannel) : (s.setChannel m c).scanner = s.scanner := rfl
@[simp] theorem setChannel_router (s : State) (m : Master) (c : KeyChannel) : (s.setChannel m c).router = s.router.setChannel m c := rfl
@[simp] theorem setChannel_alerts (s : State) (m : Master) (c : KeyChannel) : (s.setChannel m c).alerts = s.alerts := rfl
@[simp] theorem setChannel_light (s : State) (m : Master) (c : KeyChannel) : (s.setChannel m c).light = s.light := rfl
@[simp] theorem setChannel_park (s : State) (m : Master) (c : KeyChannel) : (s.setChannel m c).park = s.park := rfl
@[simp] theorem setChannel_inputs (s : State) (m : Master) (c : KeyChannel) : (s.setChannel m c).inputs = s.inputs := rfl
@[simp] theorem setChannel_lines (s : State) (m : Master) (c : KeyChannel) : (s.setChannel m c).lines = s.lines := rfl
@[simp] theorem setChannel_dock (s : State) (m : Master) (c : KeyChannel) : (s.setChannel m c).dock = s.dock := rfl
@[simp] theorem setChannel_vehicle (s : State) (m : Master) (c : KeyChannel) : (s.setChannel m c).vehicle = s.vehicle := rfl
@[simp] theorem setChannel_now (s : State) (m : Master) (c : KeyChannel) : (s.setChannel m c).now = s.now := rfl
@[simp] theorem setChannel_freeCount (s : State) (m : Master) (c : KeyChannel) : (s.setChannel m c).freeCount = s.freeCount := rfl
@[simp] theorem setChannel_pending (s : State) (m : Master) (c : KeyChannel) : (s.setChannel m c).pending = s.pending := rfl

@[simp] theorem useFree_layout (s : State) : (s.useFree).layout = s.layout := rfl
@[simp] theorem useFree_alloc (s : State) : (s.useFree).alloc = s.alloc := rfl
@[simp] theorem useFree_mem (s : State) : (s.useFree).mem = s.mem := rfl
@[simp] theorem useFree_scanOut (s : State) : (s.useFree).scanOut = s.scanOut := rfl
@[simp] theorem useFree_scanner (s : State) : (s.useFree).scanner = s.scanner := rfl
@[simp] theorem useFree_router (s : State) : (s.useFree).router = s.router := rfl
@[simp] theorem useFree_alerts (s : State) : (s.useFree).alerts = s.alerts := rfl
@[simp] theorem useFree_light (s : State) : (s.useFree).light = s.light := rfl
@[simp] theorem useFree_park (s : State) : (s.useFree).park = s.park := rfl
@[simp] theorem useFree_inputs (s : State) : (s.useFree).inputs = s.inputs := rfl
@[simp] theorem useFree_lines (s : State) : (s.useFree).lines = s.lines := rfl
@[simp] theorem useFree_dock (s : State) : (s.useFree).dock = s.dock := rfl
@[simp] theorem useFree_vehicle (s : State) : (s.useFree).vehicle = s.vehicle := rfl
@[simp] theorem useFree_now (s : State) : (s.useFree).now = s.now := rfl
@[simp] theorem useFree_freeCount (s : State) : (s.useFree).freeCount = s.freeCount + 1 := rfl
@[simp] theorem useFree_pending (s : State) : (s.useFree).pending = s.pending := rfl

@[simp] theorem setInput_layout (s : State) (n : Nat) (i : DiscreteInput) : (s.setInput n i).layout = s.layout := rfl
@[simp] theorem setInput_alloc (s : State) (n : Nat) (i : DiscreteInput) : (s.setInput n i).alloc = s.alloc := rfl
@[simp] theorem setInput_mem (s : State) (n : Nat) (i : DiscreteInput) : (s.setInput n i).mem = s.mem := rfl
@[simp] theorem setInput_scanOut (s : State) (n : Nat) (i : DiscreteInput) : (s.setInput n i).scanOut = s.scanOut := rfl
@[simp] theorem setInput_scanner (s : State) (n : Nat) (i : DiscreteInput) : (s.setInput n i).scanner = s.scanner := rfl
@[simp] theorem setInput_router (s : State) (n : Nat) (i : DiscreteInput) : (s.setInput n i).router = s.router := rfl
@[simp] theorem setInput_alerts (s : State) (n : Nat) (i : DiscreteInput) : (s.setInput n i).alerts = s.alerts := rfl
@[simp] theorem setInput_light (s : State) (n : Nat) (i : DiscreteInput) : (s.setInput n i).light = s.light := rfl
@[simp] theorem setInput_park (s : State) (n : Nat) (i : DiscreteInput) : (s.setInput n i).park = s.park := rfl
@[simp] theorem setInput_inputs (s : State) (n : Nat) (i : DiscreteInput) : (s.setInput n i).inputs = s.inputs.set n i := rfl
@[simp] theorem setInput_lines (s : State) (n : Nat) (i : DiscreteInput) : (s.setInput n i).lines = s.lines := rfl
@[simp] theorem setInput_dock (s : State) (n : Nat) (i : DiscreteInput) : (s.setInput n i).dock = s.dock := rfl
@[simp] theorem setInput_vehicle (s : State) (n : Nat) (i : DiscreteInput) : (s.setInput n i).vehicle = s.vehicle := rfl
@[simp] theorem setInput_now (s : State) (n : Nat) (i : DiscreteInput) : (s.setInput n i).now = s.now := rfl
@[simp] theorem setInput_freeCount (s : State) (n : Nat) (i : DiscreteInput) : (s.setInput n i).freeCount = s.freeCount := rfl
@[simp] theorem setInput_pending (s : State) (n : Nat) (i : DiscreteInput) : (s.setInput n i).pending = s.pending := rfl

@[simp] theorem popRequest_tablet_layout (s : State) : (s.popRequest .tablet).layout = s.layout := rfl
@[simp] theorem popRequest_tablet_alloc (s : State) : (s.popRequest .tablet).alloc = s.alloc := rfl
@[simp] theorem popRequest_tablet_mem (s : State) : (s.popRequest .tablet).mem = s.mem := rfl
@[simp] theorem popRequest_tablet_scanOut (s : State) : (s.popRequest .tablet).scanOut = s.scanOut := rfl
@[simp] theorem popRequest_tablet_scanner (s : State) : (s.popRequest .tablet).scanner = s.scanner := rfl
@[simp] theorem popRequest_tablet_router (s : State) : (s.popRequest .tablet).router = s.router := rfl
@[simp] theorem popRequest_tablet_alerts (s : State) : (s.popRequest .tablet).alerts = s.alerts := rfl
@[simp] theorem popRequest_tablet_light (s : State) : (s.popRequest .tablet).light = s.light := rfl
@[simp] theorem popRequest_tablet_park (s : State) : (s.popRequest .tablet).park = s.park := rfl
@[simp] theorem popRequest_tablet_inputs (s : State) : (s.popRequest .tablet).inputs = s.inputs := rfl
@[simp] theorem popRequest_tablet_lines (s : State) : (s.popRequest .tablet).lines = s.lines := rfl
@[simp] theorem popRequest_tablet_dock (s : State) : (s.popRequest .tablet).dock = { s.dock with requests := s.dock.requests.tail } := rfl
@[simp] theorem popRequest_tablet_vehicle (s : State) : (s.popRequest .tablet).vehicle = s.vehicle := rfl
@[simp] theorem popRequest_tablet_now (s : State) : (s.popRequest .tablet).now = s.now := rfl
@[simp] theorem popRequest_tablet_freeCount (s : State) : (s.popRequest .tablet).freeCount = s.freeCount := rfl
@[simp] theorem popRequest_tablet_pending (s : State) : (s.popRequest .tablet).pending = s.pending := rfl

@[simp] theorem popRequest_vehicle_layout (s : State) : (s.popRequest .vehicle).layout = s.layout := rfl
@[simp] theorem popRequest_vehicle_alloc (s : State) : (s.popRequest .vehicle).alloc = s.alloc := rfl
@[simp] theorem popRequest_vehicle_mem (s : State) : (s.popRequest .vehicle).mem = s.mem := rfl
@[simp] theorem popRequest_vehicle_scanOut (s : State) : (s.popRequest .vehicle).scanOut = s.scanOut := rfl
@[simp] theorem popRequest_vehicle_scanner (s : State) : (s.popRequest .vehicle).scanner = s.scanner := rfl
@[simp] theorem popRequest_vehicle_router (s : State) : (s.popRequest .vehicle).router = s.router := rfl
@[simp] theorem popRequest_vehicle_alerts (s : State) : (s.popRequest .vehicle).alerts = s.alerts := rfl
@[simp] theorem popRequest_vehicle_light (s : State) : (s.popRequest .vehicle).light = s.light := rfl
@[simp] theorem popRequest_vehicle_park (s : State) : (s.popRequest .vehicle).park = s.park := rfl
@[simp] theorem popRequest_vehicle_inputs (s : State) : (s.popRequest .vehicle).inputs = s.inputs := rfl
@[simp] theorem popRequest_vehicle_lines (s : State) : (s.popRequest .vehicle).lines = s.lines := rfl
@[simp] theorem popRequest_vehicle_dock (s : State) : (s.popRequest .vehicle).dock = s.dock := rfl
@[simp] theorem popRequest_vehicle_vehicle (s : State) : (s.popRequest .vehicle).vehicle = { s.vehicle with requests := s.vehicle.requests.tail } := rfl
@[simp] theorem popRequest_vehicle_now (s : State) : (s.popRequest .vehicle).now = s.now := rfl
@[simp] theorem popRequest_vehicle_freeCount (s : State) : (s.popRequest .vehicle).freeCount = s.freeCount := rfl
@[simp] theorem popRequest_vehicle_pending (s : State) : (s.popRequest .vehicle).pending = s.pending := rfl

@[simp] theorem setChannel_tablet_tablet (r : Router) (c : KeyChannel) : (r.setChannel .tablet c).tablet = c := rfl
@[simp] theorem setChannel_tablet_vehicle (r : Router) (c : KeyChannel) : (r.setChannel .tablet c).vehicle = r.vehicle := rfl
@[simp] theorem setChannel_vehicle_tablet (r : Router) (c : KeyChannel) : (r.setChannel .vehicle c).tablet = r.tablet := rfl
@[simp] theorem setChannel_vehicle_vehicle (r : Router) (c : KeyChannel) : (r.setChannel .vehicle c).vehicle = c := rfl
@[simp] theorem router_setChannel_focus (r : Router) (m : Master) (c : KeyChannel) : (r.setChannel m c).focus = r.focus := by
  cases m <;> rfl
@[simp] theorem router_setChannel_hold (r : Router) (m : Master) (c : KeyChannel) : (r.setChannel m c).hold = r.hold := by
  cases m <;> rfl
@[simp] theorem router_setChannel_held (r : Router) (m : Master) (c : KeyChannel) : (r.setChannel m c).held = r.held := by
  cases m <;> rfl
@[simp] theorem router_setChannel_repeatKey (r : Router) (m : Master) (c : KeyChannel) : (r.setChannel m c).repeatKey = r.repeatKey := by
  cases m <;> rfl
@[simp] theorem channel_setChannel (r : Router) (m : Master) (c : KeyChannel) : (r.setChannel m c).channel m = c := by
  cases m <;> rfl
@[simp] theorem channel_tablet (r : Router) : r.channel .tablet = r.tablet := rfl
@[simp] theorem channel_vehicle (r : Router) : r.channel .vehicle = r.vehicle := rfl

@[simp] theorem popRequest_layout (s : State) (m : Master) : (s.popRequest m).layout = s.layout := by
  cases m <;> rfl
@[simp] theorem popRequest_alloc (s : State) (m : Master) : (s.popRequest m).alloc = s.alloc := by
  cases m <;> rfl
@[simp] theorem popRequest_mem (s : State) (m : Master) : (s.popRequest m).mem = s.mem := by
  cases m <;> rfl
@[simp] theorem popRequest_scanOut (s : State) (m : Master) : (s.popRequest m).scanOut = s.scanOut := by
  cases m <;> rfl
@[simp] theorem popRequest_scanner (s : State) (m : Master) : (s.popRequest m).scanner = s.scanner := by
  cases m <;> rfl
@[simp] theorem popRequest_router (s : State) (m : Master) : (s.popRequest m).router = s.router := by
  cases m <;> rfl
@[simp] theorem popRequest_alerts (s : State) (m : Master) : (s.popRequest m).alerts = s.alerts := by
  cases m <;> rfl
@[simp] theorem popRequest_light (s : State) (m : Master) : (s.popRequest m).light = s.light := by
  cases m <;> rfl
@[simp] theorem popRequest_park (s : State) (m : Master) : (s.popRequest m).park = s.park := by
  cases m <;> rfl
@[simp] theorem popRequest_inputs (s : State) (m : Master) : (s.popRequest m).inputs = s.inputs := by
  cases m <;> rfl
@[simp] theorem popRequest_lines (s : State) (m : Master) : (s.popRequest m).lines = s.lines := by
  cases m <;> rfl
@[simp] theorem popRequest_now (s : State) (m : Master) : (s.popRequest m).now = s.now := by
  cases m <;> rfl
@[simp] theorem popRequest_freeCount (s : State) (m : Master) : (s.popRequest m).freeCount = s.freeCount := by
  cases m <;> rfl
@[simp] theorem popRequest_pending (s : State) (m : Master) : (s.popRequest m).pending = s.pending := by
  cases m <;> rfl
@[simp] theorem popRequest_dock_link (s : State) (m : Master) : (s.popRequest m).dock.link = s.dock.link := by
  cases m <;> rfl
@[simp] theorem popRequest_dock_grace (s : State) (m : Master) : (s.popRequest m).dock.grace = s.dock.grace := by
  cases m <;> rfl
@[simp] theorem popRequest_dock_silence (s : State) (m : Master) : (s.popRequest m).dock.silence = s.dock.silence := by
  cases m <;> rfl
@[simp] theorem popRequest_dock_graceTimer (s : State) (m : Master) : (s.popRequest m).dock.graceTimer = s.dock.graceTimer := by
  cases m <;> rfl
@[simp] theorem popRequest_dock_send (s : State) (m : Master) : (s.popRequest m).dock.send = s.dock.send := by
  cases m <;> rfl
@[simp] theorem popRequest_dock_outbound (s : State) (m : Master) : (s.popRequest m).dock.outbound = s.dock.outbound := by
  cases m <;> rfl
@[simp] theorem popRequest_dock_bufferA (s : State) (m : Master) : (s.popRequest m).dock.bufferA = s.dock.bufferA := by
  cases m <;> rfl
@[simp] theorem popRequest_dock_bufferB (s : State) (m : Master) : (s.popRequest m).dock.bufferB = s.dock.bufferB := by
  cases m <;> rfl
@[simp] theorem popRequest_dock_nextBuffer (s : State) (m : Master) : (s.popRequest m).dock.nextBuffer = s.dock.nextBuffer := by
  cases m <;> rfl
@[simp] theorem popRequest_dock_stream (s : State) (m : Master) : (s.popRequest m).dock.stream = s.dock.stream := by
  cases m <;> rfl
@[simp] theorem popRequest_vehicle_base (s : State) (m : Master) : (s.popRequest m).vehicle.base = s.vehicle.base := by
  cases m <;> rfl
@[simp] theorem popRequest_vehicle_present (s : State) (m : Master) : (s.popRequest m).vehicle.present = s.vehicle.present := by
  cases m <;> rfl
@[simp] theorem popRequest_vehicle_silence (s : State) (m : Master) : (s.popRequest m).vehicle.silence = s.vehicle.silence := by
  cases m <;> rfl
@[simp] theorem popRequest_vehicle_outbound (s : State) (m : Master) : (s.popRequest m).vehicle.outbound = s.vehicle.outbound := by
  cases m <;> rfl
@[simp] theorem popRequest_vehicle_restartDone (s : State) (m : Master) : (s.popRequest m).vehicle.restartDone = s.vehicle.restartDone := by
  cases m <;> rfl
@[simp] theorem setWrite_cells (m : SurfaceMemory) (who : Master) (w : Option ActiveWrite) : (m.setWrite who w).cells = m.cells := by
  cases who <;> rfl
@[simp] theorem setWrite_fills (m : SurfaceMemory) (who : Master) (w : Option ActiveWrite) : (m.setWrite who w).fills = m.fills := by
  cases who <;> rfl
@[simp] theorem setWrite_rowWrites (m : SurfaceMemory) (who : Master) (w : Option ActiveWrite) : (m.setWrite who w).rowWrites = m.rowWrites := by
  cases who <;> rfl
@[simp] theorem setWrite_turn (m : SurfaceMemory) (who : Master) (w : Option ActiveWrite) : (m.setWrite who w).turn = m.turn := by
  cases who <;> rfl
@[simp] theorem setWrite_textTurn (m : SurfaceMemory) (who : Master) (w : Option ActiveWrite) : (m.setWrite who w).textTurn = m.textTurn := by
  cases who <;> rfl
@[simp] theorem setRx_link (d : DockPort) (n : BufferName) (b : RxBuffer) : (d.setRx n b).link = d.link := by
  cases n <;> rfl
@[simp] theorem setRx_grace (d : DockPort) (n : BufferName) (b : RxBuffer) : (d.setRx n b).grace = d.grace := by
  cases n <;> rfl
@[simp] theorem setRx_silence (d : DockPort) (n : BufferName) (b : RxBuffer) : (d.setRx n b).silence = d.silence := by
  cases n <;> rfl
@[simp] theorem setRx_graceTimer (d : DockPort) (n : BufferName) (b : RxBuffer) : (d.setRx n b).graceTimer = d.graceTimer := by
  cases n <;> rfl
@[simp] theorem setRx_send (d : DockPort) (n : BufferName) (b : RxBuffer) : (d.setRx n b).send = d.send := by
  cases n <;> rfl
@[simp] theorem setRx_requests (d : DockPort) (n : BufferName) (b : RxBuffer) : (d.setRx n b).requests = d.requests := by
  cases n <;> rfl
@[simp] theorem setRx_outbound (d : DockPort) (n : BufferName) (b : RxBuffer) : (d.setRx n b).outbound = d.outbound := by
  cases n <;> rfl
@[simp] theorem setRx_nextBuffer (d : DockPort) (n : BufferName) (b : RxBuffer) : (d.setRx n b).nextBuffer = d.nextBuffer := by
  cases n <;> rfl
@[simp] theorem setRx_stream (d : DockPort) (n : BufferName) (b : RxBuffer) : (d.setRx n b).stream = d.stream := by
  cases n <;> rfl

end Sys2Proof.Machine
end

