-- ==== Sys2Proof/Laws/Frames.lean ====
section
/-! SUPPORT. What each shared operation leaves as it was: one frame lemma for each operation, naming every field of the state
that the operation never writes, so that no later proof unfolds the operation to learn it. -/

set_option linter.unusedTactic false
set_option linter.unreachableTactic false
set_option linter.unusedSimpArgs false

namespace Sys2Proof.Machine

/-- What every step of a fold leaves as it was, the fold leaves as it was. -/
theorem foldl_same {σ α γ : Type} (g : σ → γ) (f : σ → α → σ) (h : ∀ s a, g (f s a) = g s) (l : List α) (s : σ) :
    g (l.foldl f s) = g s := by
  induction l generalizing s with
  | nil => rfl
  | cons a l ih => rw [List.foldl_cons, ih, h]

@[simp] theorem handTablet_frame (msg : Message) (s : State) :
    (handTablet msg s).layout = s.layout ∧ (handTablet msg s).alloc = s.alloc ∧ (handTablet msg s).mem = s.mem ∧
    (handTablet msg s).scanOut = s.scanOut ∧ (handTablet msg s).scanner = s.scanner ∧
    (handTablet msg s).router = s.router ∧ (handTablet msg s).alerts = s.alerts ∧
    (handTablet msg s).light = s.light ∧ (handTablet msg s).park = s.park ∧ (handTablet msg s).inputs = s.inputs ∧
    (handTablet msg s).lines = s.lines ∧ (handTablet msg s).vehicle = s.vehicle ∧ (handTablet msg s).now = s.now ∧
    (handTablet msg s).freeCount = s.freeCount ∧ (handTablet msg s).pending = s.pending ∧
    (handTablet msg s).dock.link = s.dock.link ∧ (handTablet msg s).dock.requests = s.dock.requests ∧
    (handTablet msg s).dock.bufferA = s.dock.bufferA ∧ (handTablet msg s).dock.bufferB = s.dock.bufferB ∧
    (handTablet msg s).dock.nextBuffer = s.dock.nextBuffer ∧ (handTablet msg s).dock.stream = s.dock.stream := by
  unfold handTablet; (try dsimp only); repeat' (first | (simp; done) | rfl | split)

@[simp] theorem handVehicle_frame (msg : Message) (s : State) :
    (handVehicle msg s).layout = s.layout ∧ (handVehicle msg s).alloc = s.alloc ∧ (handVehicle msg s).mem = s.mem ∧
    (handVehicle msg s).scanOut = s.scanOut ∧ (handVehicle msg s).scanner = s.scanner ∧
    (handVehicle msg s).router = s.router ∧ (handVehicle msg s).alerts = s.alerts ∧
    (handVehicle msg s).light = s.light ∧ (handVehicle msg s).park = s.park ∧
    (handVehicle msg s).inputs = s.inputs ∧ (handVehicle msg s).lines = s.lines ∧
    (handVehicle msg s).dock = s.dock ∧ (handVehicle msg s).now = s.now ∧
    (handVehicle msg s).freeCount = s.freeCount ∧ (handVehicle msg s).pending = s.pending ∧
    (handVehicle msg s).vehicle.present = s.vehicle.present ∧
    (handVehicle msg s).vehicle.requests = s.vehicle.requests ∧ (handVehicle msg s).vehicle.base = s.vehicle.base := by
  unfold handVehicle; (try dsimp only); repeat' (first | (simp; done) | rfl | split)

@[simp] theorem rewriteField_frame (f : RowField) (x y : RowText) (s : State) :
    (rewriteField f x y s).layout = s.layout ∧ (rewriteField f x y s).alloc = s.alloc ∧
    (rewriteField f x y s).scanOut = s.scanOut ∧ (rewriteField f x y s).scanner = s.scanner ∧
    (rewriteField f x y s).router = s.router ∧ (rewriteField f x y s).alerts = s.alerts ∧
    (rewriteField f x y s).light = s.light ∧ (rewriteField f x y s).park = s.park ∧
    (rewriteField f x y s).inputs = s.inputs ∧ (rewriteField f x y s).lines = s.lines ∧
    (rewriteField f x y s).dock = s.dock ∧ (rewriteField f x y s).vehicle = s.vehicle ∧
    (rewriteField f x y s).now = s.now ∧ (rewriteField f x y s).freeCount = s.freeCount ∧
    (rewriteField f x y s).pending = s.pending ∧ (rewriteField f x y s).mem.cells = s.mem.cells ∧
    (rewriteField f x y s).mem.fills = s.mem.fills ∧ (rewriteField f x y s).mem.tabletWrite = s.mem.tabletWrite ∧
    (rewriteField f x y s).mem.vehicleWrite = s.mem.vehicleWrite := by
  unfold rewriteField; (try dsimp only); repeat' (first | (simp; done) | rfl | split)

@[simp] theorem appendEvent_frame (m : Master) (c : Nat) (k : KeyKind) (s : State) :
    (appendEvent m c k s).layout = s.layout ∧ (appendEvent m c k s).alloc = s.alloc ∧
    (appendEvent m c k s).mem = s.mem ∧ (appendEvent m c k s).scanOut = s.scanOut ∧
    (appendEvent m c k s).scanner = s.scanner ∧ (appendEvent m c k s).alerts = s.alerts ∧
    (appendEvent m c k s).light = s.light ∧ (appendEvent m c k s).park = s.park ∧
    (appendEvent m c k s).inputs = s.inputs ∧ (appendEvent m c k s).lines = s.lines ∧
    (appendEvent m c k s).dock = s.dock ∧ (appendEvent m c k s).vehicle = s.vehicle ∧
    (appendEvent m c k s).now = s.now ∧ (appendEvent m c k s).freeCount = s.freeCount ∧
    (appendEvent m c k s).pending = s.pending ∧ (appendEvent m c k s).router.focus = s.router.focus ∧
    (appendEvent m c k s).router.hold = s.router.hold ∧ (appendEvent m c k s).router.held = s.router.held := by
  unfold appendEvent; (try dsimp only); repeat' (first | (simp; done) | rfl | split)

@[simp] theorem startWrite_frame (m : Master) (p : Pane) (j : WriteJob) (s : State) :
    (startWrite m p j s).layout = s.layout ∧ (startWrite m p j s).alloc = s.alloc ∧
    (startWrite m p j s).scanOut = s.scanOut ∧ (startWrite m p j s).scanner = s.scanner ∧
    (startWrite m p j s).router = s.router ∧ (startWrite m p j s).alerts = s.alerts ∧
    (startWrite m p j s).light = s.light ∧ (startWrite m p j s).park = s.park ∧
    (startWrite m p j s).inputs = s.inputs ∧ (startWrite m p j s).lines = s.lines ∧
    (startWrite m p j s).dock = s.dock ∧ (startWrite m p j s).vehicle = s.vehicle ∧
    (startWrite m p j s).now = s.now ∧ (startWrite m p j s).freeCount = s.freeCount ∧
    (startWrite m p j s).pending = s.pending ∧ (startWrite m p j s).mem.cells = s.mem.cells ∧
    (startWrite m p j s).mem.fills = s.mem.fills := by
  unfold startWrite; (try dsimp only); repeat' (first | (simp; done) | rfl | split)

@[simp] theorem cutFill_frame (e : FillEntry) (s : State) :
    (cutFill e s).layout = s.layout ∧ (cutFill e s).alloc = s.alloc ∧ (cutFill e s).scanOut = s.scanOut ∧
    (cutFill e s).scanner = s.scanner ∧ (cutFill e s).router = s.router ∧ (cutFill e s).alerts = s.alerts ∧
    (cutFill e s).light = s.light ∧ (cutFill e s).park = s.park ∧ (cutFill e s).inputs = s.inputs ∧
    (cutFill e s).lines = s.lines ∧ (cutFill e s).dock = s.dock ∧ (cutFill e s).vehicle = s.vehicle ∧
    (cutFill e s).now = s.now ∧ (cutFill e s).pending = s.pending ∧ (cutFill e s).mem.fills = s.mem.fills ∧
    (cutFill e s).mem.tabletWrite = s.mem.tabletWrite ∧ (cutFill e s).mem.vehicleWrite = s.mem.vehicleWrite := by
  unfold cutFill; (try dsimp only); repeat' (first | (simp; done) | rfl | split)

@[simp] theorem cutJob_frame (j : ActiveWrite) (s : State) :
    (cutJob j s).layout = s.layout ∧ (cutJob j s).alloc = s.alloc ∧ (cutJob j s).scanOut = s.scanOut ∧
    (cutJob j s).scanner = s.scanner ∧ (cutJob j s).router = s.router ∧ (cutJob j s).alerts = s.alerts ∧
    (cutJob j s).light = s.light ∧ (cutJob j s).park = s.park ∧ (cutJob j s).inputs = s.inputs ∧
    (cutJob j s).lines = s.lines ∧ (cutJob j s).dock = s.dock ∧ (cutJob j s).vehicle = s.vehicle ∧
    (cutJob j s).now = s.now ∧ (cutJob j s).pending = s.pending ∧ (cutJob j s).mem.fills = s.mem.fills ∧
    (cutJob j s).mem.tabletWrite = s.mem.tabletWrite ∧ (cutJob j s).mem.vehicleWrite = s.mem.vehicleWrite := by
  unfold cutJob; (try dsimp only); repeat' (first | (simp; done) | rfl | split)

@[simp] theorem cutRowWrite_frame (w : RowWrite) (s : State) :
    (cutRowWrite w s).layout = s.layout ∧ (cutRowWrite w s).alloc = s.alloc ∧
    (cutRowWrite w s).scanOut = s.scanOut ∧ (cutRowWrite w s).scanner = s.scanner ∧
    (cutRowWrite w s).router = s.router ∧ (cutRowWrite w s).alerts = s.alerts ∧ (cutRowWrite w s).light = s.light ∧
    (cutRowWrite w s).park = s.park ∧ (cutRowWrite w s).inputs = s.inputs ∧ (cutRowWrite w s).lines = s.lines ∧
    (cutRowWrite w s).dock = s.dock ∧ (cutRowWrite w s).vehicle = s.vehicle ∧ (cutRowWrite w s).now = s.now ∧
    (cutRowWrite w s).pending = s.pending ∧ (cutRowWrite w s).mem.fills = s.mem.fills ∧
    (cutRowWrite w s).mem.tabletWrite = s.mem.tabletWrite ∧ (cutRowWrite w s).mem.vehicleWrite = s.mem.vehicleWrite := by
  unfold cutRowWrite; (try dsimp only); repeat' (first | (simp; done) | rfl | split)

@[simp] theorem cutDrain_frame  (s : State) :
    (cutDrain s).layout = s.layout ∧ (cutDrain s).alloc = s.alloc ∧ (cutDrain s).scanOut = s.scanOut ∧
    (cutDrain s).scanner = s.scanner ∧ (cutDrain s).router = s.router ∧ (cutDrain s).alerts = s.alerts ∧
    (cutDrain s).light = s.light ∧ (cutDrain s).park = s.park ∧ (cutDrain s).inputs = s.inputs ∧
    (cutDrain s).lines = s.lines ∧ (cutDrain s).dock = s.dock ∧ (cutDrain s).vehicle = s.vehicle ∧
    (cutDrain s).now = s.now ∧ (cutDrain s).pending = s.pending ∧ (cutDrain s).mem.fills = s.mem.fills ∧
    (cutDrain s).mem.tabletWrite = s.mem.tabletWrite ∧ (cutDrain s).mem.vehicleWrite = s.mem.vehicleWrite := by
  unfold cutDrain; (try dsimp only); repeat' (first | (simp; done) | rfl | split)

@[simp] theorem setAlertLed_frame (b : Bool) (s : State) :
    (setAlertLed b s).layout = s.layout ∧ (setAlertLed b s).alloc = s.alloc ∧ (setAlertLed b s).mem = s.mem ∧
    (setAlertLed b s).scanOut = s.scanOut ∧ (setAlertLed b s).scanner = s.scanner ∧
    (setAlertLed b s).router = s.router ∧ (setAlertLed b s).alerts = s.alerts ∧ (setAlertLed b s).light = s.light ∧
    (setAlertLed b s).park = s.park ∧ (setAlertLed b s).inputs = s.inputs ∧ (setAlertLed b s).dock = s.dock ∧
    (setAlertLed b s).vehicle = s.vehicle ∧ (setAlertLed b s).now = s.now ∧
    (setAlertLed b s).freeCount = s.freeCount ∧ (setAlertLed b s).pending = s.pending ∧
    (setAlertLed b s).lines.ledTimer = s.lines.ledTimer := by
  unfold setAlertLed; (try dsimp only); repeat' (first | (simp; done) | rfl | split)

@[simp] theorem dropSaved_frame (n : Nat) (s : State) :
    (dropSaved n s).layout = s.layout ∧ (dropSaved n s).alloc = s.alloc ∧ (dropSaved n s).mem = s.mem ∧
    (dropSaved n s).scanOut = s.scanOut ∧ (dropSaved n s).scanner = s.scanner ∧ (dropSaved n s).router = s.router ∧
    (dropSaved n s).light = s.light ∧ (dropSaved n s).park = s.park ∧ (dropSaved n s).inputs = s.inputs ∧
    (dropSaved n s).lines = s.lines ∧ (dropSaved n s).dock = s.dock ∧ (dropSaved n s).vehicle = s.vehicle ∧
    (dropSaved n s).now = s.now ∧ (dropSaved n s).freeCount = s.freeCount ∧ (dropSaved n s).pending = s.pending ∧
    (dropSaved n s).alerts.stack = s.alerts.stack := by
  unfold dropSaved; (try dsimp only); repeat' (first | (simp; done) | rfl | split)

@[simp] theorem dropSavedOf_frame (o : Owner) (s : State) :
    (dropSavedOf o s).layout = s.layout ∧ (dropSavedOf o s).alloc = s.alloc ∧ (dropSavedOf o s).mem = s.mem ∧
    (dropSavedOf o s).scanOut = s.scanOut ∧ (dropSavedOf o s).scanner = s.scanner ∧
    (dropSavedOf o s).router = s.router ∧ (dropSavedOf o s).light = s.light ∧ (dropSavedOf o s).park = s.park ∧
    (dropSavedOf o s).inputs = s.inputs ∧ (dropSavedOf o s).lines = s.lines ∧ (dropSavedOf o s).dock = s.dock ∧
    (dropSavedOf o s).vehicle = s.vehicle ∧ (dropSavedOf o s).now = s.now ∧
    (dropSavedOf o s).freeCount = s.freeCount ∧ (dropSavedOf o s).pending = s.pending ∧
    (dropSavedOf o s).alerts.stack = s.alerts.stack := by
  unfold dropSavedOf; (try dsimp only); repeat' (first | (simp; done) | rfl | split)

@[simp] theorem holdKey_frame (c : Nat) (t : Option Owner) (s : State) :
    (holdKey c t s).layout = s.layout ∧ (holdKey c t s).alloc = s.alloc ∧ (holdKey c t s).mem = s.mem ∧
    (holdKey c t s).scanOut = s.scanOut ∧ (holdKey c t s).scanner = s.scanner ∧ (holdKey c t s).alerts = s.alerts ∧
    (holdKey c t s).light = s.light ∧ (holdKey c t s).park = s.park ∧ (holdKey c t s).inputs = s.inputs ∧
    (holdKey c t s).lines = s.lines ∧ (holdKey c t s).dock = s.dock ∧ (holdKey c t s).vehicle = s.vehicle ∧
    (holdKey c t s).now = s.now ∧ (holdKey c t s).freeCount = s.freeCount ∧ (holdKey c t s).pending = s.pending ∧
    (holdKey c t s).router.focus = s.router.focus ∧ (holdKey c t s).router.hold = s.router.hold ∧
    (holdKey c t s).router.tablet = s.router.tablet ∧ (holdKey c t s).router.vehicle = s.router.vehicle := by
  unfold holdKey; (try dsimp only); repeat' (first | (simp; done) | rfl | split)

@[simp] theorem stopRepeat_frame  (s : State) :
    (stopRepeat s).layout = s.layout ∧ (stopRepeat s).alloc = s.alloc ∧ (stopRepeat s).mem = s.mem ∧
    (stopRepeat s).scanOut = s.scanOut ∧ (stopRepeat s).scanner = s.scanner ∧ (stopRepeat s).alerts = s.alerts ∧
    (stopRepeat s).light = s.light ∧ (stopRepeat s).park = s.park ∧ (stopRepeat s).inputs = s.inputs ∧
    (stopRepeat s).lines = s.lines ∧ (stopRepeat s).dock = s.dock ∧ (stopRepeat s).vehicle = s.vehicle ∧
    (stopRepeat s).now = s.now ∧ (stopRepeat s).freeCount = s.freeCount ∧ (stopRepeat s).pending = s.pending ∧
    (stopRepeat s).router.focus = s.router.focus ∧ (stopRepeat s).router.hold = s.router.hold ∧
    (stopRepeat s).router.held = s.router.held ∧ (stopRepeat s).router.tablet = s.router.tablet ∧
    (stopRepeat s).router.vehicle = s.router.vehicle := by
  unfold stopRepeat; (try dsimp only); repeat' (first | (simp; done) | rfl | split)

@[simp] theorem startScan_frame  (s : State) :
    (startScan s).layout = s.layout ∧ (startScan s).alloc = s.alloc ∧ (startScan s).mem = s.mem ∧
    (startScan s).scanOut = s.scanOut ∧ (startScan s).scanner = s.scanner ∧ (startScan s).router = s.router ∧
    (startScan s).alerts = s.alerts ∧ (startScan s).park = s.park ∧ (startScan s).inputs = s.inputs ∧
    (startScan s).lines = s.lines ∧ (startScan s).dock = s.dock ∧ (startScan s).vehicle = s.vehicle ∧
    (startScan s).now = s.now ∧ (startScan s).freeCount = s.freeCount ∧ (startScan s).pending = s.pending ∧
    (startScan s).light.target = s.light.target ∧ (startScan s).light.applied = s.light.applied ∧
    (startScan s).light.parked = s.light.parked := by
  unfold startScan; (try dsimp only); repeat' (first | (simp; done) | rfl | split)

@[simp] theorem toRun_frame  (s : State) :
    (toRun s).layout = s.layout ∧ (toRun s).alloc = s.alloc ∧ (toRun s).mem = s.mem ∧
    (toRun s).scanOut = s.scanOut ∧ (toRun s).scanner = s.scanner ∧ (toRun s).router = s.router ∧
    (toRun s).alerts = s.alerts ∧ (toRun s).light = s.light ∧ (toRun s).inputs = s.inputs ∧
    (toRun s).lines = s.lines ∧ (toRun s).dock = s.dock ∧ (toRun s).vehicle = s.vehicle ∧ (toRun s).now = s.now ∧
    (toRun s).freeCount = s.freeCount ∧ (toRun s).pending = s.pending := by
  unfold toRun; (try dsimp only); repeat' (first | (simp; done) | rfl | split)

@[simp] theorem restartCountdown_frame  (s : State) :
    (restartCountdown s).layout = s.layout ∧ (restartCountdown s).alloc = s.alloc ∧
    (restartCountdown s).mem = s.mem ∧ (restartCountdown s).scanOut = s.scanOut ∧
    (restartCountdown s).scanner = s.scanner ∧ (restartCountdown s).router = s.router ∧
    (restartCountdown s).alerts = s.alerts ∧ (restartCountdown s).light = s.light ∧
    (restartCountdown s).inputs = s.inputs ∧ (restartCountdown s).lines = s.lines ∧
    (restartCountdown s).dock = s.dock ∧ (restartCountdown s).vehicle = s.vehicle ∧
    (restartCountdown s).now = s.now ∧ (restartCountdown s).freeCount = s.freeCount ∧
    (restartCountdown s).pending = s.pending ∧ (restartCountdown s).park.state = s.park.state := by
  unfold restartCountdown; (try dsimp only); repeat' (first | (simp; done) | rfl | split)

@[simp] theorem beginCountdown_frame (n : Nat) (s : State) :
    (beginCountdown n s).layout = s.layout ∧ (beginCountdown n s).alloc = s.alloc ∧
    (beginCountdown n s).mem = s.mem ∧ (beginCountdown n s).scanOut = s.scanOut ∧
    (beginCountdown n s).scanner = s.scanner ∧ (beginCountdown n s).router = s.router ∧
    (beginCountdown n s).alerts = s.alerts ∧ (beginCountdown n s).light = s.light ∧
    (beginCountdown n s).inputs = s.inputs ∧ (beginCountdown n s).lines = s.lines ∧
    (beginCountdown n s).dock = s.dock ∧ (beginCountdown n s).vehicle = s.vehicle ∧
    (beginCountdown n s).now = s.now ∧ (beginCountdown n s).freeCount = s.freeCount ∧
    (beginCountdown n s).pending = s.pending := by
  unfold beginCountdown; (try dsimp only); repeat' (first | (simp; done) | rfl | split)

@[simp] theorem setLinkLed_frame (b : Bool) (s : State) :
    (setLinkLed b s).layout = s.layout ∧ (setLinkLed b s).alloc = s.alloc ∧ (setLinkLed b s).mem = s.mem ∧
    (setLinkLed b s).scanOut = s.scanOut ∧ (setLinkLed b s).scanner = s.scanner ∧
    (setLinkLed b s).router = s.router ∧ (setLinkLed b s).alerts = s.alerts ∧ (setLinkLed b s).light = s.light ∧
    (setLinkLed b s).park = s.park ∧ (setLinkLed b s).inputs = s.inputs ∧ (setLinkLed b s).dock = s.dock ∧
    (setLinkLed b s).vehicle = s.vehicle ∧ (setLinkLed b s).now = s.now ∧
    (setLinkLed b s).freeCount = s.freeCount ∧ (setLinkLed b s).pending = s.pending ∧
    (setLinkLed b s).lines.ledTimer = s.lines.ledTimer := by
  unfold setLinkLed; (try dsimp only); repeat' (first | (simp; done) | rfl | split)

@[simp] theorem setLedTimer_frame (t : Option Nat) (s : State) :
    (setLedTimer t s).layout = s.layout ∧ (setLedTimer t s).alloc = s.alloc ∧ (setLedTimer t s).mem = s.mem ∧
    (setLedTimer t s).scanOut = s.scanOut ∧ (setLedTimer t s).scanner = s.scanner ∧
    (setLedTimer t s).router = s.router ∧ (setLedTimer t s).alerts = s.alerts ∧ (setLedTimer t s).light = s.light ∧
    (setLedTimer t s).park = s.park ∧ (setLedTimer t s).inputs = s.inputs ∧ (setLedTimer t s).dock = s.dock ∧
    (setLedTimer t s).vehicle = s.vehicle ∧ (setLedTimer t s).now = s.now ∧
    (setLedTimer t s).freeCount = s.freeCount ∧ (setLedTimer t s).pending = s.pending := by
  unfold setLedTimer; (try dsimp only); repeat' (first | (simp; done) | rfl | split)

@[simp] theorem releaseTabletLines_frame  (s : State) :
    (releaseTabletLines s).layout = s.layout ∧ (releaseTabletLines s).alloc = s.alloc ∧
    (releaseTabletLines s).mem = s.mem ∧ (releaseTabletLines s).scanOut = s.scanOut ∧
    (releaseTabletLines s).scanner = s.scanner ∧ (releaseTabletLines s).router = s.router ∧
    (releaseTabletLines s).alerts = s.alerts ∧ (releaseTabletLines s).light = s.light ∧
    (releaseTabletLines s).park = s.park ∧ (releaseTabletLines s).inputs = s.inputs ∧
    (releaseTabletLines s).dock = s.dock ∧ (releaseTabletLines s).vehicle = s.vehicle ∧
    (releaseTabletLines s).now = s.now ∧ (releaseTabletLines s).freeCount = s.freeCount ∧
    (releaseTabletLines s).pending = s.pending ∧ (releaseTabletLines s).lines.ledTimer = s.lines.ledTimer := by
  unfold releaseTabletLines; (try dsimp only); repeat' (first | (simp; done) | rfl | split)

@[simp] theorem setRestartDone_frame (n : Nat) (s : State) :
    (setRestartDone n s).layout = s.layout ∧ (setRestartDone n s).alloc = s.alloc ∧
    (setRestartDone n s).mem = s.mem ∧ (setRestartDone n s).scanOut = s.scanOut ∧
    (setRestartDone n s).scanner = s.scanner ∧ (setRestartDone n s).router = s.router ∧
    (setRestartDone n s).alerts = s.alerts ∧ (setRestartDone n s).light = s.light ∧
    (setRestartDone n s).park = s.park ∧ (setRestartDone n s).inputs = s.inputs ∧
    (setRestartDone n s).lines = s.lines ∧ (setRestartDone n s).dock = s.dock ∧ (setRestartDone n s).now = s.now ∧
    (setRestartDone n s).freeCount = s.freeCount ∧ (setRestartDone n s).pending = s.pending ∧
    (setRestartDone n s).vehicle.present = s.vehicle.present ∧
    (setRestartDone n s).vehicle.requests = s.vehicle.requests ∧
    (setRestartDone n s).vehicle.outbound = s.vehicle.outbound ∧ (setRestartDone n s).vehicle.base = s.vehicle.base := by
  unfold setRestartDone; (try dsimp only); repeat' (first | (simp; done) | rfl | split)

@[simp] theorem freeRun_frame (o : Owner) (r : Run) (s : State) :
    (freeRun o r s).layout = s.layout ∧ (freeRun o r s).mem = s.mem ∧ (freeRun o r s).scanOut = s.scanOut ∧
    (freeRun o r s).scanner = s.scanner ∧ (freeRun o r s).router = s.router ∧ (freeRun o r s).alerts = s.alerts ∧
    (freeRun o r s).light = s.light ∧ (freeRun o r s).park = s.park ∧ (freeRun o r s).inputs = s.inputs ∧
    (freeRun o r s).lines = s.lines ∧ (freeRun o r s).dock = s.dock ∧ (freeRun o r s).vehicle = s.vehicle ∧
    (freeRun o r s).now = s.now ∧ (freeRun o r s).freeCount = s.freeCount ∧ (freeRun o r s).pending = s.pending := by
  unfold freeRun; (try dsimp only); repeat' (first | (simp; done) | rfl | split)

@[simp] theorem takeClaim_frame (n : Nat) (p : Pane) (s : State) :
    (takeClaim n p s).scanOut = s.scanOut ∧ (takeClaim n p s).scanner = s.scanner ∧
    (takeClaim n p s).router = s.router ∧ (takeClaim n p s).alerts = s.alerts ∧ (takeClaim n p s).light = s.light ∧
    (takeClaim n p s).park = s.park ∧ (takeClaim n p s).inputs = s.inputs ∧ (takeClaim n p s).lines = s.lines ∧
    (takeClaim n p s).dock = s.dock ∧ (takeClaim n p s).vehicle = s.vehicle ∧ (takeClaim n p s).now = s.now ∧
    (takeClaim n p s).freeCount = s.freeCount ∧ (takeClaim n p s).pending = s.pending ∧
    (takeClaim n p s).layout.current = s.layout.current ∧ (takeClaim n p s).layout.nextOrder = s.layout.nextOrder ∧
    (takeClaim n p s).layout.ready = s.layout.ready ∧ (takeClaim n p s).layout.frame = s.layout.frame ∧
    (takeClaim n p s).mem.cells = s.mem.cells ∧ (takeClaim n p s).mem.tabletWrite = s.mem.tabletWrite ∧
    (takeClaim n p s).mem.vehicleWrite = s.mem.vehicleWrite := by
  unfold takeClaim; (try dsimp only); repeat' (first | (simp; done) | rfl | split)

@[simp] theorem stage_frame (n : Nat) (p : Pane) (q : PendingPart) (s : State) :
    (stage n p q s).alloc = s.alloc ∧ (stage n p q s).mem = s.mem ∧ (stage n p q s).scanOut = s.scanOut ∧
    (stage n p q s).scanner = s.scanner ∧ (stage n p q s).router = s.router ∧ (stage n p q s).alerts = s.alerts ∧
    (stage n p q s).light = s.light ∧ (stage n p q s).park = s.park ∧ (stage n p q s).inputs = s.inputs ∧
    (stage n p q s).lines = s.lines ∧ (stage n p q s).dock = s.dock ∧ (stage n p q s).vehicle = s.vehicle ∧
    (stage n p q s).now = s.now ∧ (stage n p q s).freeCount = s.freeCount ∧ (stage n p q s).pending = s.pending ∧
    (stage n p q s).layout.current = s.layout.current ∧ (stage n p q s).layout.nextOrder = s.layout.nextOrder ∧
    (stage n p q s).layout.ready = s.layout.ready ∧ (stage n p q s).layout.frame = s.layout.frame := by
  unfold stage; (try dsimp only); repeat' (first | (simp; done) | rfl | split)

@[simp] theorem closePane_frame (n : Nat) (p : Pane) (s : State) :
    (closePane n p s).alloc = s.alloc ∧ (closePane n p s).mem = s.mem ∧ (closePane n p s).scanOut = s.scanOut ∧
    (closePane n p s).scanner = s.scanner ∧ (closePane n p s).router = s.router ∧
    (closePane n p s).alerts = s.alerts ∧ (closePane n p s).light = s.light ∧ (closePane n p s).park = s.park ∧
    (closePane n p s).inputs = s.inputs ∧ (closePane n p s).lines = s.lines ∧ (closePane n p s).dock = s.dock ∧
    (closePane n p s).vehicle = s.vehicle ∧ (closePane n p s).now = s.now ∧
    (closePane n p s).freeCount = s.freeCount ∧ (closePane n p s).pending = s.pending ∧
    (closePane n p s).layout.current = s.layout.current ∧ (closePane n p s).layout.ready = s.layout.ready ∧
    (closePane n p s).layout.frame = s.layout.frame := by
  unfold closePane; (try dsimp only); repeat' (first | (simp; done) | rfl | split)

@[simp] theorem enqueueTablet_frame (r : Request) (s : State) :
    (enqueueTablet r s).layout = s.layout ∧ (enqueueTablet r s).alloc = s.alloc ∧ (enqueueTablet r s).mem = s.mem ∧
    (enqueueTablet r s).scanOut = s.scanOut ∧ (enqueueTablet r s).scanner = s.scanner ∧
    (enqueueTablet r s).router = s.router ∧ (enqueueTablet r s).alerts = s.alerts ∧
    (enqueueTablet r s).light = s.light ∧ (enqueueTablet r s).park = s.park ∧
    (enqueueTablet r s).inputs = s.inputs ∧ (enqueueTablet r s).lines = s.lines ∧
    (enqueueTablet r s).vehicle = s.vehicle ∧ (enqueueTablet r s).now = s.now ∧
    (enqueueTablet r s).freeCount = s.freeCount ∧ (enqueueTablet r s).pending = s.pending ∧
    (enqueueTablet r s).dock.link = s.dock.link ∧ (enqueueTablet r s).dock.outbound = s.dock.outbound ∧
    (enqueueTablet r s).dock.bufferA = s.dock.bufferA ∧ (enqueueTablet r s).dock.bufferB = s.dock.bufferB ∧
    (enqueueTablet r s).dock.nextBuffer = s.dock.nextBuffer ∧ (enqueueTablet r s).dock.stream = s.dock.stream := by
  unfold enqueueTablet; (try dsimp only); repeat' (first | (simp; done) | rfl | split)

@[simp] theorem enqueueVehicle_frame (r : Request) (s : State) :
    (enqueueVehicle r s).layout = s.layout ∧ (enqueueVehicle r s).alloc = s.alloc ∧
    (enqueueVehicle r s).mem = s.mem ∧ (enqueueVehicle r s).scanOut = s.scanOut ∧
    (enqueueVehicle r s).scanner = s.scanner ∧ (enqueueVehicle r s).router = s.router ∧
    (enqueueVehicle r s).alerts = s.alerts ∧ (enqueueVehicle r s).light = s.light ∧
    (enqueueVehicle r s).park = s.park ∧ (enqueueVehicle r s).inputs = s.inputs ∧
    (enqueueVehicle r s).lines = s.lines ∧ (enqueueVehicle r s).dock = s.dock ∧ (enqueueVehicle r s).now = s.now ∧
    (enqueueVehicle r s).freeCount = s.freeCount ∧ (enqueueVehicle r s).pending = s.pending ∧
    (enqueueVehicle r s).vehicle.present = s.vehicle.present ∧
    (enqueueVehicle r s).vehicle.outbound = s.vehicle.outbound ∧ (enqueueVehicle r s).vehicle.base = s.vehicle.base := by
  unfold enqueueVehicle; (try dsimp only); repeat' (first | (simp; done) | rfl | split)

@[simp] theorem millisecond_frame  (s : State) :
    (millisecond s).layout = s.layout ∧ (millisecond s).alloc = s.alloc ∧ (millisecond s).mem = s.mem ∧
    (millisecond s).scanOut = s.scanOut ∧ (millisecond s).scanner = s.scanner ∧ (millisecond s).router = s.router ∧
    (millisecond s).alerts = s.alerts ∧ (millisecond s).light = s.light ∧ (millisecond s).lines = s.lines ∧
    (millisecond s).dock = s.dock ∧ (millisecond s).vehicle = s.vehicle ∧ (millisecond s).freeCount = s.freeCount ∧
    (millisecond s).pending = s.pending ∧ (millisecond s).park.state = s.park.state := by
  unfold millisecond; (try dsimp only); repeat' (first | (simp; done) | rfl | split)

@[simp] theorem openGate_frame (m : Master) (s : State) :
    (openGate m s).layout = s.layout ∧ (openGate m s).alloc = s.alloc ∧ (openGate m s).mem = s.mem ∧
    (openGate m s).scanOut = s.scanOut ∧ (openGate m s).scanner = s.scanner ∧ (openGate m s).alerts = s.alerts ∧
    (openGate m s).light = s.light ∧ (openGate m s).park = s.park ∧ (openGate m s).inputs = s.inputs ∧
    (openGate m s).lines = s.lines ∧ (openGate m s).dock = s.dock ∧ (openGate m s).vehicle = s.vehicle ∧
    (openGate m s).now = s.now ∧ (openGate m s).freeCount = s.freeCount ∧ (openGate m s).pending = s.pending ∧
    (openGate m s).router.focus = s.router.focus ∧ (openGate m s).router.hold = s.router.hold ∧
    (openGate m s).router.held = s.router.held := by
  unfold openGate; (try dsimp only); repeat' (first | (simp; done) | rfl | split)

@[simp] theorem frameGoesOn_frame (s : State) :
    (frameGoesOn s).layout = s.layout ∧ (frameGoesOn s).alloc = s.alloc ∧ (frameGoesOn s).mem = s.mem ∧
    (frameGoesOn s).scanner = s.scanner ∧ (frameGoesOn s).router = s.router ∧ (frameGoesOn s).alerts = s.alerts ∧
    (frameGoesOn s).light = s.light ∧ (frameGoesOn s).park = s.park ∧ (frameGoesOn s).inputs = s.inputs ∧
    (frameGoesOn s).lines = s.lines ∧ (frameGoesOn s).dock = s.dock ∧ (frameGoesOn s).vehicle = s.vehicle ∧
    (frameGoesOn s).now = s.now ∧ (frameGoesOn s).freeCount = s.freeCount ∧
    (frameGoesOn s).pending = s.pending := by
  unfold frameGoesOn; (try dsimp only); repeat' (first | (simp; done) | rfl | split)

@[simp] theorem hand_frame (m : Master) (msg : Message) (s : State) :
    (hand m msg s).layout = s.layout ∧ (hand m msg s).alloc = s.alloc ∧ (hand m msg s).mem = s.mem ∧
    (hand m msg s).scanOut = s.scanOut ∧ (hand m msg s).scanner = s.scanner ∧ (hand m msg s).router = s.router ∧
    (hand m msg s).alerts = s.alerts ∧ (hand m msg s).light = s.light ∧ (hand m msg s).park = s.park ∧
    (hand m msg s).inputs = s.inputs ∧ (hand m msg s).lines = s.lines ∧ (hand m msg s).now = s.now ∧
    (hand m msg s).freeCount = s.freeCount ∧ (hand m msg s).pending = s.pending ∧
    (hand m msg s).dock.link = s.dock.link ∧ (hand m msg s).dock.requests = s.dock.requests ∧
    (hand m msg s).dock.bufferA = s.dock.bufferA ∧ (hand m msg s).dock.bufferB = s.dock.bufferB ∧
    (hand m msg s).dock.nextBuffer = s.dock.nextBuffer ∧ (hand m msg s).dock.stream = s.dock.stream ∧
    (hand m msg s).vehicle.present = s.vehicle.present ∧ (hand m msg s).vehicle.requests = s.vehicle.requests ∧
    (hand m msg s).vehicle.base = s.vehicle.base := by cases m <;> simp [hand]

@[simp] theorem notify_frame (o : Owner) (n : Notice) (s : State) :
    (notify o n s).layout = s.layout ∧ (notify o n s).alloc = s.alloc ∧ (notify o n s).mem = s.mem ∧
    (notify o n s).scanOut = s.scanOut ∧ (notify o n s).scanner = s.scanner ∧ (notify o n s).router = s.router ∧
    (notify o n s).alerts = s.alerts ∧ (notify o n s).light = s.light ∧ (notify o n s).park = s.park ∧
    (notify o n s).inputs = s.inputs ∧ (notify o n s).lines = s.lines ∧ (notify o n s).now = s.now ∧
    (notify o n s).freeCount = s.freeCount ∧ (notify o n s).pending = s.pending ∧
    (notify o n s).dock.link = s.dock.link ∧ (notify o n s).dock.requests = s.dock.requests ∧
    (notify o n s).dock.bufferA = s.dock.bufferA ∧ (notify o n s).dock.bufferB = s.dock.bufferB ∧
    (notify o n s).dock.nextBuffer = s.dock.nextBuffer ∧ (notify o n s).dock.stream = s.dock.stream ∧
    (notify o n s).vehicle.present = s.vehicle.present ∧ (notify o n s).vehicle.requests = s.vehicle.requests ∧
    (notify o n s).vehicle.base = s.vehicle.base := by cases o <;> simp [notify]

@[simp] theorem alertField_frame (n : Nat) (s : State) :
    (alertField n s).layout = s.layout ∧ (alertField n s).alloc = s.alloc ∧ (alertField n s).scanOut = s.scanOut ∧
    (alertField n s).scanner = s.scanner ∧ (alertField n s).router = s.router ∧
    (alertField n s).alerts = s.alerts ∧ (alertField n s).light = s.light ∧ (alertField n s).park = s.park ∧
    (alertField n s).inputs = s.inputs ∧ (alertField n s).lines = s.lines ∧ (alertField n s).dock = s.dock ∧
    (alertField n s).vehicle = s.vehicle ∧ (alertField n s).now = s.now ∧
    (alertField n s).freeCount = s.freeCount ∧ (alertField n s).pending = s.pending ∧
    (alertField n s).mem.cells = s.mem.cells ∧ (alertField n s).mem.fills = s.mem.fills ∧
    (alertField n s).mem.tabletWrite = s.mem.tabletWrite ∧ (alertField n s).mem.vehicleWrite = s.mem.vehicleWrite := by
  unfold alertField; (try dsimp only); repeat' (first | (simp; done) | rfl | split)

@[simp] theorem cutWrite_frame (m : Master) (s : State) :
    (cutWrite m s).layout = s.layout ∧ (cutWrite m s).alloc = s.alloc ∧ (cutWrite m s).scanOut = s.scanOut ∧
    (cutWrite m s).scanner = s.scanner ∧ (cutWrite m s).router = s.router ∧ (cutWrite m s).alerts = s.alerts ∧
    (cutWrite m s).light = s.light ∧ (cutWrite m s).park = s.park ∧ (cutWrite m s).inputs = s.inputs ∧
    (cutWrite m s).lines = s.lines ∧ (cutWrite m s).dock = s.dock ∧ (cutWrite m s).vehicle = s.vehicle ∧
    (cutWrite m s).now = s.now ∧ (cutWrite m s).pending = s.pending ∧ (cutWrite m s).mem.fills = s.mem.fills := by
  unfold cutWrite; (try dsimp only); repeat' (first | (simp; done) | rfl | split)

@[simp] theorem brightnessStep_frame (k : Int) (s : State) :
    (brightnessStep k s).layout = s.layout ∧ (brightnessStep k s).alloc = s.alloc ∧
    (brightnessStep k s).scanOut = s.scanOut ∧ (brightnessStep k s).scanner = s.scanner ∧
    (brightnessStep k s).router = s.router ∧ (brightnessStep k s).alerts = s.alerts ∧
    (brightnessStep k s).park = s.park ∧ (brightnessStep k s).inputs = s.inputs ∧
    (brightnessStep k s).lines = s.lines ∧ (brightnessStep k s).dock = s.dock ∧
    (brightnessStep k s).vehicle = s.vehicle ∧ (brightnessStep k s).now = s.now ∧
    (brightnessStep k s).freeCount = s.freeCount ∧ (brightnessStep k s).pending = s.pending ∧
    (brightnessStep k s).mem.cells = s.mem.cells ∧ (brightnessStep k s).mem.fills = s.mem.fills ∧
    (brightnessStep k s).mem.tabletWrite = s.mem.tabletWrite ∧
    (brightnessStep k s).mem.vehicleWrite = s.mem.vehicleWrite ∧
    (brightnessStep k s).light.target = s.light.target ∧ (brightnessStep k s).light.applied = s.light.applied ∧
    (brightnessStep k s).light.parked = s.light.parked := by
  unfold brightnessStep; (try dsimp only); repeat' (first | (simp; done) | rfl | split)

@[simp] theorem releaseTo_frame (t : Option Owner) (c : Nat) (s : State) :
    (releaseTo t c s).layout = s.layout ∧ (releaseTo t c s).alloc = s.alloc ∧ (releaseTo t c s).mem = s.mem ∧
    (releaseTo t c s).scanOut = s.scanOut ∧ (releaseTo t c s).scanner = s.scanner ∧
    (releaseTo t c s).alerts = s.alerts ∧ (releaseTo t c s).light = s.light ∧ (releaseTo t c s).park = s.park ∧
    (releaseTo t c s).inputs = s.inputs ∧ (releaseTo t c s).lines = s.lines ∧ (releaseTo t c s).dock = s.dock ∧
    (releaseTo t c s).vehicle = s.vehicle ∧ (releaseTo t c s).now = s.now ∧
    (releaseTo t c s).freeCount = s.freeCount ∧ (releaseTo t c s).pending = s.pending ∧
    (releaseTo t c s).router.focus = s.router.focus ∧ (releaseTo t c s).router.hold = s.router.hold ∧
    (releaseTo t c s).router.held = s.router.held := by
  unfold releaseTo; (try dsimp only); repeat' (first | (simp; done) | rfl | split)

@[simp] theorem capturedDown_frame (c : Nat) (s : State) :
    (capturedDown c s).layout = s.layout ∧ (capturedDown c s).alloc = s.alloc ∧ (capturedDown c s).mem = s.mem ∧
    (capturedDown c s).scanOut = s.scanOut ∧ (capturedDown c s).scanner = s.scanner ∧
    (capturedDown c s).alerts = s.alerts ∧ (capturedDown c s).light = s.light ∧ (capturedDown c s).park = s.park ∧
    (capturedDown c s).inputs = s.inputs ∧ (capturedDown c s).lines = s.lines ∧ (capturedDown c s).dock = s.dock ∧
    (capturedDown c s).vehicle = s.vehicle ∧ (capturedDown c s).now = s.now ∧
    (capturedDown c s).freeCount = s.freeCount ∧ (capturedDown c s).pending = s.pending ∧
    (capturedDown c s).router.focus = s.router.focus ∧ (capturedDown c s).router.hold = s.router.hold ∧
    (capturedDown c s).router.tablet = s.router.tablet ∧ (capturedDown c s).router.vehicle = s.router.vehicle := by
  unfold capturedDown; (try dsimp only); repeat' (first | (simp; done) | rfl | split)

@[simp] theorem alertDeparture_frame  (s : State) :
    (alertDeparture s).layout = s.layout ∧ (alertDeparture s).alloc = s.alloc ∧ (alertDeparture s).mem = s.mem ∧
    (alertDeparture s).scanOut = s.scanOut ∧ (alertDeparture s).scanner = s.scanner ∧
    (alertDeparture s).router = s.router ∧ (alertDeparture s).light = s.light ∧ (alertDeparture s).park = s.park ∧
    (alertDeparture s).inputs = s.inputs ∧ (alertDeparture s).lines = s.lines ∧ (alertDeparture s).dock = s.dock ∧
    (alertDeparture s).vehicle = s.vehicle ∧ (alertDeparture s).now = s.now ∧
    (alertDeparture s).freeCount = s.freeCount ∧ (alertDeparture s).pending = s.pending ∧
    (alertDeparture s).alerts.stack = s.alerts.stack := by
  unfold alertDeparture; (try dsimp only); repeat' (first | (simp; done) | rfl | split)

@[simp] theorem abortFills_frame (g : Nat → Bool) (s : State) :
    (abortFills g s).layout = s.layout ∧ (abortFills g s).alloc = s.alloc ∧ (abortFills g s).scanOut = s.scanOut ∧
    (abortFills g s).scanner = s.scanner ∧ (abortFills g s).router = s.router ∧ (abortFills g s).alerts = s.alerts ∧
    (abortFills g s).light = s.light ∧ (abortFills g s).park = s.park ∧ (abortFills g s).inputs = s.inputs ∧
    (abortFills g s).lines = s.lines ∧ (abortFills g s).dock = s.dock ∧ (abortFills g s).vehicle = s.vehicle ∧
    (abortFills g s).now = s.now ∧ (abortFills g s).pending = s.pending ∧
    (abortFills g s).mem.tabletWrite = s.mem.tabletWrite ∧ (abortFills g s).mem.vehicleWrite = s.mem.vehicleWrite := by
  unfold abortFills; (try dsimp only); repeat' (first | (simp; done) | rfl | split)

@[simp] theorem abortFill_frame (n : Nat) (s : State) :
    (abortFill n s).layout = s.layout ∧ (abortFill n s).alloc = s.alloc ∧ (abortFill n s).scanOut = s.scanOut ∧
    (abortFill n s).scanner = s.scanner ∧ (abortFill n s).router = s.router ∧ (abortFill n s).alerts = s.alerts ∧
    (abortFill n s).light = s.light ∧ (abortFill n s).park = s.park ∧ (abortFill n s).inputs = s.inputs ∧
    (abortFill n s).lines = s.lines ∧ (abortFill n s).dock = s.dock ∧ (abortFill n s).vehicle = s.vehicle ∧
    (abortFill n s).now = s.now ∧ (abortFill n s).pending = s.pending ∧
    (abortFill n s).mem.tabletWrite = s.mem.tabletWrite ∧ (abortFill n s).mem.vehicleWrite = s.mem.vehicleWrite :=
  abortFills_frame _ s

@[simp] theorem linkLed_frame (x y : LinkState) (s : State) :
    (linkLed x y s).layout = s.layout ∧ (linkLed x y s).alloc = s.alloc ∧ (linkLed x y s).mem = s.mem ∧
    (linkLed x y s).scanOut = s.scanOut ∧ (linkLed x y s).scanner = s.scanner ∧ (linkLed x y s).router = s.router ∧
    (linkLed x y s).alerts = s.alerts ∧ (linkLed x y s).light = s.light ∧ (linkLed x y s).park = s.park ∧
    (linkLed x y s).inputs = s.inputs ∧ (linkLed x y s).dock = s.dock ∧ (linkLed x y s).vehicle = s.vehicle ∧
    (linkLed x y s).now = s.now ∧ (linkLed x y s).freeCount = s.freeCount ∧ (linkLed x y s).pending = s.pending := by
  unfold linkLed; (try dsimp only); repeat' (first | (simp; done) | rfl | split)

@[simp] theorem vehField_frame (x y : Bool) (s : State) :
    (vehField x y s).layout = s.layout ∧ (vehField x y s).alloc = s.alloc ∧ (vehField x y s).scanOut = s.scanOut ∧
    (vehField x y s).scanner = s.scanner ∧ (vehField x y s).router = s.router ∧
    (vehField x y s).alerts = s.alerts ∧ (vehField x y s).light = s.light ∧ (vehField x y s).park = s.park ∧
    (vehField x y s).inputs = s.inputs ∧ (vehField x y s).lines = s.lines ∧ (vehField x y s).dock = s.dock ∧
    (vehField x y s).vehicle = s.vehicle ∧ (vehField x y s).now = s.now ∧
    (vehField x y s).freeCount = s.freeCount ∧ (vehField x y s).pending = s.pending ∧
    (vehField x y s).mem.cells = s.mem.cells ∧ (vehField x y s).mem.fills = s.mem.fills ∧
    (vehField x y s).mem.tabletWrite = s.mem.tabletWrite ∧ (vehField x y s).mem.vehicleWrite = s.mem.vehicleWrite := by
  unfold vehField; (try dsimp only); repeat' (first | (simp; done) | rfl | split)

@[simp] theorem boundaryClose_frame (n : Nat) (s : State) :
    (boundaryClose s n).mem = s.mem ∧ (boundaryClose s n).scanOut = s.scanOut ∧
    (boundaryClose s n).scanner = s.scanner ∧ (boundaryClose s n).router = s.router ∧
    (boundaryClose s n).alerts = s.alerts ∧ (boundaryClose s n).light = s.light ∧
    (boundaryClose s n).park = s.park ∧ (boundaryClose s n).inputs = s.inputs ∧
    (boundaryClose s n).lines = s.lines ∧ (boundaryClose s n).dock = s.dock ∧
    (boundaryClose s n).vehicle = s.vehicle ∧ (boundaryClose s n).now = s.now ∧
    (boundaryClose s n).freeCount = s.freeCount ∧ (boundaryClose s n).pending = s.pending ∧
    (boundaryClose s n).layout.nextOrder = s.layout.nextOrder ∧ (boundaryClose s n).layout.ready = s.layout.ready ∧
    (boundaryClose s n).layout.frame = s.layout.frame := by
  unfold boundaryClose; (try dsimp only); repeat' (first | (simp; done) | rfl | split)

@[simp] theorem writeDone_frame (st : Stream) (r : WriteResult) (k : Nat) (s : State) :
    (writeDone st r k s).layout = s.layout ∧ (writeDone st r k s).alloc = s.alloc ∧
    (writeDone st r k s).mem = s.mem ∧ (writeDone st r k s).scanOut = s.scanOut ∧
    (writeDone st r k s).scanner = s.scanner ∧ (writeDone st r k s).router = s.router ∧
    (writeDone st r k s).alerts = s.alerts ∧ (writeDone st r k s).light = s.light ∧
    (writeDone st r k s).park = s.park ∧ (writeDone st r k s).inputs = s.inputs ∧
    (writeDone st r k s).lines = s.lines ∧ (writeDone st r k s).vehicle = s.vehicle ∧
    (writeDone st r k s).now = s.now ∧ (writeDone st r k s).freeCount = s.freeCount ∧
    (writeDone st r k s).pending = s.pending ∧ (writeDone st r k s).dock.link = s.dock.link ∧
    (writeDone st r k s).dock.requests = s.dock.requests ∧ (writeDone st r k s).dock.bufferA = s.dock.bufferA ∧
    (writeDone st r k s).dock.bufferB = s.dock.bufferB ∧ (writeDone st r k s).dock.nextBuffer = s.dock.nextBuffer ∧
    (writeDone st r k s).dock.stream = s.dock.stream := by
  unfold writeDone; (try dsimp only); repeat' (first | (simp; done) | rfl | split)

@[simp] theorem toggleLed_frame  (s : State) :
    (toggleLed s).layout = s.layout ∧ (toggleLed s).alloc = s.alloc ∧ (toggleLed s).mem = s.mem ∧
    (toggleLed s).scanOut = s.scanOut ∧ (toggleLed s).scanner = s.scanner ∧ (toggleLed s).router = s.router ∧
    (toggleLed s).alerts = s.alerts ∧ (toggleLed s).light = s.light ∧ (toggleLed s).park = s.park ∧
    (toggleLed s).inputs = s.inputs ∧ (toggleLed s).dock = s.dock ∧ (toggleLed s).vehicle = s.vehicle ∧
    (toggleLed s).now = s.now ∧ (toggleLed s).freeCount = s.freeCount ∧ (toggleLed s).pending = s.pending := by
  unfold toggleLed; (try dsimp only); repeat' (first | (simp; done) | rfl | split)

@[simp] theorem scheduleScan_frame  (s : State) :
    (scheduleScan s).layout = s.layout ∧ (scheduleScan s).alloc = s.alloc ∧ (scheduleScan s).mem = s.mem ∧
    (scheduleScan s).scanOut = s.scanOut ∧ (scheduleScan s).scanner = s.scanner ∧
    (scheduleScan s).router = s.router ∧ (scheduleScan s).alerts = s.alerts ∧ (scheduleScan s).park = s.park ∧
    (scheduleScan s).inputs = s.inputs ∧ (scheduleScan s).lines = s.lines ∧ (scheduleScan s).dock = s.dock ∧
    (scheduleScan s).vehicle = s.vehicle ∧ (scheduleScan s).now = s.now ∧
    (scheduleScan s).freeCount = s.freeCount ∧ (scheduleScan s).pending = s.pending ∧
    (scheduleScan s).light.target = s.light.target ∧ (scheduleScan s).light.applied = s.light.applied ∧
    (scheduleScan s).light.parked = s.light.parked := by
  unfold scheduleScan; (try dsimp only); repeat' (first | (simp; done) | rfl | split)

@[simp] theorem raiseFlags_frame (n : Nat) (s : State) :
    (raiseFlags n s).layout = s.layout ∧ (raiseFlags n s).alloc = s.alloc ∧ (raiseFlags n s).mem = s.mem ∧
    (raiseFlags n s).scanOut = s.scanOut ∧ (raiseFlags n s).scanner = s.scanner ∧
    (raiseFlags n s).router = s.router ∧ (raiseFlags n s).alerts = s.alerts ∧ (raiseFlags n s).light = s.light ∧
    (raiseFlags n s).park = s.park ∧ (raiseFlags n s).lines = s.lines ∧ (raiseFlags n s).now = s.now ∧
    (raiseFlags n s).freeCount = s.freeCount ∧ (raiseFlags n s).pending = s.pending ∧
    (raiseFlags n s).dock.link = s.dock.link ∧ (raiseFlags n s).dock.requests = s.dock.requests ∧
    (raiseFlags n s).dock.bufferA = s.dock.bufferA ∧ (raiseFlags n s).dock.bufferB = s.dock.bufferB ∧
    (raiseFlags n s).dock.nextBuffer = s.dock.nextBuffer ∧ (raiseFlags n s).dock.stream = s.dock.stream ∧
    (raiseFlags n s).vehicle.present = s.vehicle.present ∧ (raiseFlags n s).vehicle.requests = s.vehicle.requests ∧
    (raiseFlags n s).vehicle.base = s.vehicle.base := by
  unfold raiseFlags; (try dsimp only); repeat' (first | (simp; done) | rfl | split)

@[simp] theorem reply_frame (m : Master) (r : Request) (v : Result) (l : List Byte) (s : State) :
    (reply m r v l s).layout = s.layout ∧ (reply m r v l s).alloc = s.alloc ∧ (reply m r v l s).mem = s.mem ∧
    (reply m r v l s).scanOut = s.scanOut ∧ (reply m r v l s).scanner = s.scanner ∧
    (reply m r v l s).router = s.router ∧ (reply m r v l s).alerts = s.alerts ∧ (reply m r v l s).light = s.light ∧
    (reply m r v l s).park = s.park ∧ (reply m r v l s).inputs = s.inputs ∧ (reply m r v l s).lines = s.lines ∧
    (reply m r v l s).now = s.now ∧ (reply m r v l s).freeCount = s.freeCount ∧
    (reply m r v l s).pending = s.pending ∧ (reply m r v l s).dock.link = s.dock.link ∧
    (reply m r v l s).dock.requests = s.dock.requests ∧ (reply m r v l s).dock.bufferA = s.dock.bufferA ∧
    (reply m r v l s).dock.bufferB = s.dock.bufferB ∧ (reply m r v l s).dock.nextBuffer = s.dock.nextBuffer ∧
    (reply m r v l s).dock.stream = s.dock.stream ∧ (reply m r v l s).vehicle.present = s.vehicle.present ∧
    (reply m r v l s).vehicle.requests = s.vehicle.requests ∧ (reply m r v l s).vehicle.base = s.vehicle.base := by
  unfold reply; (try dsimp only); repeat' (first | (simp; done) | rfl | split)

@[simp] theorem tryReport_frame (m : Master) (s : State) :
    (tryReport m s).layout = s.layout ∧ (tryReport m s).alloc = s.alloc ∧ (tryReport m s).mem = s.mem ∧
    (tryReport m s).scanOut = s.scanOut ∧ (tryReport m s).scanner = s.scanner ∧ (tryReport m s).alerts = s.alerts ∧
    (tryReport m s).light = s.light ∧ (tryReport m s).park = s.park ∧ (tryReport m s).inputs = s.inputs ∧
    (tryReport m s).lines = s.lines ∧ (tryReport m s).now = s.now ∧ (tryReport m s).freeCount = s.freeCount ∧
    (tryReport m s).pending = s.pending ∧ (tryReport m s).router.focus = s.router.focus ∧
    (tryReport m s).router.hold = s.router.hold ∧ (tryReport m s).router.held = s.router.held ∧
    (tryReport m s).dock.link = s.dock.link ∧ (tryReport m s).dock.requests = s.dock.requests ∧
    (tryReport m s).dock.bufferA = s.dock.bufferA ∧ (tryReport m s).dock.bufferB = s.dock.bufferB ∧
    (tryReport m s).dock.nextBuffer = s.dock.nextBuffer ∧ (tryReport m s).dock.stream = s.dock.stream ∧
    (tryReport m s).vehicle.present = s.vehicle.present ∧ (tryReport m s).vehicle.requests = s.vehicle.requests ∧
    (tryReport m s).vehicle.base = s.vehicle.base := by
  unfold tryReport; (try dsimp only); repeat' (first | (simp; done) | rfl | split)

@[simp] theorem focusNotice_frame (v : Option Nat) (n : Nat → Notice) (s : State) :
    (focusNotice v n s).layout = s.layout ∧ (focusNotice v n s).alloc = s.alloc ∧ (focusNotice v n s).mem = s.mem ∧
    (focusNotice v n s).scanOut = s.scanOut ∧ (focusNotice v n s).scanner = s.scanner ∧
    (focusNotice v n s).router = s.router ∧ (focusNotice v n s).alerts = s.alerts ∧
    (focusNotice v n s).light = s.light ∧ (focusNotice v n s).park = s.park ∧
    (focusNotice v n s).inputs = s.inputs ∧ (focusNotice v n s).lines = s.lines ∧ (focusNotice v n s).now = s.now ∧
    (focusNotice v n s).freeCount = s.freeCount ∧ (focusNotice v n s).pending = s.pending ∧
    (focusNotice v n s).dock.link = s.dock.link ∧ (focusNotice v n s).dock.requests = s.dock.requests ∧
    (focusNotice v n s).dock.bufferA = s.dock.bufferA ∧ (focusNotice v n s).dock.bufferB = s.dock.bufferB ∧
    (focusNotice v n s).dock.nextBuffer = s.dock.nextBuffer ∧ (focusNotice v n s).dock.stream = s.dock.stream ∧
    (focusNotice v n s).vehicle.present = s.vehicle.present ∧
    (focusNotice v n s).vehicle.requests = s.vehicle.requests ∧ (focusNotice v n s).vehicle.base = s.vehicle.base := by
  unfold focusNotice; (try dsimp only); repeat' (first | (simp; done) | rfl | split)

@[simp] theorem reportAcknowledged_frame (n : Nat) (s : State) :
    (reportAcknowledged n s).layout = s.layout ∧ (reportAcknowledged n s).alloc = s.alloc ∧
    (reportAcknowledged n s).mem = s.mem ∧ (reportAcknowledged n s).scanOut = s.scanOut ∧
    (reportAcknowledged n s).scanner = s.scanner ∧ (reportAcknowledged n s).router = s.router ∧
    (reportAcknowledged n s).light = s.light ∧ (reportAcknowledged n s).park = s.park ∧
    (reportAcknowledged n s).inputs = s.inputs ∧ (reportAcknowledged n s).lines = s.lines ∧
    (reportAcknowledged n s).dock = s.dock ∧ (reportAcknowledged n s).now = s.now ∧
    (reportAcknowledged n s).freeCount = s.freeCount ∧ (reportAcknowledged n s).pending = s.pending ∧
    (reportAcknowledged n s).alerts.stack = s.alerts.stack ∧
    (reportAcknowledged n s).vehicle.present = s.vehicle.present ∧
    (reportAcknowledged n s).vehicle.requests = s.vehicle.requests ∧
    (reportAcknowledged n s).vehicle.base = s.vehicle.base := by
  unfold reportAcknowledged; (try dsimp only); repeat' (first | (simp; done) | rfl | split)

@[simp] theorem freePane_frame (n : Nat) (p : Pane) (s : State) :
    (freePane n p s).scanOut = s.scanOut ∧ (freePane n p s).scanner = s.scanner ∧
    (freePane n p s).router = s.router ∧ (freePane n p s).alerts = s.alerts ∧ (freePane n p s).light = s.light ∧
    (freePane n p s).park = s.park ∧ (freePane n p s).inputs = s.inputs ∧ (freePane n p s).lines = s.lines ∧
    (freePane n p s).dock = s.dock ∧ (freePane n p s).vehicle = s.vehicle ∧ (freePane n p s).now = s.now ∧
    (freePane n p s).pending = s.pending ∧ (freePane n p s).layout.current = s.layout.current ∧
    (freePane n p s).layout.nextOrder = s.layout.nextOrder ∧ (freePane n p s).layout.frame = s.layout.frame ∧
    (freePane n p s).mem.tabletWrite = s.mem.tabletWrite ∧ (freePane n p s).mem.vehicleWrite = s.mem.vehicleWrite := by
  unfold freePane; (try dsimp only); repeat' (first | (simp; done) | rfl | split)

@[simp] theorem reportLink_frame (x : LinkState) (s : State) :
    (reportLink x s).layout = s.layout ∧ (reportLink x s).alloc = s.alloc ∧ (reportLink x s).scanOut = s.scanOut ∧
    (reportLink x s).scanner = s.scanner ∧ (reportLink x s).router = s.router ∧
    (reportLink x s).alerts = s.alerts ∧ (reportLink x s).light = s.light ∧ (reportLink x s).park = s.park ∧
    (reportLink x s).inputs = s.inputs ∧ (reportLink x s).dock = s.dock ∧ (reportLink x s).vehicle = s.vehicle ∧
    (reportLink x s).now = s.now ∧ (reportLink x s).freeCount = s.freeCount ∧
    (reportLink x s).pending = s.pending ∧ (reportLink x s).mem.cells = s.mem.cells ∧
    (reportLink x s).mem.fills = s.mem.fills ∧ (reportLink x s).mem.tabletWrite = s.mem.tabletWrite ∧
    (reportLink x s).mem.vehicleWrite = s.mem.vehicleWrite := by
  unfold reportLink; (try dsimp only); repeat' (first | (simp; done) | rfl | split)

@[simp] theorem portDeparture_frame  (s : State) :
    (portDeparture s).layout = s.layout ∧ (portDeparture s).alloc = s.alloc ∧
    (portDeparture s).scanOut = s.scanOut ∧ (portDeparture s).scanner = s.scanner ∧
    (portDeparture s).router = s.router ∧ (portDeparture s).alerts = s.alerts ∧ (portDeparture s).light = s.light ∧
    (portDeparture s).park = s.park ∧ (portDeparture s).inputs = s.inputs ∧ (portDeparture s).lines = s.lines ∧
    (portDeparture s).vehicle = s.vehicle ∧ (portDeparture s).now = s.now ∧ (portDeparture s).pending = s.pending ∧
    (portDeparture s).mem.fills = s.mem.fills := by
  unfold portDeparture; (try dsimp only); repeat' (first | (simp; done) | rfl | split)

@[simp] theorem boundaryLive_frame (n : Nat) (s : State) :
    (boundaryLive s n).alloc = s.alloc ∧ (boundaryLive s n).mem = s.mem ∧ (boundaryLive s n).scanOut = s.scanOut ∧
    (boundaryLive s n).scanner = s.scanner ∧ (boundaryLive s n).router = s.router ∧
    (boundaryLive s n).alerts = s.alerts ∧ (boundaryLive s n).light = s.light ∧ (boundaryLive s n).park = s.park ∧
    (boundaryLive s n).inputs = s.inputs ∧ (boundaryLive s n).lines = s.lines ∧ (boundaryLive s n).now = s.now ∧
    (boundaryLive s n).freeCount = s.freeCount ∧ (boundaryLive s n).pending = s.pending ∧
    (boundaryLive s n).layout.ready = s.layout.ready ∧ (boundaryLive s n).layout.frame = s.layout.frame ∧
    (boundaryLive s n).dock.link = s.dock.link ∧ (boundaryLive s n).dock.requests = s.dock.requests ∧
    (boundaryLive s n).dock.bufferA = s.dock.bufferA ∧ (boundaryLive s n).dock.bufferB = s.dock.bufferB ∧
    (boundaryLive s n).dock.nextBuffer = s.dock.nextBuffer ∧ (boundaryLive s n).dock.stream = s.dock.stream ∧
    (boundaryLive s n).vehicle.present = s.vehicle.present ∧
    (boundaryLive s n).vehicle.requests = s.vehicle.requests ∧ (boundaryLive s n).vehicle.base = s.vehicle.base := by
  unfold boundaryLive; (try dsimp only); repeat' (first | (simp; done) | rfl | split)

@[simp] theorem boundaryApply_frame (n : Nat) (s : State) :
    (boundaryApply s n).alloc = s.alloc ∧ (boundaryApply s n).mem = s.mem ∧
    (boundaryApply s n).scanOut = s.scanOut ∧ (boundaryApply s n).scanner = s.scanner ∧
    (boundaryApply s n).router = s.router ∧ (boundaryApply s n).alerts = s.alerts ∧
    (boundaryApply s n).light = s.light ∧ (boundaryApply s n).park = s.park ∧
    (boundaryApply s n).inputs = s.inputs ∧ (boundaryApply s n).lines = s.lines ∧ (boundaryApply s n).now = s.now ∧
    (boundaryApply s n).freeCount = s.freeCount ∧ (boundaryApply s n).pending = s.pending ∧
    (boundaryApply s n).layout.current = s.layout.current ∧
    (boundaryApply s n).layout.nextOrder = s.layout.nextOrder ∧ (boundaryApply s n).layout.ready = s.layout.ready ∧
    (boundaryApply s n).layout.frame = s.layout.frame ∧ (boundaryApply s n).dock.link = s.dock.link ∧
    (boundaryApply s n).dock.requests = s.dock.requests ∧ (boundaryApply s n).dock.bufferA = s.dock.bufferA ∧
    (boundaryApply s n).dock.bufferB = s.dock.bufferB ∧ (boundaryApply s n).dock.nextBuffer = s.dock.nextBuffer ∧
    (boundaryApply s n).dock.stream = s.dock.stream ∧ (boundaryApply s n).vehicle.present = s.vehicle.present ∧
    (boundaryApply s n).vehicle.requests = s.vehicle.requests ∧ (boundaryApply s n).vehicle.base = s.vehicle.base := by
  unfold boundaryApply; (try dsimp only); repeat' (first | (simp; done) | rfl | split)

@[simp] theorem finishStream_frame  (s : State) :
    (finishStream s).layout = s.layout ∧ (finishStream s).alloc = s.alloc ∧ (finishStream s).mem = s.mem ∧
    (finishStream s).scanOut = s.scanOut ∧ (finishStream s).scanner = s.scanner ∧
    (finishStream s).router = s.router ∧ (finishStream s).alerts = s.alerts ∧ (finishStream s).light = s.light ∧
    (finishStream s).park = s.park ∧ (finishStream s).inputs = s.inputs ∧ (finishStream s).lines = s.lines ∧
    (finishStream s).vehicle = s.vehicle ∧ (finishStream s).now = s.now ∧
    (finishStream s).freeCount = s.freeCount ∧ (finishStream s).pending = s.pending ∧
    (finishStream s).dock.link = s.dock.link ∧ (finishStream s).dock.requests = s.dock.requests ∧
    (finishStream s).dock.bufferA = s.dock.bufferA ∧ (finishStream s).dock.bufferB = s.dock.bufferB ∧
    (finishStream s).dock.nextBuffer = s.dock.nextBuffer := by
  unfold finishStream; (try dsimp only); repeat' (first | (simp; done) | rfl | split)

@[simp] theorem openStream_frame (p b : Nat) (r : Rect) (s : State) :
    (openStream p b r s).layout = s.layout ∧ (openStream p b r s).alloc = s.alloc ∧
    (openStream p b r s).mem = s.mem ∧ (openStream p b r s).scanOut = s.scanOut ∧
    (openStream p b r s).scanner = s.scanner ∧ (openStream p b r s).router = s.router ∧
    (openStream p b r s).alerts = s.alerts ∧ (openStream p b r s).light = s.light ∧
    (openStream p b r s).park = s.park ∧ (openStream p b r s).inputs = s.inputs ∧
    (openStream p b r s).lines = s.lines ∧ (openStream p b r s).vehicle = s.vehicle ∧
    (openStream p b r s).now = s.now ∧ (openStream p b r s).freeCount = s.freeCount ∧
    (openStream p b r s).pending = s.pending ∧ (openStream p b r s).dock.link = s.dock.link ∧
    (openStream p b r s).dock.requests = s.dock.requests ∧ (openStream p b r s).dock.bufferA = s.dock.bufferA ∧
    (openStream p b r s).dock.bufferB = s.dock.bufferB ∧ (openStream p b r s).dock.nextBuffer = s.dock.nextBuffer := by
  unfold openStream; (try dsimp only); repeat' (first | (simp; done) | rfl | split)

@[simp] theorem streamPaneGone_frame (n : Nat) (s : State) :
    (streamPaneGone n s).layout = s.layout ∧ (streamPaneGone n s).alloc = s.alloc ∧
    (streamPaneGone n s).mem = s.mem ∧ (streamPaneGone n s).scanOut = s.scanOut ∧
    (streamPaneGone n s).scanner = s.scanner ∧ (streamPaneGone n s).router = s.router ∧
    (streamPaneGone n s).alerts = s.alerts ∧ (streamPaneGone n s).light = s.light ∧
    (streamPaneGone n s).park = s.park ∧ (streamPaneGone n s).inputs = s.inputs ∧
    (streamPaneGone n s).lines = s.lines ∧ (streamPaneGone n s).vehicle = s.vehicle ∧
    (streamPaneGone n s).now = s.now ∧ (streamPaneGone n s).freeCount = s.freeCount ∧
    (streamPaneGone n s).pending = s.pending ∧ (streamPaneGone n s).dock.link = s.dock.link ∧
    (streamPaneGone n s).dock.requests = s.dock.requests ∧ (streamPaneGone n s).dock.bufferA = s.dock.bufferA ∧
    (streamPaneGone n s).dock.bufferB = s.dock.bufferB ∧ (streamPaneGone n s).dock.nextBuffer = s.dock.nextBuffer := by
  unfold streamPaneGone; (try dsimp only); repeat' (first | (simp; done) | rfl | split)

@[simp] theorem edgeForFlag_frame (n : Nat) (l : Bool) (i : Nat) (m : Master) (s : State) :
    (edgeForFlag n l i s m).layout = s.layout ∧ (edgeForFlag n l i s m).alloc = s.alloc ∧
    (edgeForFlag n l i s m).mem = s.mem ∧ (edgeForFlag n l i s m).scanOut = s.scanOut ∧
    (edgeForFlag n l i s m).scanner = s.scanner ∧ (edgeForFlag n l i s m).router = s.router ∧
    (edgeForFlag n l i s m).alerts = s.alerts ∧ (edgeForFlag n l i s m).light = s.light ∧
    (edgeForFlag n l i s m).park = s.park ∧ (edgeForFlag n l i s m).lines = s.lines ∧
    (edgeForFlag n l i s m).now = s.now ∧ (edgeForFlag n l i s m).freeCount = s.freeCount ∧
    (edgeForFlag n l i s m).pending = s.pending ∧ (edgeForFlag n l i s m).dock.link = s.dock.link ∧
    (edgeForFlag n l i s m).dock.requests = s.dock.requests ∧
    (edgeForFlag n l i s m).dock.bufferA = s.dock.bufferA ∧ (edgeForFlag n l i s m).dock.bufferB = s.dock.bufferB ∧
    (edgeForFlag n l i s m).dock.nextBuffer = s.dock.nextBuffer ∧
    (edgeForFlag n l i s m).dock.stream = s.dock.stream ∧
    (edgeForFlag n l i s m).vehicle.present = s.vehicle.present ∧
    (edgeForFlag n l i s m).vehicle.requests = s.vehicle.requests ∧
    (edgeForFlag n l i s m).vehicle.base = s.vehicle.base := by
  unfold edgeForFlag; (try dsimp only); repeat' (first | (simp; done) | rfl | split)

@[simp] theorem reportSupply_frame (b : Light) (x y : Nat) (s : State) :
    (reportSupply b x y s).layout = s.layout ∧ (reportSupply b x y s).alloc = s.alloc ∧
    (reportSupply b x y s).scanOut = s.scanOut ∧ (reportSupply b x y s).scanner = s.scanner ∧
    (reportSupply b x y s).router = s.router ∧ (reportSupply b x y s).alerts = s.alerts ∧
    (reportSupply b x y s).park = s.park ∧ (reportSupply b x y s).inputs = s.inputs ∧
    (reportSupply b x y s).lines = s.lines ∧ (reportSupply b x y s).now = s.now ∧
    (reportSupply b x y s).freeCount = s.freeCount ∧ (reportSupply b x y s).pending = s.pending ∧
    (reportSupply b x y s).mem.cells = s.mem.cells ∧ (reportSupply b x y s).mem.fills = s.mem.fills ∧
    (reportSupply b x y s).mem.tabletWrite = s.mem.tabletWrite ∧
    (reportSupply b x y s).mem.vehicleWrite = s.mem.vehicleWrite ∧
    (reportSupply b x y s).light.target = s.light.target ∧ (reportSupply b x y s).light.applied = s.light.applied ∧
    (reportSupply b x y s).light.parked = s.light.parked ∧ (reportSupply b x y s).dock.link = s.dock.link ∧
    (reportSupply b x y s).dock.requests = s.dock.requests ∧ (reportSupply b x y s).dock.bufferA = s.dock.bufferA ∧
    (reportSupply b x y s).dock.bufferB = s.dock.bufferB ∧
    (reportSupply b x y s).dock.nextBuffer = s.dock.nextBuffer ∧
    (reportSupply b x y s).dock.stream = s.dock.stream ∧
    (reportSupply b x y s).vehicle.present = s.vehicle.present ∧
    (reportSupply b x y s).vehicle.requests = s.vehicle.requests ∧
    (reportSupply b x y s).vehicle.base = s.vehicle.base := by
  unfold reportSupply; (try dsimp only); repeat' (first | (simp; done) | rfl | split)

@[simp] theorem reportFlags_frame (m : Master) (s : State) :
    (reportFlags m s).layout = s.layout ∧ (reportFlags m s).alloc = s.alloc ∧ (reportFlags m s).mem = s.mem ∧
    (reportFlags m s).scanOut = s.scanOut ∧ (reportFlags m s).scanner = s.scanner ∧
    (reportFlags m s).router = s.router ∧ (reportFlags m s).alerts = s.alerts ∧ (reportFlags m s).light = s.light ∧
    (reportFlags m s).park = s.park ∧ (reportFlags m s).inputs = s.inputs ∧ (reportFlags m s).lines = s.lines ∧
    (reportFlags m s).now = s.now ∧ (reportFlags m s).freeCount = s.freeCount ∧
    (reportFlags m s).pending = s.pending ∧ (reportFlags m s).dock.link = s.dock.link ∧
    (reportFlags m s).dock.requests = s.dock.requests ∧ (reportFlags m s).dock.bufferA = s.dock.bufferA ∧
    (reportFlags m s).dock.bufferB = s.dock.bufferB ∧ (reportFlags m s).dock.nextBuffer = s.dock.nextBuffer ∧
    (reportFlags m s).dock.stream = s.dock.stream ∧ (reportFlags m s).vehicle.present = s.vehicle.present ∧
    (reportFlags m s).vehicle.requests = s.vehicle.requests ∧ (reportFlags m s).vehicle.base = s.vehicle.base := by
  have key := foldl_same (fun t : State =>
      (t.layout, t.alloc, t.mem, t.scanOut, t.scanner, t.router, t.alerts, t.light, t.park, t.inputs, t.lines,
      t.now, t.freeCount, t.pending, t.dock.link, t.dock.requests, t.dock.bufferA, t.dock.bufferB,
      t.dock.nextBuffer, t.dock.stream, t.vehicle.present, t.vehicle.requests, t.vehicle.base))
    (fun t (x : DiscreteInput × Nat) =>
      if x.1.flag m then hand m (.notice (.inputChange x.2 x.1.qualified x.1.interval)) t else t)
    (fun t x => by split <;> simp) s.inputs.zipIdx s
  simp only [Prod.mk.injEq] at key
  exact key

@[simp] theorem placeEvent_frame (m : Master) (c : Nat) (k : KeyKind) (s : State) :
    (placeEvent m c k s).layout = s.layout ∧ (placeEvent m c k s).alloc = s.alloc ∧
    (placeEvent m c k s).mem = s.mem ∧ (placeEvent m c k s).scanOut = s.scanOut ∧
    (placeEvent m c k s).scanner = s.scanner ∧ (placeEvent m c k s).alerts = s.alerts ∧
    (placeEvent m c k s).light = s.light ∧ (placeEvent m c k s).park = s.park ∧
    (placeEvent m c k s).inputs = s.inputs ∧ (placeEvent m c k s).lines = s.lines ∧
    (placeEvent m c k s).now = s.now ∧ (placeEvent m c k s).freeCount = s.freeCount ∧
    (placeEvent m c k s).pending = s.pending ∧ (placeEvent m c k s).router.focus = s.router.focus ∧
    (placeEvent m c k s).router.hold = s.router.hold ∧ (placeEvent m c k s).router.held = s.router.held ∧
    (placeEvent m c k s).dock.link = s.dock.link ∧ (placeEvent m c k s).dock.requests = s.dock.requests ∧
    (placeEvent m c k s).dock.bufferA = s.dock.bufferA ∧ (placeEvent m c k s).dock.bufferB = s.dock.bufferB ∧
    (placeEvent m c k s).dock.nextBuffer = s.dock.nextBuffer ∧ (placeEvent m c k s).dock.stream = s.dock.stream ∧
    (placeEvent m c k s).vehicle.present = s.vehicle.present ∧
    (placeEvent m c k s).vehicle.requests = s.vehicle.requests ∧ (placeEvent m c k s).vehicle.base = s.vehicle.base := by
  unfold placeEvent; (try dsimp only); repeat' (first | (simp; done) | rfl | split)

@[simp] theorem setFocus_frame (v : Option Nat) (s : State) :
    (setFocus v s).layout = s.layout ∧ (setFocus v s).alloc = s.alloc ∧ (setFocus v s).scanOut = s.scanOut ∧
    (setFocus v s).scanner = s.scanner ∧ (setFocus v s).alerts = s.alerts ∧ (setFocus v s).light = s.light ∧
    (setFocus v s).park = s.park ∧ (setFocus v s).inputs = s.inputs ∧ (setFocus v s).lines = s.lines ∧
    (setFocus v s).now = s.now ∧ (setFocus v s).freeCount = s.freeCount ∧ (setFocus v s).pending = s.pending ∧
    (setFocus v s).mem.cells = s.mem.cells ∧ (setFocus v s).mem.fills = s.mem.fills ∧
    (setFocus v s).mem.tabletWrite = s.mem.tabletWrite ∧ (setFocus v s).mem.vehicleWrite = s.mem.vehicleWrite ∧
    (setFocus v s).router.hold = s.router.hold ∧ (setFocus v s).router.held = s.router.held ∧
    (setFocus v s).router.tablet = s.router.tablet ∧ (setFocus v s).router.vehicle = s.router.vehicle ∧
    (setFocus v s).dock.link = s.dock.link ∧ (setFocus v s).dock.requests = s.dock.requests ∧
    (setFocus v s).dock.bufferA = s.dock.bufferA ∧ (setFocus v s).dock.bufferB = s.dock.bufferB ∧
    (setFocus v s).dock.nextBuffer = s.dock.nextBuffer ∧ (setFocus v s).dock.stream = s.dock.stream ∧
    (setFocus v s).vehicle.present = s.vehicle.present ∧ (setFocus v s).vehicle.requests = s.vehicle.requests ∧
    (setFocus v s).vehicle.base = s.vehicle.base := by
  unfold setFocus; (try dsimp only); repeat' (first | (simp; done) | rfl | split)

@[simp] theorem routerLinkStart_frame  (s : State) :
    (routerLinkStart s).layout = s.layout ∧ (routerLinkStart s).alloc = s.alloc ∧ (routerLinkStart s).mem = s.mem ∧
    (routerLinkStart s).scanOut = s.scanOut ∧ (routerLinkStart s).scanner = s.scanner ∧
    (routerLinkStart s).alerts = s.alerts ∧ (routerLinkStart s).light = s.light ∧
    (routerLinkStart s).park = s.park ∧ (routerLinkStart s).inputs = s.inputs ∧
    (routerLinkStart s).lines = s.lines ∧ (routerLinkStart s).now = s.now ∧
    (routerLinkStart s).freeCount = s.freeCount ∧ (routerLinkStart s).pending = s.pending ∧
    (routerLinkStart s).router.focus = s.router.focus ∧ (routerLinkStart s).router.hold = s.router.hold ∧
    (routerLinkStart s).router.held = s.router.held ∧ (routerLinkStart s).dock.link = s.dock.link ∧
    (routerLinkStart s).dock.requests = s.dock.requests ∧ (routerLinkStart s).dock.bufferA = s.dock.bufferA ∧
    (routerLinkStart s).dock.bufferB = s.dock.bufferB ∧ (routerLinkStart s).dock.nextBuffer = s.dock.nextBuffer ∧
    (routerLinkStart s).dock.stream = s.dock.stream ∧ (routerLinkStart s).vehicle.present = s.vehicle.present ∧
    (routerLinkStart s).vehicle.requests = s.vehicle.requests ∧ (routerLinkStart s).vehicle.base = s.vehicle.base := by
  unfold routerLinkStart; (try dsimp only); repeat' (first | (simp; done) | rfl | split)

@[simp] theorem routerResume_frame  (s : State) :
    (routerResume s).layout = s.layout ∧ (routerResume s).alloc = s.alloc ∧ (routerResume s).mem = s.mem ∧
    (routerResume s).scanOut = s.scanOut ∧ (routerResume s).scanner = s.scanner ∧
    (routerResume s).alerts = s.alerts ∧ (routerResume s).light = s.light ∧ (routerResume s).park = s.park ∧
    (routerResume s).inputs = s.inputs ∧ (routerResume s).lines = s.lines ∧ (routerResume s).now = s.now ∧
    (routerResume s).freeCount = s.freeCount ∧ (routerResume s).pending = s.pending ∧
    (routerResume s).router.focus = s.router.focus ∧ (routerResume s).router.hold = s.router.hold ∧
    (routerResume s).router.held = s.router.held ∧ (routerResume s).dock.link = s.dock.link ∧
    (routerResume s).dock.requests = s.dock.requests ∧ (routerResume s).dock.bufferA = s.dock.bufferA ∧
    (routerResume s).dock.bufferB = s.dock.bufferB ∧ (routerResume s).dock.nextBuffer = s.dock.nextBuffer ∧
    (routerResume s).dock.stream = s.dock.stream ∧ (routerResume s).vehicle.present = s.vehicle.present ∧
    (routerResume s).vehicle.requests = s.vehicle.requests ∧ (routerResume s).vehicle.base = s.vehicle.base := by
  unfold routerResume; (try dsimp only); repeat' (first | (simp; done) | rfl | split)

@[simp] theorem departPane_frame (n : Nat) (s : State) :
    (departPane s n).scanOut = s.scanOut ∧ (departPane s n).scanner = s.scanner ∧
    (departPane s n).router = s.router ∧ (departPane s n).alerts = s.alerts ∧ (departPane s n).light = s.light ∧
    (departPane s n).park = s.park ∧ (departPane s n).inputs = s.inputs ∧ (departPane s n).lines = s.lines ∧
    (departPane s n).dock = s.dock ∧ (departPane s n).vehicle = s.vehicle ∧ (departPane s n).now = s.now ∧
    (departPane s n).pending = s.pending ∧ (departPane s n).layout.current = s.layout.current ∧
    (departPane s n).layout.frame = s.layout.frame ∧ (departPane s n).mem.tabletWrite = s.mem.tabletWrite ∧
    (departPane s n).mem.vehicleWrite = s.mem.vehicleWrite := by
  unfold departPane; (try dsimp only); repeat' (first | (simp; done) | rfl | split)

@[simp] theorem departPanes_frame (s : State) :
    (departPanes s).scanOut = s.scanOut ∧ (departPanes s).scanner = s.scanner ∧
    (departPanes s).router = s.router ∧ (departPanes s).alerts = s.alerts ∧ (departPanes s).light = s.light ∧
    (departPanes s).park = s.park ∧ (departPanes s).inputs = s.inputs ∧ (departPanes s).lines = s.lines ∧
    (departPanes s).dock = s.dock ∧ (departPanes s).vehicle = s.vehicle ∧ (departPanes s).now = s.now ∧
    (departPanes s).pending = s.pending ∧ (departPanes s).layout.current = s.layout.current ∧
    (departPanes s).layout.frame = s.layout.frame ∧ (departPanes s).mem.tabletWrite = s.mem.tabletWrite ∧
    (departPanes s).mem.vehicleWrite = s.mem.vehicleWrite := by
  have key := foldl_same (fun t : State =>
      (t.scanOut, t.scanner, t.router, t.alerts, t.light, t.park, t.inputs, t.lines, t.dock, t.vehicle, t.now,
      t.pending, t.layout.current, t.layout.frame, t.mem.tabletWrite, t.mem.vehicleWrite))
    departPane (fun t n => by simp) paneNumbers (abortFills s.tabletPreparing s)
  simp only [Prod.mk.injEq] at key
  simpa [departPanes] using key

@[simp] theorem enterHold_frame  (s : State) :
    (enterHold s).layout = s.layout ∧ (enterHold s).alloc = s.alloc ∧ (enterHold s).scanOut = s.scanOut ∧
    (enterHold s).scanner = s.scanner ∧ (enterHold s).router = s.router ∧ (enterHold s).alerts = s.alerts ∧
    (enterHold s).light = s.light ∧ (enterHold s).park = s.park ∧ (enterHold s).inputs = s.inputs ∧
    (enterHold s).vehicle = s.vehicle ∧ (enterHold s).now = s.now ∧ (enterHold s).freeCount = s.freeCount ∧
    (enterHold s).pending = s.pending ∧ (enterHold s).mem.cells = s.mem.cells ∧
    (enterHold s).mem.fills = s.mem.fills ∧ (enterHold s).mem.tabletWrite = s.mem.tabletWrite ∧
    (enterHold s).mem.vehicleWrite = s.mem.vehicleWrite ∧ (enterHold s).dock.requests = s.dock.requests ∧
    (enterHold s).dock.bufferA = s.dock.bufferA ∧ (enterHold s).dock.bufferB = s.dock.bufferB ∧
    (enterHold s).dock.nextBuffer = s.dock.nextBuffer ∧ (enterHold s).dock.stream = s.dock.stream := by
  unfold enterHold; (try dsimp only); repeat' (first | (simp; done) | rfl | split)

@[simp] theorem flush_frame  (s : State) :
    (flush s).layout = s.layout ∧ (flush s).alloc = s.alloc ∧ (flush s).mem = s.mem ∧
    (flush s).scanOut = s.scanOut ∧ (flush s).scanner = s.scanner ∧ (flush s).alerts = s.alerts ∧
    (flush s).light = s.light ∧ (flush s).park = s.park ∧ (flush s).inputs = s.inputs ∧ (flush s).lines = s.lines ∧
    (flush s).now = s.now ∧ (flush s).freeCount = s.freeCount ∧ (flush s).pending = s.pending ∧
    (flush s).router.focus = s.router.focus ∧ (flush s).router.hold = s.router.hold ∧
    (flush s).dock.link = s.dock.link ∧ (flush s).dock.requests = s.dock.requests ∧
    (flush s).dock.bufferA = s.dock.bufferA ∧ (flush s).dock.bufferB = s.dock.bufferB ∧
    (flush s).dock.nextBuffer = s.dock.nextBuffer ∧ (flush s).dock.stream = s.dock.stream ∧
    (flush s).vehicle.present = s.vehicle.present ∧ (flush s).vehicle.requests = s.vehicle.requests ∧
    (flush s).vehicle.base = s.vehicle.base := by
  have key := foldl_same (fun t : State =>
      (t.layout, t.alloc, t.mem, t.scanOut, t.scanner, t.alerts, t.light, t.park, t.inputs, t.lines, t.now,
      t.freeCount, t.pending, t.router.focus, t.router.hold, t.dock.link, t.dock.requests, t.dock.bufferA,
      t.dock.bufferB, t.dock.nextBuffer, t.dock.stream, t.vehicle.present, t.vehicle.requests, t.vehicle.base))
    (fun t (e : HeldKey) => releaseTo e.target e.code t) (fun t e => by simp) s.router.held s
  simp only [Prod.mk.injEq] at key
  simpa [flush] using key

@[simp] theorem takeWriteData_frame (o : Nat) (d : List Byte) (s : State) :
    (takeWriteData o d s).layout = s.layout ∧ (takeWriteData o d s).alloc = s.alloc ∧
    (takeWriteData o d s).mem = s.mem ∧ (takeWriteData o d s).scanOut = s.scanOut ∧
    (takeWriteData o d s).scanner = s.scanner ∧ (takeWriteData o d s).router = s.router ∧
    (takeWriteData o d s).alerts = s.alerts ∧ (takeWriteData o d s).light = s.light ∧
    (takeWriteData o d s).park = s.park ∧ (takeWriteData o d s).inputs = s.inputs ∧
    (takeWriteData o d s).lines = s.lines ∧ (takeWriteData o d s).vehicle = s.vehicle ∧
    (takeWriteData o d s).now = s.now ∧ (takeWriteData o d s).freeCount = s.freeCount ∧
    (takeWriteData o d s).pending = s.pending := by
  unfold takeWriteData; (try dsimp only); repeat' (first | (simp; done) | rfl | split)

end Sys2Proof.Machine
end

