-- ==== Sys2Proof/Laws/Memory.lean ====
section
/-! SUPPORT. The bytes of surface memory: what a read gives after the one write operation, and that every operation that
changes the bytes keeps the canonical form. -/

namespace Sys2Proof.Machine

/-! ### Reading a list of cells -/

theorem read_append_of_absent (l r : List Host.Cell) (a : Nat) (h : ∀ c ∈ l, c.1 ≠ a) :
    Memory.read (l ++ r) a = Memory.read r a := by
  induction l with
  | nil => rfl
  | cons c l ih =>
    obtain ⟨k, v⟩ := c
    have hk : k ≠ a := h (k, v) (by simp)
    simp only [List.cons_append, Memory.read, hk, if_false]
    exact ih fun c hc => h c (by simp [hc])

theorem read_of_absent (l : List Host.Cell) (a : Nat) (h : ∀ c ∈ l, c.1 ≠ a) :
    Memory.read l a = Memory.unlisted := by
  simpa [Memory.read] using read_append_of_absent l [] a h

theorem read_append_absent_right (l r : List Host.Cell) (a : Nat) (h : ∀ c ∈ r, c.1 ≠ a) :
    Memory.read (l ++ r) a = Memory.read l a := by
  induction l with
  | nil => simpa [Memory.read] using read_of_absent r a h
  | cons c l ih =>
    obtain ⟨k, v⟩ := c
    by_cases hk : k = a <;> simp [Memory.read, hk, ih]

theorem read_filter (p : Nat → Bool) (l : List Host.Cell) (a : Nat) (h : p a = true) :
    Memory.read (l.filter fun c => p c.1) a = Memory.read l a := by
  induction l with
  | nil => rfl
  | cons c l ih =>
    obtain ⟨k, v⟩ := c
    by_cases hk : k = a
    · subst hk; simp [h, Memory.read]
    · by_cases hp : p k <;> simp [hp, Memory.read, hk, ih]

theorem mem_window (f : Nat → Byte) (base len : Nat) (c : Host.Cell) :
    c ∈ Memory.window f base len ↔
      base ≤ c.1 ∧ c.1 < base + len ∧ c.1 < memoryBytes ∧ f c.1 ≠ Memory.unlisted ∧ c.2 = f c.1 := by
  obtain ⟨k, v⟩ := c
  simp only [Memory.window, List.mem_filterMap, List.mem_range'_1]
  constructor
  · rintro ⟨a, ⟨h1, h2⟩, h⟩
    split at h
    · rename_i h3
      cases h
      exact ⟨h1, h2, h3.1, h3.2, rfl⟩
    · cases h
  · rintro ⟨h1, h2, h3, h4, h5⟩
    exact ⟨k, ⟨h1, h2⟩, by simp [h3, h4, h5]⟩

theorem window_sorted (f : Nat → Byte) (base len : Nat) :
    (Memory.window f base len).Pairwise fun c d => c.1 < d.1 := by
  unfold Memory.window
  rw [List.pairwise_filterMap]
  refine List.Pairwise.imp ?_ (List.pairwise_lt_range' (s := base) (n := len) (step := 1) (by omega))
  intro a b hab c hc d hd
  simp only [Option.ite_none_right_eq_some, Option.some.injEq] at hc hd
  rw [← hc.2, ← hd.2]
  exact hab

theorem read_window (f : Nat → Byte) (base len a : Nat) (h : base ≤ a ∧ a < base + len ∧ a < memoryBytes) :
    Memory.read (Memory.window f base len) a = f a := by
  unfold Memory.window
  induction len generalizing base with
  | zero => omega
  | succ n ih =>
    rw [List.range'_succ, List.filterMap_cons]
    by_cases hb : base = a
    · subst hb
      by_cases hf : f base = Memory.unlisted
      · simp only [hf, ne_eq, not_true_eq_false, and_false, if_false]
        have := read_of_absent (Memory.window f (base + 1) n) base fun c hc => by
          have := (mem_window f (base + 1) n c).1 hc
          omega
        simpa [Memory.window] using this
      · simp [h.2.2, hf, Memory.read]
    · have ihn := ih (base + 1) (by omega)
      split <;> rename_i heq
      · exact ihn
      · split at heq
        · cases heq
          simp only [Memory.read, hb, if_false]
          exact ihn
        · cases heq

/-! ### Canonical lists -/

/-- The entries of a canonical list are the bytes that do not read as an unlisted one. -/
theorem mem_iff_read {m : List Host.Cell} (hm : Memory.wf m) (c : Host.Cell) :
    c ∈ m ↔ Memory.read m c.1 = c.2 ∧ c.2 ≠ Memory.unlisted := by
  obtain ⟨a, v⟩ := c
  induction m with
  | nil => simpa [Memory.read] using fun h : Memory.unlisted = v => h.symm
  | cons d m ih =>
    obtain ⟨k, w⟩ := d
    obtain ⟨order, entries⟩ := hm
    have above := (List.pairwise_cons.1 order).1
    have ih := ih ⟨(List.pairwise_cons.1 order).2, fun c hc => entries c (by simp [hc])⟩
    by_cases hk : k = a
    · subst hk
      have absent : (k, v) ∉ m := fun h => absurd (above _ h) (by simp)
      have := (entries (k, w) (by simp)).2
      simp only [List.mem_cons, Prod.mk.injEq, true_and, absent, or_false, Memory.read, if_true]
      constructor
      · rintro rfl; exact ⟨rfl, this⟩
      · exact fun h => h.1.symm
    · have : ¬a = k := fun h => hk h.symm
      simp only [List.mem_cons, Prod.mk.injEq, this, false_and, false_or, ih, Memory.read, hk, if_false]

/-- Canonical memories that read alike are one list. -/
theorem wf_ext {m n : List Host.Cell} (hm : Memory.wf m) (hn : Memory.wf n)
    (h : ∀ a, Memory.read m a = Memory.read n a) : m = n := by
  have apart : ∀ {l : List Host.Cell}, Memory.wf l → l.Nodup := fun hl =>
    hl.1.imp fun {c d} hcd heq => by subst heq; omega
  have perm : m.Perm n := (List.perm_ext_iff_of_nodup (apart hm) (apart hn)).2 fun c => by
    rw [mem_iff_read hm, mem_iff_read hn, h]
  exact perm.eq_of_pairwise (fun c d _ _ hcd hdc => by omega) hm.1 hn.1

/-! ### The write operation -/

/-- Everything a write does to a byte: an address of the written range for which `f` gives a byte reads as that byte, every
other address as before. -/
theorem read_update (m : List Host.Cell) (base len : Nat) (f : Nat → Option Byte) (a : Nat) (hm : Memory.wf m) :
    Memory.read (Memory.update m base len f) a =
      if base ≤ a ∧ a < base + len ∧ a < memoryBytes then (f a).getD (Memory.read m a) else Memory.read m a := by
  unfold Memory.update
  by_cases h1 : a < base
  · rw [List.append_assoc, read_append_absent_right]
    · have := read_filter (fun k => decide (k < base)) m a (by simpa using h1)
      rw [this, if_neg (by omega)]
    · intro c hc
      rcases List.mem_append.1 hc with hc | hc
      · have := (mem_window _ _ _ c).1 hc
        omega
      · have := (List.mem_filter.1 hc).2
        simp only [decide_eq_true_eq] at this
        omega
  · rw [List.append_assoc, read_append_of_absent]
    · by_cases h2 : a < base + len
      · rw [read_append_absent_right]
        · by_cases h3 : a < memoryBytes
          · rw [read_window _ _ _ _ (by omega), if_pos (by omega)]
          · rw [read_of_absent, if_neg (by omega), read_of_absent]
            · intro c hc
              have := (hm.2 c hc).1
              omega
            · intro c hc
              have := (mem_window _ _ _ c).1 hc
              omega
        · intro c hc
          have := (List.mem_filter.1 hc).2
          simp only [decide_eq_true_eq] at this
          omega
      · rw [read_append_of_absent, if_neg (by omega)]
        · exact read_filter (fun k => decide (base + len ≤ k)) m a (by simpa using h2)
        · intro c hc
          have := (mem_window _ _ _ c).1 hc
          omega
    · intro c hc
      have := (List.mem_filter.1 hc).2
      simp only [decide_eq_true_eq] at this
      omega

/-- Inside the written range and the memory the list need not be canonical for that. -/
theorem read_update_inside (m : List Host.Cell) (base len : Nat) (f : Nat → Option Byte) (a : Nat)
    (h : base ≤ a ∧ a < base + len ∧ a < memoryBytes) :
    Memory.read (Memory.update m base len f) a = (f a).getD (Memory.read m a) := by
  unfold Memory.update
  rw [List.append_assoc, read_append_of_absent, read_append_absent_right, read_window _ _ _ _ h]
  · intro c hc
    have := (List.mem_filter.1 hc).2
    simp only [decide_eq_true_eq] at this
    omega
  · intro c hc
    have := (List.mem_filter.1 hc).2
    simp only [decide_eq_true_eq] at this
    omega

/-- A write keeps the canonical form. -/
theorem update_wf (m : List Host.Cell) (base len : Nat) (f : Nat → Option Byte) (hm : Memory.wf m) :
    Memory.wf (Memory.update m base len f) := by
  unfold Memory.update
  refine ⟨?_, ?_⟩
  · rw [List.append_assoc, List.pairwise_append, List.pairwise_append]
    refine ⟨hm.1.filter _, ⟨window_sorted _ _ _, hm.1.filter _, ?_⟩, ?_⟩
    · intro c hc d hd
      have h1 := (mem_window _ _ _ c).1 hc
      have h2 := (List.mem_filter.1 hd).2
      simp only [decide_eq_true_eq] at h2
      omega
    · intro c hc d hd
      have h1 := (List.mem_filter.1 hc).2
      simp only [decide_eq_true_eq] at h1
      rcases List.mem_append.1 hd with hd | hd
      · have := (mem_window _ _ _ d).1 hd
        omega
      · have h2 := (List.mem_filter.1 hd).2
        simp only [decide_eq_true_eq] at h2
        omega
  · intro c hc
    rcases List.mem_append.1 hc with hc | hc
    · rcases List.mem_append.1 hc with hc | hc
      · exact hm.2 c (List.mem_filter.1 hc).1
      · have := (mem_window _ _ _ c).1 hc
        exact ⟨this.2.2.1, this.2.2.2.2 ▸ this.2.2.2.1⟩
    · exact hm.2 c (List.mem_filter.1 hc).1

/-! ### The operations over it -/

theorem fold_wf {α : Type} (f : List Host.Cell → α → List Host.Cell) (h : ∀ m x, Memory.wf m → Memory.wf (f m x))
    (l : List α) (m : List Host.Cell) (hm : Memory.wf m) : Memory.wf (l.foldl f m) := by
  induction l generalizing m with
  | nil => exact hm
  | cons x l ih => exact ih _ (h _ _ hm)

theorem land_wf (m : List Host.Cell) (sp : Span) (hm : Memory.wf m) : Memory.wf (sp.land m) := update_wf _ _ _ _ hm

theorem landSome_wf (landed : Nat → Bool) (m : List Host.Cell) (sp : Span) (hm : Memory.wf m) :
    Memory.wf (sp.landSome landed m) := update_wf _ _ _ _ hm

theorem putCells_wf (m : List Host.Cell) (base : Nat) (cells : List TextCell) (hm : Memory.wf m) :
    Memory.wf (putCells m base cells) := update_wf _ _ _ _ hm

theorem writeResetRow_wf (m : List Host.Cell) (link : LinkState) (hm : Memory.wf m) :
    Memory.wf (writeResetRow m link) := putCells_wf _ _ _ hm

theorem drainBytes_wf (p : Pane) (st : Stream) (k : Nat) (bytes : List Byte) (m : List Host.Cell)
    (hm : Memory.wf m) : Memory.wf (drainBytes p st k bytes m) := by
  induction bytes generalizing k m with
  | nil => exact hm
  | cons b rest ih =>
    refine ih _ _ ?_
    split
    · exact update_wf _ _ _ _ hm
    · exact hm

theorem landJob_wf (s : State) (w : ActiveWrite) (cells : List Host.Cell) (hm : Memory.wf s.mem.cells)
    (h : landJob s w = some cells) : Memory.wf cells := by
  unfold landJob at h
  split at h
  · split at h
    · split at h
      · cases h
        exact fold_wf _ (fun m sp => land_wf m sp) _ _ hm
      · cases h
    · cases h; exact hm
  · cases h; exact hm

theorem landDrain_wf (s : State) (start : Nat) (bytes : List Byte) (cells : List Host.Cell)
    (hm : Memory.wf s.mem.cells) (h : landDrain s start bytes = some cells) : Memory.wf cells := by
  unfold landDrain at h
  split at h
  · split at h
    · split at h
      · split at h
        · cases h
          exact drainBytes_wf _ _ _ _ _ hm
        · cases h
      · cases h; exact hm
    · cases h; exact hm
  · cases h; exact hm

theorem cutFill_wf (e : FillEntry) (s : State) (hm : Memory.wf s.mem.cells) : Memory.wf (cutFill e s).mem.cells :=
  landSome_wf _ _ _ hm

theorem cutJob_wf (w : ActiveWrite) (s : State) (hm : Memory.wf s.mem.cells) : Memory.wf (cutJob w s).mem.cells := by
  unfold cutJob
  split
  · split
    · exact fold_wf _ (fun m sp => landSome_wf _ m sp) _ _ hm
    · exact hm
  · exact hm

theorem cutRowWrite_wf (w : RowWrite) (s : State) (hm : Memory.wf s.mem.cells) :
    Memory.wf (cutRowWrite w s).mem.cells := landSome_wf _ _ _ hm

theorem cutDrain_wf (s : State) (hm : Memory.wf s.mem.cells) : Memory.wf (cutDrain s).mem.cells := by
  unfold cutDrain
  split
  · split
    · split
      · exact drainBytes_wf _ _ _ _ _ hm
      · exact hm
    · exact hm
  · exact hm

theorem cutWrite_wf (m : Master) (s : State) (hm : Memory.wf s.mem.cells) : Memory.wf (cutWrite m s).mem.cells := by
  unfold cutWrite
  split
  · cases m <;> exact cutJob_wf _ _ hm
  · exact hm

theorem cutAll_wf (s : State) (hm : Memory.wf s.mem.cells) : Memory.wf (cutAll s).mem.cells := by
  have rows : ∀ (l : List RowWrite) (t : State), Memory.wf t.mem.cells →
      Memory.wf (l.foldl (fun s w => cutRowWrite w s) t).mem.cells := by
    intro l
    induction l with
    | nil => exact fun t ht => ht
    | cons w l ih => exact fun t ht => ih _ (cutRowWrite_wf w t ht)
  unfold cutAll
  refine rows _ _ (cutWrite_wf _ _ (cutWrite_wf _ _ (cutDrain_wf _ ?_)))
  split
  · exact cutFill_wf _ _ hm
  · exact hm

end Sys2Proof.Machine
end

