-- ==== Sys2Proof/Laws/Arbiter.lean ====
section
/-! SUPPORT. What the arbiter's operations can do, once each: who waits and who is granted in the terms of Safety.lean, what a
grant leaves as it was, and what its access does to the bytes. -/

namespace Sys2Proof.Machine

open Sys2Proof.Safety

/-! ### Frames -/

@[simp] theorem served_frame (w : Writer) (m : SurfaceMemory) :
    (served w m).cells = m.cells ∧ (served w m).fills = m.fills ∧ (served w m).tabletWrite = m.tabletWrite ∧
    (served w m).vehicleWrite = m.vehicleWrite ∧ (served w m).rowWrites = m.rowWrites := by
  cases w <;> simp [served]

@[simp] theorem servedIfLeft_frame (s : State) (w : Writer) (m : SurfaceMemory) :
    (s.servedIfLeft w m).cells = m.cells ∧ (s.servedIfLeft w m).fills = m.fills ∧
    (s.servedIfLeft w m).tabletWrite = m.tabletWrite ∧ (s.servedIfLeft w m).vehicleWrite = m.vehicleWrite ∧
    (s.servedIfLeft w m).rowWrites = m.rowWrites := by
  unfold State.servedIfLeft; split <;> simp

@[simp] theorem advanceWork_frame (upTo : Nat) (w : Writer) (s : State) :
    (advanceWork upTo w s).layout = s.layout ∧ (advanceWork upTo w s).alloc = s.alloc ∧
    (advanceWork upTo w s).scanOut = s.scanOut ∧ (advanceWork upTo w s).scanner = s.scanner ∧
    (advanceWork upTo w s).router = s.router ∧ (advanceWork upTo w s).alerts = s.alerts ∧
    (advanceWork upTo w s).light = s.light ∧ (advanceWork upTo w s).park = s.park ∧
    (advanceWork upTo w s).inputs = s.inputs ∧ (advanceWork upTo w s).lines = s.lines ∧
    (advanceWork upTo w s).vehicle = s.vehicle ∧ (advanceWork upTo w s).now = s.now ∧
    (advanceWork upTo w s).freeCount = s.freeCount ∧ (advanceWork upTo w s).pending = s.pending ∧
    (advanceWork upTo w s).mem.cells = s.mem.cells ∧ (advanceWork upTo w s).mem.turn = s.mem.turn ∧
    (advanceWork upTo w s).mem.textTurn = s.mem.textTurn ∧ (advanceWork upTo w s).dock.link = s.dock.link ∧
    (advanceWork upTo w s).dock.requests = s.dock.requests ∧
    (advanceWork upTo w s).dock.outbound = s.dock.outbound ∧
    (advanceWork upTo w s).dock.nextBuffer = s.dock.nextBuffer ∧
    (advanceWork upTo w s).dock.stream = s.dock.stream := by
  unfold advanceWork
  split
  case h_2 => split <;> simp
  all_goals simp

/-- What the end of a client's work leaves as it was. -/
@[simp] theorem finishWork_frame (w : Writer) (s : State) :
    (finishWork w s).alloc = s.alloc ∧ (finishWork w s).scanOut = s.scanOut ∧
    (finishWork w s).scanner = s.scanner ∧ (finishWork w s).router = s.router ∧
    (finishWork w s).alerts = s.alerts ∧ (finishWork w s).light = s.light ∧ (finishWork w s).park = s.park ∧
    (finishWork w s).inputs = s.inputs ∧ (finishWork w s).lines = s.lines ∧
    (finishWork w s).vehicle = s.vehicle ∧ (finishWork w s).now = s.now ∧
    (finishWork w s).freeCount = s.freeCount ∧ (finishWork w s).pending = s.pending ∧
    (finishWork w s).layout.current = s.layout.current ∧ (finishWork w s).layout.nextOrder = s.layout.nextOrder ∧
    (finishWork w s).layout.frame = s.layout.frame ∧ (finishWork w s).mem.cells = s.mem.cells ∧
    (finishWork w s).mem.turn = s.mem.turn ∧ (finishWork w s).mem.textTurn = s.mem.textTurn ∧
    (finishWork w s).dock.link = s.dock.link ∧ (finishWork w s).dock.requests = s.dock.requests ∧
    (finishWork w s).dock.nextBuffer = s.dock.nextBuffer := by
  cases w with
  | fill => unfold finishWork fillDone; dsimp only; (repeat' split) <;> simp
  | drain => unfold finishWork drainDone; dsimp only; split <;> simp
  | text source => cases source <;> simp [finishWork, writeDoneOf]

@[simp] theorem grantWrite_frame (w : Writer) (s : State) :
    (grantWrite w s).alloc = s.alloc ∧ (grantWrite w s).scanOut = s.scanOut ∧ (grantWrite w s).scanner = s.scanner ∧
    (grantWrite w s).router = s.router ∧ (grantWrite w s).alerts = s.alerts ∧ (grantWrite w s).light = s.light ∧
    (grantWrite w s).park = s.park ∧ (grantWrite w s).inputs = s.inputs ∧ (grantWrite w s).lines = s.lines ∧
    (grantWrite w s).vehicle = s.vehicle ∧ (grantWrite w s).now = s.now ∧
    (grantWrite w s).freeCount = s.freeCount ∧ (grantWrite w s).pending = s.pending ∧
    (grantWrite w s).layout.current = s.layout.current ∧ (grantWrite w s).layout.nextOrder = s.layout.nextOrder ∧
    (grantWrite w s).layout.frame = s.layout.frame ∧ (grantWrite w s).dock.link = s.dock.link ∧
    (grantWrite w s).dock.requests = s.dock.requests ∧ (grantWrite w s).dock.nextBuffer = s.dock.nextBuffer := by
  unfold grantWrite
  dsimp only
  split
  · split <;> simp
  · simp

/-- The grants of a step with no command: the reads change nothing, so at most one write is left of them. -/
theorem grants_made (s t : State) :
    s.grants.foldl takeGrant t = (match s.nextWriter with
      | some w => grantWrite w t
      | none => t) := by
  have reads : ∀ (l : List Nat) (u : State), (l.map Grant.read).foldl takeGrant u = u := by
    intro l
    induction l with
    | nil => exact fun u => rfl
    | cons a l ih => exact fun u => ih u
  unfold State.grants
  rw [List.foldl_append, reads]
  cases s.nextWriter <;> rfl

/-- What a step with no command can do: nothing in full reset, else one grant if a client waits, and the frame goes on. -/
theorem idle_eq (s : State) :
    idle s = if s.scanOut.running then
        frameGoesOn (match s.nextWriter with
          | some w => grantWrite w s
          | none => s)
      else s := by
  unfold idle
  rw [grants_made]

@[simp] theorem idle_frame (s : State) :
    (idle s).alloc = s.alloc ∧ (idle s).scanner = s.scanner ∧ (idle s).router = s.router ∧
    (idle s).alerts = s.alerts ∧ (idle s).light = s.light ∧ (idle s).park = s.park ∧
    (idle s).inputs = s.inputs ∧ (idle s).lines = s.lines ∧ (idle s).vehicle = s.vehicle ∧ (idle s).now = s.now ∧
    (idle s).freeCount = s.freeCount ∧ (idle s).pending = s.pending ∧
    (idle s).layout.current = s.layout.current ∧ (idle s).layout.nextOrder = s.layout.nextOrder ∧
    (idle s).layout.frame = s.layout.frame ∧ (idle s).dock.link = s.dock.link ∧
    (idle s).dock.requests = s.dock.requests ∧ (idle s).dock.nextBuffer = s.dock.nextBuffer := by
  rw [idle_eq]
  split
  · split <;> simp
  · simp

/-! ### The bytes of an access -/

theorem placed_wf (m : List Host.Cell) (x : Placed) (hm : Memory.wf m) : Memory.wf (x.land m) := update_wf _ _ _ _ hm

/-- Landing bytes one after another keeps the canonical form. -/
theorem access_wf (l : List Placed) (m : List Host.Cell) (hm : Memory.wf m) : Memory.wf (l.foldl Placed.land m) :=
  fold_wf _ (fun m x => placed_wf m x) _ _ hm

theorem grantWrite_wf (w : Writer) (s : State) (hm : Memory.wf s.mem.cells) :
    Memory.wf (grantWrite w s).mem.cells := by
  unfold grantWrite
  dsimp only
  split
  · split <;> simpa using access_wf _ _ hm
  · exact hm

/-- A step with no command keeps the canonical form. -/
theorem idle_wf (s : State) (hm : Memory.wf s.mem.cells) : Memory.wf (idle s).mem.cells := by
  rw [idle_eq]
  split
  · split
    · simpa using grantWrite_wf _ _ hm
    · simpa using hm
  · exact hm

theorem landLeft_wf (w : Writer) (s : State) (cells : List Host.Cell) (hm : Memory.wf s.mem.cells)
    (h : s.landLeft w = some cells) : Memory.wf cells := by
  cases w with
  | fill =>
    unfold State.landLeft at h
    dsimp only at h
    split at h
    · split at h
      · cases h
        split
        · exact land_wf _ _ hm
        · exact hm
      · cases h
    · cases h; exact hm
  | drain =>
    unfold State.landLeft at h
    dsimp only at h
    split at h
    · exact landDrain_wf _ _ _ _ hm h
    · cases h; exact hm
  | text source =>
    cases source with
    | tablet =>
      cases hw : s.mem.tabletWrite with
      | none => simp only [State.landLeft, hw, Option.elim_none, Option.some.injEq] at h; exact h ▸ hm
      | some a => simp only [State.landLeft, hw, Option.elim_some] at h; exact landJob_wf _ _ _ hm h
    | vehicle =>
      cases hw : s.mem.vehicleWrite with
      | none => simp only [State.landLeft, hw, Option.elim_none, Option.some.injEq] at h; exact h ▸ hm
      | some a => simp only [State.landLeft, hw, Option.elim_some] at h; exact landJob_wf _ _ _ hm h
    | statusRow =>
      unfold State.landLeft at h
      dsimp only at h
      split at h
      · split at h
        · cases h; exact putCells_wf _ _ _ hm
        · cases h
      · cases h; exact hm

/-- Everything that a completion command can do. -/
theorem completeWork_next {w : Writer} {s t : State} (h : completeWork w s = .next t) :
    (s.scanOut.running = false ∧ t = s) ∨
      (s.scanOut.running = true ∧ ∃ cells, s.landLeft w = some cells ∧
        t = finishWork w { s with mem := s.servedIfLeft w { s.mem with cells := cells } }) := by
  unfold completeWork at h
  split at h
  · split at h
    · rename_i cells hc
      cases h
      exact .inr ⟨‹_›, cells, hc, rfl⟩
    · cases h
  · cases h
    exact .inl ⟨by simpa using ‹¬s.scanOut.running = true›, rfl⟩

/-- A completion command keeps the canonical form. -/
theorem completeWork_wf {w : Writer} {s t : State} (hm : Memory.wf s.mem.cells) (h : completeWork w s = .next t) :
    Memory.wf t.mem.cells := by
  obtain ⟨-, rfl⟩ | ⟨-, cells, hc, rfl⟩ := completeWork_next h
  · exact hm
  · simpa using landLeft_wf _ _ _ hm hc

/-- One byte landed inside the memory: that byte, and no other. -/
theorem read_placed (m : List Host.Cell) (x : Placed) (a : Nat) (hm : Memory.wf m) (hx : x.address < memoryBytes) :
    Memory.read (x.land m) a = if a = x.address then x.value else Memory.read m a := by
  unfold Placed.land
  rw [read_update _ _ _ _ _ hm]
  by_cases h : a = x.address
  · subst h; simp [hx]
  · rw [if_neg (by omega), if_neg h]

/-- An address that no byte of an access has reads as before. -/
theorem read_access_other (l : List Placed) (m : List Host.Cell) (a : Nat) (hm : Memory.wf m)
    (h : ∀ x ∈ l, x.address ≠ a) : Memory.read (l.foldl Placed.land m) a = Memory.read m a := by
  induction l generalizing m with
  | nil => rfl
  | cons x l ih =>
    rw [List.foldl_cons, ih _ (placed_wf m x hm) fun y hy => h y (by simp [hy])]
    unfold Placed.land
    rw [read_update _ _ _ _ _ hm, if_neg]
    have := h x (by simp)
    omega

/-- The bytes of an access at addresses apart stand at them afterwards. -/
theorem read_access (l : List Placed) (m : List Host.Cell) (hm : Memory.wf m)
    (apart : l.Pairwise fun x y => x.address ≠ y.address) (inside : ∀ x ∈ l, x.address < memoryBytes) (x : Placed)
    (hx : x ∈ l) : Memory.read (l.foldl Placed.land m) x.address = x.value := by
  induction l generalizing m with
  | nil => cases hx
  | cons y l ih =>
    rw [List.pairwise_cons] at apart
    rw [List.foldl_cons]
    rcases List.mem_cons.1 hx with rfl | hx
    · rw [read_access_other _ _ _ (placed_wf m x hm) fun z hz => (apart.1 z hz).symm,
        read_placed _ _ _ hm (inside x (by simp)), if_pos rfl]
    · exact ih _ (placed_wf m y hm) apart.2 (fun z hz => inside z (by simp [hz])) hx

/-- The bytes of an access lie in one aligned piece of 64 bytes. -/
theorem accessOf_piece (l : List Placed) : ∀ x ∈ accessOf l, ∀ y ∈ accessOf l, x.address / 64 = y.address / 64 := by
  cases l with
  | nil => intro x hx; cases hx
  | cons z l =>
    intro x hx y hy
    have hx := List.mem_takeWhile_imp hx
    have hy := List.mem_takeWhile_imp hy
    simp only [accessBytes, beq_iff_eq] at hx hy
    rw [hx, hy]

/-! ### Who waits and who is granted -/

theorem covers_iff (base len : Nat) : Memory.covers base len = true ↔ base + len ≤ 2097152 := decide_eq_true_iff

theorem canWrite_iff (p : Pane) (b : Nat) : p.canWrite b = true ↔ Writable p b := by
  simp [Pane.canWrite, Pane.takesWrites, Pane.bufferInMemory, covers_iff, Writable, surfaceBytes, and_assoc]

/-- Dropping bytes in front of spans drops as many of their bytes. -/
theorem spansLeft_bytes (n : Nat) (l : List Span) :
    (spansLeft n l).flatMap Span.bytes = (l.flatMap Span.bytes).drop n := by
  induction l generalizing n with
  | nil => simp [spansLeft]
  | cons sp l ih =>
    have front : Span.bytes { sp with base := sp.base + n, len := sp.len - n } = sp.bytes.drop n := by
      simp [Span.bytes, ← List.map_drop, List.drop_range']
    have len : sp.bytes.length = sp.len := by simp [Span.bytes]
    rw [spansLeft, List.flatMap_cons, List.flatMap_cons, ih, front, List.drop_append, len]

/-- The number of bytes that a write puts into a pane. -/
theorem job_bytes_length (p : Pane) (job : WriteJob) : ((job.spans p).flatMap Span.bytes).length = jobBytes p job := by
  have sum : ∀ (c n : Nat), (List.map (fun _ => c) (List.range n)).sum = c * n := by
    intro c n; simp [Nat.mul_comm]
  rw [List.length_flatMap]
  cases job with
  | fillRect _ b rect colour =>
    simp only [WriteJob.spans, List.map_map, jobBytes, Function.comp_def, Span.bytes, List.length_map,
      List.length_range']
    exact sum _ _
  | textPut _ b row column cells =>
    by_cases h : row < p.sizeY <;> simp [WriteJob.spans, jobBytes, h, Span.bytes]
  | textClear _ b => simp [WriteJob.spans, jobBytes, Span.bytes, surfaceBytes]

/-- The bytes that a write has left. -/
theorem active_placed_length (p : Pane) (w : ActiveWrite) : (w.placed p).length = jobBytes p w.job - w.done := by
  unfold ActiveWrite.placed ActiveWrite.spans
  rw [List.length_map, List.length_zipIdx, spansLeft_bytes, List.length_drop, job_bytes_length]

theorem writeLeft_iff (w : Option ActiveWrite) (s : State) :
    (w.map s.writeLeft).getD [] ≠ [] ↔ WriteLeft w s := by
  cases w with
  | none => simp [WriteLeft]
  | some a =>
    cases hp : s.pane? a.job.pane with
    | none => simp [State.writeLeft, WriteLeft, hp]
    | some p =>
      by_cases hw : p.canWrite a.job.buffer = true
      · have := (canWrite_iff _ _).1 hw
        have len := active_placed_length p a
        rw [Option.map_some, Option.getD_some, State.writeLeft, hp]
        simp only [hw, if_true]
        rw [← List.length_pos_iff, len]
        constructor
        · exact fun h => ⟨a, p, rfl, hp, this, by omega⟩
        · rintro ⟨_, q, ⟨⟩, hq, -, h⟩
          obtain rfl : p = q := Option.some.inj (hp.symm.trans hq)
          omega
      · have := mt (canWrite_iff _ _).2 hw
        simp [State.writeLeft, WriteLeft, hp, hw, this]

/-- A client waits exactly when it has work left. -/
theorem waits_iff_hasWork (w : Writer) (s : State) : s.waits w = true ↔ HasWork w s := by
  have unfolded : s.waits w = true ↔ s.work w ≠ [] := by simp [State.waits]
  rw [unfolded]
  cases w with
  | fill =>
    cases hf : s.mem.fills with
    | nil => simp [State.work, HasWork, hf]
    | cons e rest =>
      cases hp : s.pane? e.pane with
      | none => simp [State.work, HasWork, hf, hp]
      | some p =>
        by_cases hq : p.phase = .preparing <;> by_cases hb : e.blocksDone < e.run.length <;>
          simp [State.work, HasWork, hf, hp, hq, hb, FillEntry.placed, FillEntry.inMemory, covers_iff,
            blockBytes, Nat.add_mul, Nat.sub_eq_zero_iff_le]
  | drain =>
    cases ho : s.dock.oldest with
    | none => simp [State.work, HasWork, ho]
    | some name =>
      cases hc : (s.dock.rx name).content with
      | none => simp [State.work, HasWork, ho, hc]
      | some c =>
        obtain ⟨start, bytes⟩ := c
        cases hs : s.dock.stream with
        | none => simp [State.work, HasWork, ho, hc, hs]
        | some st =>
          cases hp : s.pane? st.pane with
          | none => simp [State.work, HasWork, ho, hc, hs, hp]
          | some p =>
            by_cases hw : p.canWrite st.buffer = true
            · have hw' := (canWrite_iff _ _).1 hw
              simp only [State.work, HasWork, ho, hc, hs, hp, hw, Option.bind_some, if_true]
              constructor
              · intro h
                obtain ⟨x, hx⟩ := List.exists_mem_of_ne_nil _ h
                simp only [Stream.placed, List.mem_filterMap, Option.map_eq_some_iff, Prod.exists] at hx
                obtain ⟨b, k, hk, a, ha, -⟩ := hx
                have := List.mem_zipIdx hk
                simp only [Stream.target, Option.ite_none_right_eq_some] at ha
                exact ⟨name, start, bytes, st, p, k, rfl, hc, rfl, hp, hw', this.1, this.2.1, ha.1.1, ha.1.2⟩
              · rintro ⟨name', start', bytes', st', p', k, hn, hc', hst, hp', -, h1, h2, h3, h4⟩
                cases hn; cases hst
                obtain rfl : p = p' := Option.some.inj (hp.symm.trans hp')
                rw [hc] at hc'
                cases hc'
                intro hnil
                have hmem : (bytes[k - start], k) ∈ bytes.zipIdx start := by
                  rw [List.mem_zipIdx_iff_le_and_getElem?_sub]
                  exact ⟨h1, by simp⟩
                have : ({ number := k, address := _, value := bytes[k - start] } : Placed) ∈ st.placed p start bytes :=
                  List.mem_filterMap.2 ⟨_, hmem, by simp only [Stream.target, h3, h4, and_self, if_true]; rfl⟩
                rw [hnil] at this
                cases this
            · have := mt (canWrite_iff _ _).2 hw
              simp only [State.work, HasWork, ho, hc, hs, hp, hw, Option.bind_some]
              constructor
              · intro h; simp at h
              · rintro ⟨_, _, _, st', p', _, _, _, hst, hp', hw', _⟩
                cases hst
                obtain rfl : p = p' := Option.some.inj (hp.symm.trans hp')
                exact absurd hw' this
  | text source =>
    cases source with
    | tablet => exact writeLeft_iff _ _
    | vehicle => exact writeLeft_iff _ _
    | statusRow =>
      cases hr : s.mem.rowWrites with
      | nil => simp [State.work, HasWork, hr]
      | cons r rest =>
        by_cases hc : 1966080 + 2 * (r.column + r.cells.length) ≤ 2097152
        · have : 1966080 + 2 * r.column + 2 * r.cells.length ≤ 2097152 := by omega
          simp [State.work, HasWork, hr, covers_iff, statusRowBase, this, hc, RowWrite.placed]
        · have : ¬1966080 + 2 * r.column + 2 * r.cells.length ≤ 2097152 := by omega
          simp [State.work, HasWork, hr, covers_iff, statusRowBase, this, hc]

/-- The order of the turns. -/
theorem cycle_eq_turns (s : State) : s.cycle = turns s := by
  unfold State.cycle turns
  cases s.mem.turn <;> cases s.mem.textTurn <;> rfl

/-- The next grant goes to the client that Safety.lean's `Granted` names. -/
theorem nextWriter_iff_granted (w : Writer) (s : State) : s.nextWriter = some w ↔ Granted w s := by
  unfold State.nextWriter Granted
  rw [cycle_eq_turns, List.find?_eq_some_iff_append]
  simp only [waits_iff_hasWork, Bool.not_eq_true', ← Bool.not_eq_true]

end Sys2Proof.Machine
end

