-- ==== Sys2Proof/Laws/FramesTop.lean ====
section
/-! SUPPORT. Frame lemmas of the operations built from those of Frames.lean: focus, alerts, keys, park, the links and the
frame boundary. -/

set_option linter.unusedTactic false
set_option linter.unreachableTactic false
set_option linter.unusedSimpArgs false

namespace Sys2Proof.Machine

@[simp] theorem linkStart_frame (g : Nat) (s : State) :
    (linkStart g s).layout = s.layout ∧ (linkStart g s).alloc = s.alloc ∧ (linkStart g s).scanOut = s.scanOut ∧
    (linkStart g s).scanner = s.scanner ∧ (linkStart g s).alerts = s.alerts ∧ (linkStart g s).light = s.light ∧
    (linkStart g s).park = s.park ∧ (linkStart g s).inputs = s.inputs ∧ (linkStart g s).now = s.now ∧
    (linkStart g s).freeCount = s.freeCount ∧ (linkStart g s).pending = s.pending ∧
    (linkStart g s).mem.cells = s.mem.cells ∧ (linkStart g s).mem.fills = s.mem.fills ∧
    (linkStart g s).mem.tabletWrite = s.mem.tabletWrite ∧ (linkStart g s).mem.vehicleWrite = s.mem.vehicleWrite ∧
    (linkStart g s).router.focus = s.router.focus ∧ (linkStart g s).router.hold = s.router.hold ∧
    (linkStart g s).router.held = s.router.held ∧ (linkStart g s).dock.requests = s.dock.requests ∧
    (linkStart g s).dock.bufferA = s.dock.bufferA ∧ (linkStart g s).dock.bufferB = s.dock.bufferB ∧
    (linkStart g s).dock.nextBuffer = s.dock.nextBuffer ∧ (linkStart g s).dock.stream = s.dock.stream ∧
    (linkStart g s).vehicle.present = s.vehicle.present ∧ (linkStart g s).vehicle.requests = s.vehicle.requests ∧
    (linkStart g s).vehicle.base = s.vehicle.base := by
  unfold linkStart; (try dsimp only); repeat' (first | (simp; done) | rfl | split)

@[simp] theorem holdBegins_frame  (s : State) :
    (holdBegins s).layout = s.layout ∧ (holdBegins s).alloc = s.alloc ∧ (holdBegins s).scanOut = s.scanOut ∧
    (holdBegins s).scanner = s.scanner ∧ (holdBegins s).alerts = s.alerts ∧ (holdBegins s).park = s.park ∧
    (holdBegins s).inputs = s.inputs ∧ (holdBegins s).now = s.now ∧ (holdBegins s).freeCount = s.freeCount ∧
    (holdBegins s).pending = s.pending ∧ (holdBegins s).mem.cells = s.mem.cells ∧
    (holdBegins s).mem.fills = s.mem.fills ∧ (holdBegins s).mem.tabletWrite = s.mem.tabletWrite ∧
    (holdBegins s).mem.vehicleWrite = s.mem.vehicleWrite ∧ (holdBegins s).router.held = s.router.held ∧
    (holdBegins s).router.tablet = s.router.tablet ∧ (holdBegins s).router.vehicle = s.router.vehicle ∧
    (holdBegins s).light.target = s.light.target ∧ (holdBegins s).light.applied = s.light.applied ∧
    (holdBegins s).light.parked = s.light.parked ∧ (holdBegins s).lines.ledTimer = s.lines.ledTimer ∧
    (holdBegins s).dock.link = s.dock.link ∧ (holdBegins s).dock.requests = s.dock.requests ∧
    (holdBegins s).dock.bufferA = s.dock.bufferA ∧ (holdBegins s).dock.bufferB = s.dock.bufferB ∧
    (holdBegins s).dock.nextBuffer = s.dock.nextBuffer ∧ (holdBegins s).dock.stream = s.dock.stream ∧
    (holdBegins s).vehicle.present = s.vehicle.present ∧ (holdBegins s).vehicle.requests = s.vehicle.requests ∧
    (holdBegins s).vehicle.base = s.vehicle.base := by
  unfold holdBegins; (try dsimp only); repeat' (first | (simp; done) | rfl | split)

@[simp] theorem topChanged_frame (n : Nat) (s : State) :
    (topChanged n s).layout = s.layout ∧ (topChanged n s).alloc = s.alloc ∧ (topChanged n s).scanOut = s.scanOut ∧
    (topChanged n s).scanner = s.scanner ∧ (topChanged n s).alerts = s.alerts ∧ (topChanged n s).light = s.light ∧
    (topChanged n s).park = s.park ∧ (topChanged n s).inputs = s.inputs ∧ (topChanged n s).lines = s.lines ∧
    (topChanged n s).now = s.now ∧ (topChanged n s).freeCount = s.freeCount ∧
    (topChanged n s).pending = s.pending ∧ (topChanged n s).mem.cells = s.mem.cells ∧
    (topChanged n s).mem.fills = s.mem.fills ∧ (topChanged n s).mem.tabletWrite = s.mem.tabletWrite ∧
    (topChanged n s).mem.vehicleWrite = s.mem.vehicleWrite ∧ (topChanged n s).router.hold = s.router.hold ∧
    (topChanged n s).router.held = s.router.held ∧ (topChanged n s).router.tablet = s.router.tablet ∧
    (topChanged n s).router.vehicle = s.router.vehicle ∧ (topChanged n s).dock.link = s.dock.link ∧
    (topChanged n s).dock.requests = s.dock.requests ∧ (topChanged n s).dock.bufferA = s.dock.bufferA ∧
    (topChanged n s).dock.bufferB = s.dock.bufferB ∧ (topChanged n s).dock.nextBuffer = s.dock.nextBuffer ∧
    (topChanged n s).dock.stream = s.dock.stream ∧ (topChanged n s).vehicle.present = s.vehicle.present ∧
    (topChanged n s).vehicle.requests = s.vehicle.requests ∧ (topChanged n s).vehicle.base = s.vehicle.base := by
  unfold topChanged; (try dsimp only); repeat' (first | (simp; done) | rfl | split)

@[simp] theorem holdEnds_frame (n : Nat) (s : State) :
    (holdEnds n s).layout = s.layout ∧ (holdEnds n s).alloc = s.alloc ∧ (holdEnds n s).scanOut = s.scanOut ∧
    (holdEnds n s).scanner = s.scanner ∧ (holdEnds n s).park = s.park ∧ (holdEnds n s).inputs = s.inputs ∧
    (holdEnds n s).now = s.now ∧ (holdEnds n s).freeCount = s.freeCount ∧ (holdEnds n s).pending = s.pending ∧
    (holdEnds n s).mem.cells = s.mem.cells ∧ (holdEnds n s).mem.fills = s.mem.fills ∧
    (holdEnds n s).mem.tabletWrite = s.mem.tabletWrite ∧ (holdEnds n s).mem.vehicleWrite = s.mem.vehicleWrite ∧
    (holdEnds n s).router.held = s.router.held ∧ (holdEnds n s).router.tablet = s.router.tablet ∧
    (holdEnds n s).router.vehicle = s.router.vehicle ∧ (holdEnds n s).alerts.stack = s.alerts.stack ∧
    (holdEnds n s).light.target = s.light.target ∧ (holdEnds n s).light.applied = s.light.applied ∧
    (holdEnds n s).light.parked = s.light.parked ∧ (holdEnds n s).lines.ledTimer = s.lines.ledTimer ∧
    (holdEnds n s).dock.link = s.dock.link ∧ (holdEnds n s).dock.requests = s.dock.requests ∧
    (holdEnds n s).dock.bufferA = s.dock.bufferA ∧ (holdEnds n s).dock.bufferB = s.dock.bufferB ∧
    (holdEnds n s).dock.nextBuffer = s.dock.nextBuffer ∧ (holdEnds n s).dock.stream = s.dock.stream ∧
    (holdEnds n s).vehicle.present = s.vehicle.present ∧ (holdEnds n s).vehicle.requests = s.vehicle.requests ∧
    (holdEnds n s).vehicle.base = s.vehicle.base := by
  unfold holdEnds; (try dsimp only); repeat' (first | (simp; done) | rfl | split)

@[simp] theorem fixUp_frame  (s : State) :
    (fixUp s).layout = s.layout ∧ (fixUp s).alloc = s.alloc ∧ (fixUp s).scanOut = s.scanOut ∧
    (fixUp s).scanner = s.scanner ∧ (fixUp s).alerts = s.alerts ∧ (fixUp s).light = s.light ∧
    (fixUp s).park = s.park ∧ (fixUp s).inputs = s.inputs ∧ (fixUp s).lines = s.lines ∧ (fixUp s).now = s.now ∧
    (fixUp s).freeCount = s.freeCount ∧ (fixUp s).pending = s.pending ∧ (fixUp s).mem.cells = s.mem.cells ∧
    (fixUp s).mem.fills = s.mem.fills ∧ (fixUp s).mem.tabletWrite = s.mem.tabletWrite ∧
    (fixUp s).mem.vehicleWrite = s.mem.vehicleWrite ∧ (fixUp s).router.hold = s.router.hold ∧
    (fixUp s).router.held = s.router.held ∧ (fixUp s).router.tablet = s.router.tablet ∧
    (fixUp s).router.vehicle = s.router.vehicle ∧ (fixUp s).dock.link = s.dock.link ∧
    (fixUp s).dock.requests = s.dock.requests ∧ (fixUp s).dock.bufferA = s.dock.bufferA ∧
    (fixUp s).dock.bufferB = s.dock.bufferB ∧ (fixUp s).dock.nextBuffer = s.dock.nextBuffer ∧
    (fixUp s).dock.stream = s.dock.stream ∧ (fixUp s).vehicle.present = s.vehicle.present ∧
    (fixUp s).vehicle.requests = s.vehicle.requests ∧ (fixUp s).vehicle.base = s.vehicle.base := by
  unfold fixUp; (try dsimp only); repeat' (first | (simp; done) | rfl | split)

@[simp] theorem deferredFocus_frame (n : Nat) (s : State) :
    (deferredFocus n s).layout = s.layout ∧ (deferredFocus n s).alloc = s.alloc ∧
    (deferredFocus n s).scanOut = s.scanOut ∧ (deferredFocus n s).scanner = s.scanner ∧
    (deferredFocus n s).light = s.light ∧ (deferredFocus n s).park = s.park ∧
    (deferredFocus n s).inputs = s.inputs ∧ (deferredFocus n s).lines = s.lines ∧ (deferredFocus n s).now = s.now ∧
    (deferredFocus n s).freeCount = s.freeCount ∧ (deferredFocus n s).pending = s.pending ∧
    (deferredFocus n s).mem.cells = s.mem.cells ∧ (deferredFocus n s).mem.fills = s.mem.fills ∧
    (deferredFocus n s).mem.tabletWrite = s.mem.tabletWrite ∧
    (deferredFocus n s).mem.vehicleWrite = s.mem.vehicleWrite ∧ (deferredFocus n s).router.hold = s.router.hold ∧
    (deferredFocus n s).router.held = s.router.held ∧ (deferredFocus n s).router.tablet = s.router.tablet ∧
    (deferredFocus n s).router.vehicle = s.router.vehicle ∧ (deferredFocus n s).alerts.stack = s.alerts.stack ∧
    (deferredFocus n s).dock.link = s.dock.link ∧ (deferredFocus n s).dock.requests = s.dock.requests ∧
    (deferredFocus n s).dock.bufferA = s.dock.bufferA ∧ (deferredFocus n s).dock.bufferB = s.dock.bufferB ∧
    (deferredFocus n s).dock.nextBuffer = s.dock.nextBuffer ∧ (deferredFocus n s).dock.stream = s.dock.stream ∧
    (deferredFocus n s).vehicle.present = s.vehicle.present ∧
    (deferredFocus n s).vehicle.requests = s.vehicle.requests ∧ (deferredFocus n s).vehicle.base = s.vehicle.base := by
  unfold deferredFocus; (try dsimp only); repeat' (first | (simp; done) | rfl | split)

@[simp] theorem alertAbsence_frame  (s : State) :
    (alertAbsence s).layout = s.layout ∧ (alertAbsence s).alloc = s.alloc ∧ (alertAbsence s).scanOut = s.scanOut ∧
    (alertAbsence s).scanner = s.scanner ∧ (alertAbsence s).light = s.light ∧ (alertAbsence s).park = s.park ∧
    (alertAbsence s).inputs = s.inputs ∧ (alertAbsence s).lines = s.lines ∧ (alertAbsence s).now = s.now ∧
    (alertAbsence s).freeCount = s.freeCount ∧ (alertAbsence s).pending = s.pending ∧
    (alertAbsence s).mem.cells = s.mem.cells ∧ (alertAbsence s).mem.fills = s.mem.fills ∧
    (alertAbsence s).mem.tabletWrite = s.mem.tabletWrite ∧ (alertAbsence s).mem.vehicleWrite = s.mem.vehicleWrite ∧
    (alertAbsence s).router.hold = s.router.hold ∧ (alertAbsence s).router.held = s.router.held ∧
    (alertAbsence s).router.tablet = s.router.tablet ∧ (alertAbsence s).router.vehicle = s.router.vehicle ∧
    (alertAbsence s).alerts.stack = s.alerts.stack ∧ (alertAbsence s).dock.link = s.dock.link ∧
    (alertAbsence s).dock.requests = s.dock.requests ∧ (alertAbsence s).dock.bufferA = s.dock.bufferA ∧
    (alertAbsence s).dock.bufferB = s.dock.bufferB ∧ (alertAbsence s).dock.nextBuffer = s.dock.nextBuffer ∧
    (alertAbsence s).dock.stream = s.dock.stream ∧ (alertAbsence s).vehicle.present = s.vehicle.present ∧
    (alertAbsence s).vehicle.requests = s.vehicle.requests ∧ (alertAbsence s).vehicle.base = s.vehicle.base := by
  unfold alertAbsence; (try dsimp only); repeat' (first | (simp; done) | rfl | split)

@[simp] theorem alertReturn_frame  (s : State) :
    (alertReturn s).layout = s.layout ∧ (alertReturn s).alloc = s.alloc ∧ (alertReturn s).scanOut = s.scanOut ∧
    (alertReturn s).scanner = s.scanner ∧ (alertReturn s).light = s.light ∧ (alertReturn s).park = s.park ∧
    (alertReturn s).inputs = s.inputs ∧ (alertReturn s).lines = s.lines ∧ (alertReturn s).now = s.now ∧
    (alertReturn s).freeCount = s.freeCount ∧ (alertReturn s).pending = s.pending ∧
    (alertReturn s).mem.cells = s.mem.cells ∧ (alertReturn s).mem.fills = s.mem.fills ∧
    (alertReturn s).mem.tabletWrite = s.mem.tabletWrite ∧ (alertReturn s).mem.vehicleWrite = s.mem.vehicleWrite ∧
    (alertReturn s).router.hold = s.router.hold ∧ (alertReturn s).router.held = s.router.held ∧
    (alertReturn s).router.tablet = s.router.tablet ∧ (alertReturn s).router.vehicle = s.router.vehicle ∧
    (alertReturn s).alerts.stack = s.alerts.stack ∧ (alertReturn s).dock.link = s.dock.link ∧
    (alertReturn s).dock.requests = s.dock.requests ∧ (alertReturn s).dock.bufferA = s.dock.bufferA ∧
    (alertReturn s).dock.bufferB = s.dock.bufferB ∧ (alertReturn s).dock.nextBuffer = s.dock.nextBuffer ∧
    (alertReturn s).dock.stream = s.dock.stream ∧ (alertReturn s).vehicle.present = s.vehicle.present ∧
    (alertReturn s).vehicle.requests = s.vehicle.requests ∧ (alertReturn s).vehicle.base = s.vehicle.base := by
  have key := foldl_same (fun t : State =>
      (t.layout, t.alloc, t.scanOut, t.scanner, t.light, t.park, t.inputs, t.lines, t.now, t.freeCount,
      t.pending, t.mem.cells, t.mem.fills, t.mem.tabletWrite, t.mem.vehicleWrite, t.router.hold, t.router.held,
      t.router.tablet, t.router.vehicle, t.alerts.stack, t.dock.link, t.dock.requests, t.dock.bufferA,
      t.dock.bufferB, t.dock.nextBuffer, t.dock.stream, t.vehicle.present, t.vehicle.requests, t.vehicle.base))
    (fun t n => handVehicle (.notice (.alertAcknowledged n)) t) (fun t n => by simp) s.alerts.unreported s
  simp only [Prod.mk.injEq] at key
  unfold alertReturn
  dsimp only
  split <;> simpa using key

@[simp] theorem focusNext_frame  (s : State) :
    (focusNext s).layout = s.layout ∧ (focusNext s).alloc = s.alloc ∧ (focusNext s).scanOut = s.scanOut ∧
    (focusNext s).scanner = s.scanner ∧ (focusNext s).alerts = s.alerts ∧ (focusNext s).light = s.light ∧
    (focusNext s).park = s.park ∧ (focusNext s).inputs = s.inputs ∧ (focusNext s).lines = s.lines ∧
    (focusNext s).now = s.now ∧ (focusNext s).freeCount = s.freeCount ∧ (focusNext s).pending = s.pending ∧
    (focusNext s).mem.cells = s.mem.cells ∧ (focusNext s).mem.fills = s.mem.fills ∧
    (focusNext s).mem.tabletWrite = s.mem.tabletWrite ∧ (focusNext s).mem.vehicleWrite = s.mem.vehicleWrite ∧
    (focusNext s).router.hold = s.router.hold ∧ (focusNext s).router.held = s.router.held ∧
    (focusNext s).router.tablet = s.router.tablet ∧ (focusNext s).router.vehicle = s.router.vehicle ∧
    (focusNext s).dock.link = s.dock.link ∧ (focusNext s).dock.requests = s.dock.requests ∧
    (focusNext s).dock.bufferA = s.dock.bufferA ∧ (focusNext s).dock.bufferB = s.dock.bufferB ∧
    (focusNext s).dock.nextBuffer = s.dock.nextBuffer ∧ (focusNext s).dock.stream = s.dock.stream ∧
    (focusNext s).vehicle.present = s.vehicle.present ∧ (focusNext s).vehicle.requests = s.vehicle.requests ∧
    (focusNext s).vehicle.base = s.vehicle.base := by
  unfold focusNext; (try dsimp only); repeat' (first | (simp; done) | rfl | split)

@[simp] theorem routedDown_frame (c : Nat) (s : State) :
    (routedDown c s).layout = s.layout ∧ (routedDown c s).alloc = s.alloc ∧ (routedDown c s).mem = s.mem ∧
    (routedDown c s).scanOut = s.scanOut ∧ (routedDown c s).scanner = s.scanner ∧
    (routedDown c s).alerts = s.alerts ∧ (routedDown c s).light = s.light ∧ (routedDown c s).park = s.park ∧
    (routedDown c s).inputs = s.inputs ∧ (routedDown c s).lines = s.lines ∧ (routedDown c s).now = s.now ∧
    (routedDown c s).freeCount = s.freeCount ∧ (routedDown c s).pending = s.pending ∧
    (routedDown c s).router.focus = s.router.focus ∧ (routedDown c s).router.hold = s.router.hold ∧
    (routedDown c s).dock.link = s.dock.link ∧ (routedDown c s).dock.requests = s.dock.requests ∧
    (routedDown c s).dock.bufferA = s.dock.bufferA ∧ (routedDown c s).dock.bufferB = s.dock.bufferB ∧
    (routedDown c s).dock.nextBuffer = s.dock.nextBuffer ∧ (routedDown c s).dock.stream = s.dock.stream ∧
    (routedDown c s).vehicle.present = s.vehicle.present ∧ (routedDown c s).vehicle.requests = s.vehicle.requests ∧
    (routedDown c s).vehicle.base = s.vehicle.base := by
  unfold routedDown; (try dsimp only); repeat' (first | (simp; done) | rfl | split)

@[simp] theorem keyUp_frame (c : Nat) (s : State) :
    (keyUp c s).layout = s.layout ∧ (keyUp c s).alloc = s.alloc ∧ (keyUp c s).mem = s.mem ∧
    (keyUp c s).scanOut = s.scanOut ∧ (keyUp c s).scanner = s.scanner ∧ (keyUp c s).alerts = s.alerts ∧
    (keyUp c s).light = s.light ∧ (keyUp c s).park = s.park ∧ (keyUp c s).inputs = s.inputs ∧
    (keyUp c s).lines = s.lines ∧ (keyUp c s).now = s.now ∧ (keyUp c s).freeCount = s.freeCount ∧
    (keyUp c s).pending = s.pending ∧ (keyUp c s).router.focus = s.router.focus ∧
    (keyUp c s).router.hold = s.router.hold ∧ (keyUp c s).dock.link = s.dock.link ∧
    (keyUp c s).dock.requests = s.dock.requests ∧ (keyUp c s).dock.bufferA = s.dock.bufferA ∧
    (keyUp c s).dock.bufferB = s.dock.bufferB ∧ (keyUp c s).dock.nextBuffer = s.dock.nextBuffer ∧
    (keyUp c s).dock.stream = s.dock.stream ∧ (keyUp c s).vehicle.present = s.vehicle.present ∧
    (keyUp c s).vehicle.requests = s.vehicle.requests ∧ (keyUp c s).vehicle.base = s.vehicle.base := by
  unfold keyUp; (try dsimp only); repeat' (first | (simp; done) | rfl | split)

@[simp] theorem resumeLink_frame  (s : State) :
    (resumeLink s).layout = s.layout ∧ (resumeLink s).alloc = s.alloc ∧ (resumeLink s).scanOut = s.scanOut ∧
    (resumeLink s).scanner = s.scanner ∧ (resumeLink s).alerts = s.alerts ∧ (resumeLink s).light = s.light ∧
    (resumeLink s).park = s.park ∧ (resumeLink s).inputs = s.inputs ∧ (resumeLink s).now = s.now ∧
    (resumeLink s).freeCount = s.freeCount ∧ (resumeLink s).pending = s.pending ∧
    (resumeLink s).mem.cells = s.mem.cells ∧ (resumeLink s).mem.fills = s.mem.fills ∧
    (resumeLink s).mem.tabletWrite = s.mem.tabletWrite ∧ (resumeLink s).mem.vehicleWrite = s.mem.vehicleWrite ∧
    (resumeLink s).router.focus = s.router.focus ∧ (resumeLink s).router.hold = s.router.hold ∧
    (resumeLink s).router.held = s.router.held ∧ (resumeLink s).dock.requests = s.dock.requests ∧
    (resumeLink s).dock.bufferA = s.dock.bufferA ∧ (resumeLink s).dock.bufferB = s.dock.bufferB ∧
    (resumeLink s).dock.nextBuffer = s.dock.nextBuffer ∧ (resumeLink s).dock.stream = s.dock.stream ∧
    (resumeLink s).vehicle.present = s.vehicle.present ∧ (resumeLink s).vehicle.requests = s.vehicle.requests ∧
    (resumeLink s).vehicle.base = s.vehicle.base := by
  unfold resumeLink; (try dsimp only); repeat' (first | (simp; done) | rfl | split)

@[simp] theorem enterParked_frame  (s : State) :
    (enterParked s).layout = s.layout ∧ (enterParked s).alloc = s.alloc ∧ (enterParked s).mem = s.mem ∧
    (enterParked s).alerts = s.alerts ∧ (enterParked s).inputs = s.inputs ∧ (enterParked s).lines = s.lines ∧
    (enterParked s).now = s.now ∧ (enterParked s).freeCount = s.freeCount ∧ (enterParked s).pending = s.pending ∧
    (enterParked s).scanOut.running = s.scanOut.running ∧ (enterParked s).router.focus = s.router.focus ∧
    (enterParked s).router.hold = s.router.hold ∧ (enterParked s).dock.link = s.dock.link ∧
    (enterParked s).dock.requests = s.dock.requests ∧ (enterParked s).dock.bufferA = s.dock.bufferA ∧
    (enterParked s).dock.bufferB = s.dock.bufferB ∧ (enterParked s).dock.nextBuffer = s.dock.nextBuffer ∧
    (enterParked s).dock.stream = s.dock.stream ∧ (enterParked s).vehicle.present = s.vehicle.present ∧
    (enterParked s).vehicle.requests = s.vehicle.requests ∧ (enterParked s).vehicle.base = s.vehicle.base := by
  unfold enterParked; (try dsimp only); repeat' (first | (simp; done) | rfl | split)

@[simp] theorem leaveParked_frame  (s : State) :
    (leaveParked s).layout = s.layout ∧ (leaveParked s).alloc = s.alloc ∧ (leaveParked s).mem = s.mem ∧
    (leaveParked s).router = s.router ∧ (leaveParked s).alerts = s.alerts ∧ (leaveParked s).park = s.park ∧
    (leaveParked s).inputs = s.inputs ∧ (leaveParked s).lines = s.lines ∧ (leaveParked s).dock = s.dock ∧
    (leaveParked s).vehicle = s.vehicle ∧ (leaveParked s).now = s.now ∧ (leaveParked s).freeCount = s.freeCount ∧
    (leaveParked s).pending = s.pending ∧ (leaveParked s).scanOut.running = s.scanOut.running ∧
    (leaveParked s).light.target = s.light.target ∧ (leaveParked s).light.applied = s.light.applied := by
  unfold leaveParked; (try dsimp only); repeat' (first | (simp; done) | rfl | split)

@[simp] theorem bayEdge_frame (h : Bool) (s : State) :
    (bayEdge h s).layout = s.layout ∧ (bayEdge h s).alloc = s.alloc ∧ (bayEdge h s).scanOut = s.scanOut ∧
    (bayEdge h s).scanner = s.scanner ∧ (bayEdge h s).router = s.router ∧ (bayEdge h s).alerts = s.alerts ∧
    (bayEdge h s).light = s.light ∧ (bayEdge h s).park = s.park ∧ (bayEdge h s).inputs = s.inputs ∧
    (bayEdge h s).vehicle = s.vehicle ∧ (bayEdge h s).now = s.now ∧ (bayEdge h s).freeCount = s.freeCount ∧
    (bayEdge h s).pending = s.pending ∧ (bayEdge h s).mem.cells = s.mem.cells ∧
    (bayEdge h s).mem.fills = s.mem.fills ∧ (bayEdge h s).mem.tabletWrite = s.mem.tabletWrite ∧
    (bayEdge h s).mem.vehicleWrite = s.mem.vehicleWrite ∧ (bayEdge h s).dock.requests = s.dock.requests ∧
    (bayEdge h s).dock.bufferA = s.dock.bufferA ∧ (bayEdge h s).dock.bufferB = s.dock.bufferB ∧
    (bayEdge h s).dock.nextBuffer = s.dock.nextBuffer ∧ (bayEdge h s).dock.stream = s.dock.stream := by
  unfold bayEdge; (try dsimp only); repeat' (first | (simp; done) | rfl | split)

@[simp] theorem silenceExpires_frame  (s : State) :
    (silenceExpires s).layout = s.layout ∧ (silenceExpires s).alloc = s.alloc ∧
    (silenceExpires s).scanOut = s.scanOut ∧ (silenceExpires s).scanner = s.scanner ∧
    (silenceExpires s).router = s.router ∧ (silenceExpires s).alerts = s.alerts ∧
    (silenceExpires s).light = s.light ∧ (silenceExpires s).park = s.park ∧ (silenceExpires s).inputs = s.inputs ∧
    (silenceExpires s).vehicle = s.vehicle ∧ (silenceExpires s).now = s.now ∧
    (silenceExpires s).freeCount = s.freeCount ∧ (silenceExpires s).pending = s.pending ∧
    (silenceExpires s).mem.cells = s.mem.cells ∧ (silenceExpires s).mem.fills = s.mem.fills ∧
    (silenceExpires s).mem.tabletWrite = s.mem.tabletWrite ∧
    (silenceExpires s).mem.vehicleWrite = s.mem.vehicleWrite ∧ (silenceExpires s).dock.requests = s.dock.requests ∧
    (silenceExpires s).dock.bufferA = s.dock.bufferA ∧ (silenceExpires s).dock.bufferB = s.dock.bufferB ∧
    (silenceExpires s).dock.nextBuffer = s.dock.nextBuffer ∧ (silenceExpires s).dock.stream = s.dock.stream := by
  unfold silenceExpires; (try dsimp only); repeat' (first | (simp; done) | rfl | split)

@[simp] theorem boundaryLayout_frame  (s : State) :
    (boundaryLayout s).mem = s.mem ∧ (boundaryLayout s).scanOut = s.scanOut ∧
    (boundaryLayout s).scanner = s.scanner ∧ (boundaryLayout s).router = s.router ∧
    (boundaryLayout s).alerts = s.alerts ∧ (boundaryLayout s).light = s.light ∧ (boundaryLayout s).park = s.park ∧
    (boundaryLayout s).inputs = s.inputs ∧ (boundaryLayout s).lines = s.lines ∧ (boundaryLayout s).now = s.now ∧
    (boundaryLayout s).freeCount = s.freeCount ∧ (boundaryLayout s).pending = s.pending ∧
    (boundaryLayout s).dock.link = s.dock.link ∧ (boundaryLayout s).dock.requests = s.dock.requests ∧
    (boundaryLayout s).dock.bufferA = s.dock.bufferA ∧ (boundaryLayout s).dock.bufferB = s.dock.bufferB ∧
    (boundaryLayout s).dock.nextBuffer = s.dock.nextBuffer ∧ (boundaryLayout s).dock.stream = s.dock.stream ∧
    (boundaryLayout s).vehicle.present = s.vehicle.present ∧
    (boundaryLayout s).vehicle.requests = s.vehicle.requests ∧ (boundaryLayout s).vehicle.base = s.vehicle.base := by
  have closes := fun l (t : State) => foldl_same (fun t : State =>
      (t.mem, t.scanOut, t.scanner, t.router, t.alerts, t.light, t.park, t.inputs, t.lines, t.now, t.freeCount,
      t.pending, t.dock.link, t.dock.requests, t.dock.bufferA, t.dock.bufferB, t.dock.nextBuffer,
      t.dock.stream, t.vehicle.present, t.vehicle.requests, t.vehicle.base))
    boundaryClose (fun t n => by simp) l t
  have lives := fun l (t : State) => foldl_same (fun t : State =>
      (t.mem, t.scanOut, t.scanner, t.router, t.alerts, t.light, t.park, t.inputs, t.lines, t.now, t.freeCount,
      t.pending, t.dock.link, t.dock.requests, t.dock.bufferA, t.dock.bufferB, t.dock.nextBuffer,
      t.dock.stream, t.vehicle.present, t.vehicle.requests, t.vehicle.base))
    boundaryLive (fun t n => by simp) l t
  have applies := fun l (t : State) => foldl_same (fun t : State =>
      (t.mem, t.scanOut, t.scanner, t.router, t.alerts, t.light, t.park, t.inputs, t.lines, t.now, t.freeCount,
      t.pending, t.dock.link, t.dock.requests, t.dock.bufferA, t.dock.bufferB, t.dock.nextBuffer,
      t.dock.stream, t.vehicle.present, t.vehicle.requests, t.vehicle.base))
    boundaryApply (fun t n => by simp) l t
  simp only [Prod.mk.injEq] at closes lives applies
  simp [boundaryLayout, closes, lives, applies]

@[simp] theorem alertPaneLive_frame (n : Nat) (s : State) :
    (alertPaneLive n s).layout = s.layout ∧ (alertPaneLive n s).alloc = s.alloc ∧
    (alertPaneLive n s).scanOut = s.scanOut ∧ (alertPaneLive n s).scanner = s.scanner ∧
    (alertPaneLive n s).park = s.park ∧ (alertPaneLive n s).inputs = s.inputs ∧ (alertPaneLive n s).now = s.now ∧
    (alertPaneLive n s).freeCount = s.freeCount ∧ (alertPaneLive n s).pending = s.pending ∧
    (alertPaneLive n s).mem.cells = s.mem.cells ∧ (alertPaneLive n s).mem.fills = s.mem.fills ∧
    (alertPaneLive n s).mem.tabletWrite = s.mem.tabletWrite ∧
    (alertPaneLive n s).mem.vehicleWrite = s.mem.vehicleWrite ∧ (alertPaneLive n s).router.held = s.router.held ∧
    (alertPaneLive n s).router.tablet = s.router.tablet ∧ (alertPaneLive n s).router.vehicle = s.router.vehicle ∧
    (alertPaneLive n s).light.target = s.light.target ∧ (alertPaneLive n s).light.applied = s.light.applied ∧
    (alertPaneLive n s).light.parked = s.light.parked ∧ (alertPaneLive n s).lines.ledTimer = s.lines.ledTimer ∧
    (alertPaneLive n s).dock.link = s.dock.link ∧ (alertPaneLive n s).dock.requests = s.dock.requests ∧
    (alertPaneLive n s).dock.bufferA = s.dock.bufferA ∧ (alertPaneLive n s).dock.bufferB = s.dock.bufferB ∧
    (alertPaneLive n s).dock.nextBuffer = s.dock.nextBuffer ∧ (alertPaneLive n s).dock.stream = s.dock.stream ∧
    (alertPaneLive n s).vehicle.present = s.vehicle.present ∧
    (alertPaneLive n s).vehicle.requests = s.vehicle.requests ∧ (alertPaneLive n s).vehicle.base = s.vehicle.base := by
  unfold alertPaneLive; (try dsimp only); repeat' (first | (simp; done) | rfl | split)

@[simp] theorem acknowledgePress_frame  (s : State) :
    (acknowledgePress s).layout = s.layout ∧ (acknowledgePress s).alloc = s.alloc ∧
    (acknowledgePress s).scanOut = s.scanOut ∧ (acknowledgePress s).scanner = s.scanner ∧
    (acknowledgePress s).park = s.park ∧ (acknowledgePress s).inputs = s.inputs ∧
    (acknowledgePress s).now = s.now ∧ (acknowledgePress s).freeCount = s.freeCount ∧
    (acknowledgePress s).pending = s.pending ∧ (acknowledgePress s).mem.cells = s.mem.cells ∧
    (acknowledgePress s).mem.fills = s.mem.fills ∧ (acknowledgePress s).mem.tabletWrite = s.mem.tabletWrite ∧
    (acknowledgePress s).mem.vehicleWrite = s.mem.vehicleWrite ∧ (acknowledgePress s).router.held = s.router.held ∧
    (acknowledgePress s).router.tablet = s.router.tablet ∧ (acknowledgePress s).router.vehicle = s.router.vehicle ∧
    (acknowledgePress s).light.target = s.light.target ∧ (acknowledgePress s).light.applied = s.light.applied ∧
    (acknowledgePress s).light.parked = s.light.parked ∧ (acknowledgePress s).lines.ledTimer = s.lines.ledTimer ∧
    (acknowledgePress s).dock.link = s.dock.link ∧ (acknowledgePress s).dock.requests = s.dock.requests ∧
    (acknowledgePress s).dock.bufferA = s.dock.bufferA ∧ (acknowledgePress s).dock.bufferB = s.dock.bufferB ∧
    (acknowledgePress s).dock.nextBuffer = s.dock.nextBuffer ∧ (acknowledgePress s).dock.stream = s.dock.stream ∧
    (acknowledgePress s).vehicle.present = s.vehicle.present ∧
    (acknowledgePress s).vehicle.requests = s.vehicle.requests ∧ (acknowledgePress s).vehicle.base = s.vehicle.base := by
  unfold acknowledgePress; (try dsimp only); repeat' (first | (simp; done) | rfl | split)

@[simp] theorem alertPaneClosing_frame (n : Nat) (s : State) :
    (alertPaneClosing n s).layout = s.layout ∧ (alertPaneClosing n s).alloc = s.alloc ∧
    (alertPaneClosing n s).scanOut = s.scanOut ∧ (alertPaneClosing n s).scanner = s.scanner ∧
    (alertPaneClosing n s).park = s.park ∧ (alertPaneClosing n s).inputs = s.inputs ∧
    (alertPaneClosing n s).now = s.now ∧ (alertPaneClosing n s).freeCount = s.freeCount ∧
    (alertPaneClosing n s).pending = s.pending ∧ (alertPaneClosing n s).mem.cells = s.mem.cells ∧
    (alertPaneClosing n s).mem.fills = s.mem.fills ∧ (alertPaneClosing n s).mem.tabletWrite = s.mem.tabletWrite ∧
    (alertPaneClosing n s).mem.vehicleWrite = s.mem.vehicleWrite ∧
    (alertPaneClosing n s).router.held = s.router.held ∧ (alertPaneClosing n s).router.tablet = s.router.tablet ∧
    (alertPaneClosing n s).router.vehicle = s.router.vehicle ∧
    (alertPaneClosing n s).light.target = s.light.target ∧ (alertPaneClosing n s).light.applied = s.light.applied ∧
    (alertPaneClosing n s).light.parked = s.light.parked ∧
    (alertPaneClosing n s).lines.ledTimer = s.lines.ledTimer ∧ (alertPaneClosing n s).dock.link = s.dock.link ∧
    (alertPaneClosing n s).dock.requests = s.dock.requests ∧ (alertPaneClosing n s).dock.bufferA = s.dock.bufferA ∧
    (alertPaneClosing n s).dock.bufferB = s.dock.bufferB ∧
    (alertPaneClosing n s).dock.nextBuffer = s.dock.nextBuffer ∧
    (alertPaneClosing n s).dock.stream = s.dock.stream ∧
    (alertPaneClosing n s).vehicle.present = s.vehicle.present ∧
    (alertPaneClosing n s).vehicle.requests = s.vehicle.requests ∧
    (alertPaneClosing n s).vehicle.base = s.vehicle.base := by
  unfold alertPaneClosing; (try dsimp only); repeat' (first | (simp; done) | rfl | split)

@[simp] theorem routerPaneLost_frame (n : Nat) (s : State) :
    (routerPaneLost n s).layout = s.layout ∧ (routerPaneLost n s).alloc = s.alloc ∧
    (routerPaneLost n s).scanOut = s.scanOut ∧ (routerPaneLost n s).scanner = s.scanner ∧
    (routerPaneLost n s).alerts = s.alerts ∧ (routerPaneLost n s).light = s.light ∧
    (routerPaneLost n s).park = s.park ∧ (routerPaneLost n s).inputs = s.inputs ∧
    (routerPaneLost n s).lines = s.lines ∧ (routerPaneLost n s).now = s.now ∧
    (routerPaneLost n s).freeCount = s.freeCount ∧ (routerPaneLost n s).pending = s.pending ∧
    (routerPaneLost n s).mem.cells = s.mem.cells ∧ (routerPaneLost n s).mem.fills = s.mem.fills ∧
    (routerPaneLost n s).mem.tabletWrite = s.mem.tabletWrite ∧
    (routerPaneLost n s).mem.vehicleWrite = s.mem.vehicleWrite ∧ (routerPaneLost n s).router.hold = s.router.hold ∧
    (routerPaneLost n s).router.held = s.router.held ∧ (routerPaneLost n s).router.tablet = s.router.tablet ∧
    (routerPaneLost n s).router.vehicle = s.router.vehicle ∧ (routerPaneLost n s).dock.link = s.dock.link ∧
    (routerPaneLost n s).dock.requests = s.dock.requests ∧ (routerPaneLost n s).dock.bufferA = s.dock.bufferA ∧
    (routerPaneLost n s).dock.bufferB = s.dock.bufferB ∧ (routerPaneLost n s).dock.nextBuffer = s.dock.nextBuffer ∧
    (routerPaneLost n s).dock.stream = s.dock.stream ∧ (routerPaneLost n s).vehicle.present = s.vehicle.present ∧
    (routerPaneLost n s).vehicle.requests = s.vehicle.requests ∧ (routerPaneLost n s).vehicle.base = s.vehicle.base := by
  unfold routerPaneLost; (try dsimp only); repeat' (first | (simp; done) | rfl | split)

@[simp] theorem routerGone_frame (m : Master) (s : State) :
    (routerGone m s).layout = s.layout ∧ (routerGone m s).alloc = s.alloc ∧ (routerGone m s).scanOut = s.scanOut ∧
    (routerGone m s).scanner = s.scanner ∧ (routerGone m s).alerts = s.alerts ∧ (routerGone m s).light = s.light ∧
    (routerGone m s).park = s.park ∧ (routerGone m s).inputs = s.inputs ∧ (routerGone m s).lines = s.lines ∧
    (routerGone m s).now = s.now ∧ (routerGone m s).freeCount = s.freeCount ∧
    (routerGone m s).pending = s.pending ∧ (routerGone m s).mem.cells = s.mem.cells ∧
    (routerGone m s).mem.fills = s.mem.fills ∧ (routerGone m s).mem.tabletWrite = s.mem.tabletWrite ∧
    (routerGone m s).mem.vehicleWrite = s.mem.vehicleWrite ∧ (routerGone m s).router.hold = s.router.hold ∧
    (routerGone m s).dock.link = s.dock.link ∧ (routerGone m s).dock.requests = s.dock.requests ∧
    (routerGone m s).dock.bufferA = s.dock.bufferA ∧ (routerGone m s).dock.bufferB = s.dock.bufferB ∧
    (routerGone m s).dock.nextBuffer = s.dock.nextBuffer ∧ (routerGone m s).dock.stream = s.dock.stream ∧
    (routerGone m s).vehicle.present = s.vehicle.present ∧ (routerGone m s).vehicle.requests = s.vehicle.requests ∧
    (routerGone m s).vehicle.base = s.vehicle.base := by
  unfold routerGone; (try dsimp only); repeat' (first | (simp; done) | rfl | split)

@[simp] theorem wakeUp_frame  (s : State) :
    (wakeUp s).layout = s.layout ∧ (wakeUp s).alloc = s.alloc ∧ (wakeUp s).mem = s.mem ∧
    (wakeUp s).router = s.router ∧ (wakeUp s).alerts = s.alerts ∧ (wakeUp s).inputs = s.inputs ∧
    (wakeUp s).lines = s.lines ∧ (wakeUp s).dock = s.dock ∧ (wakeUp s).vehicle = s.vehicle ∧
    (wakeUp s).now = s.now ∧ (wakeUp s).freeCount = s.freeCount ∧ (wakeUp s).pending = s.pending ∧
    (wakeUp s).scanOut.running = s.scanOut.running ∧ (wakeUp s).light.target = s.light.target ∧
    (wakeUp s).light.applied = s.light.applied := by
  unfold wakeUp; (try dsimp only); repeat' (first | (simp; done) | rfl | split)

@[simp] theorem keyDown_frame (c : Nat) (s : State) :
    (keyDown c s).layout = s.layout ∧ (keyDown c s).alloc = s.alloc ∧ (keyDown c s).scanOut = s.scanOut ∧
    (keyDown c s).scanner = s.scanner ∧ (keyDown c s).park = s.park ∧ (keyDown c s).inputs = s.inputs ∧
    (keyDown c s).now = s.now ∧ (keyDown c s).freeCount = s.freeCount ∧ (keyDown c s).pending = s.pending ∧
    (keyDown c s).mem.cells = s.mem.cells ∧ (keyDown c s).mem.fills = s.mem.fills ∧
    (keyDown c s).mem.tabletWrite = s.mem.tabletWrite ∧ (keyDown c s).mem.vehicleWrite = s.mem.vehicleWrite ∧
    (keyDown c s).light.target = s.light.target ∧ (keyDown c s).light.applied = s.light.applied ∧
    (keyDown c s).light.parked = s.light.parked ∧ (keyDown c s).lines.ledTimer = s.lines.ledTimer ∧
    (keyDown c s).dock.link = s.dock.link ∧ (keyDown c s).dock.requests = s.dock.requests ∧
    (keyDown c s).dock.bufferA = s.dock.bufferA ∧ (keyDown c s).dock.bufferB = s.dock.bufferB ∧
    (keyDown c s).dock.nextBuffer = s.dock.nextBuffer ∧ (keyDown c s).dock.stream = s.dock.stream ∧
    (keyDown c s).vehicle.present = s.vehicle.present ∧ (keyDown c s).vehicle.requests = s.vehicle.requests ∧
    (keyDown c s).vehicle.base = s.vehicle.base := by
  unfold keyDown; (try dsimp only); repeat' (first | (simp; done) | rfl | split)

@[simp] theorem takeClosing_frame (n : Nat) (s : State) :
    (takeClosing s n).layout = s.layout ∧ (takeClosing s n).alloc = s.alloc ∧
    (takeClosing s n).scanOut = s.scanOut ∧ (takeClosing s n).scanner = s.scanner ∧
    (takeClosing s n).park = s.park ∧ (takeClosing s n).inputs = s.inputs ∧ (takeClosing s n).now = s.now ∧
    (takeClosing s n).freeCount = s.freeCount ∧ (takeClosing s n).pending = s.pending ∧
    (takeClosing s n).mem.cells = s.mem.cells ∧ (takeClosing s n).mem.fills = s.mem.fills ∧
    (takeClosing s n).mem.tabletWrite = s.mem.tabletWrite ∧
    (takeClosing s n).mem.vehicleWrite = s.mem.vehicleWrite ∧ (takeClosing s n).router.held = s.router.held ∧
    (takeClosing s n).router.tablet = s.router.tablet ∧ (takeClosing s n).router.vehicle = s.router.vehicle ∧
    (takeClosing s n).light.target = s.light.target ∧ (takeClosing s n).light.applied = s.light.applied ∧
    (takeClosing s n).light.parked = s.light.parked ∧ (takeClosing s n).lines.ledTimer = s.lines.ledTimer ∧
    (takeClosing s n).dock.link = s.dock.link ∧ (takeClosing s n).dock.requests = s.dock.requests ∧
    (takeClosing s n).dock.bufferA = s.dock.bufferA ∧ (takeClosing s n).dock.bufferB = s.dock.bufferB ∧
    (takeClosing s n).dock.nextBuffer = s.dock.nextBuffer ∧ (takeClosing s n).dock.stream = s.dock.stream ∧
    (takeClosing s n).vehicle.present = s.vehicle.present ∧
    (takeClosing s n).vehicle.requests = s.vehicle.requests ∧ (takeClosing s n).vehicle.base = s.vehicle.base := by
  unfold takeClosing; (try dsimp only); repeat' (first | (simp; done) | rfl | split)

@[simp] theorem takeHidden_frame (n : Nat) (s : State) :
    (takeHidden s n).layout = s.layout ∧ (takeHidden s n).alloc = s.alloc ∧ (takeHidden s n).scanOut = s.scanOut ∧
    (takeHidden s n).scanner = s.scanner ∧ (takeHidden s n).light = s.light ∧ (takeHidden s n).park = s.park ∧
    (takeHidden s n).inputs = s.inputs ∧ (takeHidden s n).lines = s.lines ∧ (takeHidden s n).now = s.now ∧
    (takeHidden s n).freeCount = s.freeCount ∧ (takeHidden s n).pending = s.pending ∧
    (takeHidden s n).mem.cells = s.mem.cells ∧ (takeHidden s n).mem.fills = s.mem.fills ∧
    (takeHidden s n).mem.tabletWrite = s.mem.tabletWrite ∧ (takeHidden s n).mem.vehicleWrite = s.mem.vehicleWrite ∧
    (takeHidden s n).router.hold = s.router.hold ∧ (takeHidden s n).router.held = s.router.held ∧
    (takeHidden s n).router.tablet = s.router.tablet ∧ (takeHidden s n).router.vehicle = s.router.vehicle ∧
    (takeHidden s n).alerts.stack = s.alerts.stack ∧ (takeHidden s n).dock.link = s.dock.link ∧
    (takeHidden s n).dock.requests = s.dock.requests ∧ (takeHidden s n).dock.bufferA = s.dock.bufferA ∧
    (takeHidden s n).dock.bufferB = s.dock.bufferB ∧ (takeHidden s n).dock.nextBuffer = s.dock.nextBuffer ∧
    (takeHidden s n).dock.stream = s.dock.stream ∧ (takeHidden s n).vehicle.present = s.vehicle.present ∧
    (takeHidden s n).vehicle.requests = s.vehicle.requests ∧ (takeHidden s n).vehicle.base = s.vehicle.base := by
  unfold takeHidden; (try dsimp only); repeat' (first | (simp; done) | rfl | split)

@[simp] theorem keyWake_frame  (s : State) :
    (keyWake s).layout = s.layout ∧ (keyWake s).alloc = s.alloc ∧ (keyWake s).mem = s.mem ∧
    (keyWake s).router = s.router ∧ (keyWake s).alerts = s.alerts ∧ (keyWake s).inputs = s.inputs ∧
    (keyWake s).lines = s.lines ∧ (keyWake s).dock = s.dock ∧ (keyWake s).vehicle = s.vehicle ∧
    (keyWake s).now = s.now ∧ (keyWake s).freeCount = s.freeCount ∧ (keyWake s).pending = s.pending ∧
    (keyWake s).scanOut.running = s.scanOut.running ∧ (keyWake s).light.target = s.light.target ∧
    (keyWake s).light.applied = s.light.applied := by
  unfold keyWake; (try dsimp only); repeat' (first | (simp; done) | rfl | split)

@[simp] theorem ignitionEdge_frame (b : Bool) (s : State) :
    (ignitionEdge b s).layout = s.layout ∧ (ignitionEdge b s).alloc = s.alloc ∧ (ignitionEdge b s).mem = s.mem ∧
    (ignitionEdge b s).alerts = s.alerts ∧ (ignitionEdge b s).inputs = s.inputs ∧
    (ignitionEdge b s).lines = s.lines ∧ (ignitionEdge b s).now = s.now ∧
    (ignitionEdge b s).freeCount = s.freeCount ∧ (ignitionEdge b s).pending = s.pending ∧
    (ignitionEdge b s).scanOut.running = s.scanOut.running ∧ (ignitionEdge b s).router.focus = s.router.focus ∧
    (ignitionEdge b s).router.hold = s.router.hold ∧ (ignitionEdge b s).dock.link = s.dock.link ∧
    (ignitionEdge b s).dock.requests = s.dock.requests ∧ (ignitionEdge b s).dock.bufferA = s.dock.bufferA ∧
    (ignitionEdge b s).dock.bufferB = s.dock.bufferB ∧ (ignitionEdge b s).dock.nextBuffer = s.dock.nextBuffer ∧
    (ignitionEdge b s).dock.stream = s.dock.stream ∧ (ignitionEdge b s).vehicle.present = s.vehicle.present ∧
    (ignitionEdge b s).vehicle.requests = s.vehicle.requests ∧ (ignitionEdge b s).vehicle.base = s.vehicle.base := by
  unfold ignitionEdge; (try dsimp only); repeat' (first | (simp; done) | rfl | split)

@[simp] theorem vehicleReturn_frame  (s : State) :
    (vehicleReturn s).layout = s.layout ∧ (vehicleReturn s).alloc = s.alloc ∧
    (vehicleReturn s).scanOut = s.scanOut ∧ (vehicleReturn s).scanner = s.scanner ∧
    (vehicleReturn s).light = s.light ∧ (vehicleReturn s).park = s.park ∧ (vehicleReturn s).inputs = s.inputs ∧
    (vehicleReturn s).lines = s.lines ∧ (vehicleReturn s).now = s.now ∧ (vehicleReturn s).freeCount = s.freeCount ∧
    (vehicleReturn s).pending = s.pending ∧ (vehicleReturn s).mem.cells = s.mem.cells ∧
    (vehicleReturn s).mem.fills = s.mem.fills ∧ (vehicleReturn s).mem.tabletWrite = s.mem.tabletWrite ∧
    (vehicleReturn s).mem.vehicleWrite = s.mem.vehicleWrite ∧ (vehicleReturn s).router.hold = s.router.hold ∧
    (vehicleReturn s).router.held = s.router.held ∧ (vehicleReturn s).router.tablet = s.router.tablet ∧
    (vehicleReturn s).router.vehicle = s.router.vehicle ∧ (vehicleReturn s).alerts.stack = s.alerts.stack ∧
    (vehicleReturn s).dock.link = s.dock.link ∧ (vehicleReturn s).dock.requests = s.dock.requests ∧
    (vehicleReturn s).dock.bufferA = s.dock.bufferA ∧ (vehicleReturn s).dock.bufferB = s.dock.bufferB ∧
    (vehicleReturn s).dock.nextBuffer = s.dock.nextBuffer ∧ (vehicleReturn s).dock.stream = s.dock.stream ∧
    (vehicleReturn s).vehicle.requests = s.vehicle.requests ∧ (vehicleReturn s).vehicle.base = s.vehicle.base := by
  unfold vehicleReturn; (try dsimp only); repeat' (first | (simp; done) | rfl | split)

@[simp] theorem vehicleAbsence_frame  (s : State) :
    (vehicleAbsence s).layout = s.layout ∧ (vehicleAbsence s).alloc = s.alloc ∧
    (vehicleAbsence s).scanOut = s.scanOut ∧ (vehicleAbsence s).scanner = s.scanner ∧
    (vehicleAbsence s).light = s.light ∧ (vehicleAbsence s).park = s.park ∧ (vehicleAbsence s).inputs = s.inputs ∧
    (vehicleAbsence s).lines = s.lines ∧ (vehicleAbsence s).now = s.now ∧
    (vehicleAbsence s).freeCount = s.freeCount ∧ (vehicleAbsence s).pending = s.pending ∧
    (vehicleAbsence s).mem.cells = s.mem.cells ∧ (vehicleAbsence s).mem.fills = s.mem.fills ∧
    (vehicleAbsence s).mem.tabletWrite = s.mem.tabletWrite ∧
    (vehicleAbsence s).mem.vehicleWrite = s.mem.vehicleWrite ∧ (vehicleAbsence s).router.hold = s.router.hold ∧
    (vehicleAbsence s).alerts.stack = s.alerts.stack ∧ (vehicleAbsence s).dock.link = s.dock.link ∧
    (vehicleAbsence s).dock.requests = s.dock.requests ∧ (vehicleAbsence s).dock.bufferA = s.dock.bufferA ∧
    (vehicleAbsence s).dock.bufferB = s.dock.bufferB ∧ (vehicleAbsence s).dock.nextBuffer = s.dock.nextBuffer ∧
    (vehicleAbsence s).dock.stream = s.dock.stream ∧ (vehicleAbsence s).vehicle.base = s.vehicle.base := by
  unfold vehicleAbsence; (try dsimp only); repeat' (first | (simp; done) | rfl | split)

end Sys2Proof.Machine
end

