-- ==== Sys2Proof/Laws/PerInstr.lean ====
section
/-! SUPPORT. The family `OperandsFit`: one fact for each command as syntax. Its master can send the request that the command
takes, in one packet or one frame of its link. -/

namespace Sys2Proof.Laws.OperandsFit

open Sys2Proof.Machine

/-- A request that master `m` can send: a packet with a payload (R178), or a frame of at most 8 data bytes (R179). -/
def Sendable (m : Master) (r : Request) : Prop :=
  match m with
  | .tablet => (tabletPayload r).isSome = true
  | .vehicle =>
    (∃ data, vehicleData r = some data ∧ data.length ≤ 8) ∨
      ∃ pane buffer row column attr codes,
        r = .textData pane buffer row column attr codes ∧
          (textFrameData pane buffer row column attr codes).length ≤ 8

/-- The request that a well-formed command takes, if it takes one and the port does not refuse it by itself, is one that
its master can send. -/
def Statement (i : Instr) : Prop :=
  ∀ m r, i.request? = some (m, r) → i.wf = true → (∀ code result, r ≠ .refused code result) → Sendable m r

/-- A request of the tablet with a payload. -/
theorem of_payload {i : Instr} {r : Request} (h : i.request? = some (.tablet, r)) (p : (tabletPayload r).isSome = true) :
    Statement i := by
  intro m q hq _ _
  rw [h] at hq
  cases hq
  exact p

/-- A request of either master with a payload and a frame. -/
theorem of_both {i : Instr} {w : Master} {r : Request} {data : List Byte} (h : i.request? = some (w, r))
    (p : (tabletPayload r).isSome = true) (v : vehicleData r = some data) (l : data.length ≤ 8) : Statement i := by
  intro m q hq _ _
  rw [h] at hq
  cases hq
  cases w
  · exact p
  · exact .inl ⟨data, v, l⟩

/-- A query that names one number on the Vehicle Line and none on the Dock Link. -/
theorem of_query {i : Instr} {w : Master} {k : Option Nat} {q : Option Nat → Request} (h : i.request? = some (w, q k))
    (fit : (q k).fits .vehicle = true → ∃ n, k = some n) (p : ∀ k, (tabletPayload (q k)).isSome = true)
    (v : ∀ n, ∃ data, vehicleData (q (some n)) = some data ∧ data.length ≤ 8) : Statement i := by
  intro m r hr wf _
  rw [h] at hr
  cases hr
  cases w
  · exact p k
  · have hf : (q k).fits .vehicle = true := by simpa [Instr.wf, h] using wf
    obtain ⟨n, rfl⟩ := fit hf
    exact .inl (v n)

/-- An event takes no request. -/
theorem of_event {i : Instr} (h : i.request? = none) : Statement i := by
  intro m r hr
  rw [h] at hr
  cases hr

theorem fullReset :
    Statement .fullReset := of_event rfl

theorem resetRelease (ids1 ids0 : Bool) (pins : InputLevels) :
    Statement (.resetRelease ids1 ids0 pins) := of_event rfl

theorem dockLinkPacketReceived (bytes : List Byte) :
    Statement (.dockLinkPacketReceived bytes) := of_event rfl

theorem keepalive :
    Statement .keepalive := of_event rfl

theorem writeData (offset : Nat) (data : List Byte) :
    Statement (.writeData offset data) := of_event rfl

theorem refusedPacket (who : Master) (code : Nat) (result : Result) :
    Statement (.refusedPacket who code result) := by
  intro m r h _ ne
  cases h
  exact absurd rfl (ne code result)

theorem hello (grace : Nat) :
    Statement (.hello grace) := of_payload rfl rfl

theorem claim (who : Master) (ops : ClaimOps) :
    Statement (.claim who ops) := of_both rfl rfl rfl (Nat.le_of_ble_eq_true rfl)

theorem release (who : Master) (pane : Nat) :
    Statement (.release who pane) := of_both rfl rfl rfl (Nat.le_of_ble_eq_true rfl)

theorem move (who : Master) (pane : Nat) (window : Window) :
    Statement (.move who pane window) := of_both rfl rfl rfl (Nat.le_of_ble_eq_true rfl)

theorem scroll (who : Master) (pane x y : Nat) :
    Statement (.scroll who pane x y) := of_both rfl rfl rfl (Nat.le_of_ble_eq_true rfl)

theorem raise (who : Master) (pane : Nat) :
    Statement (.raise who pane) := of_both rfl rfl rfl (Nat.le_of_ble_eq_true rfl)

theorem lower (who : Master) (pane : Nat) :
    Statement (.lower who pane) := of_both rfl rfl rfl (Nat.le_of_ble_eq_true rfl)

theorem showPane (who : Master) (pane : Nat) :
    Statement (.showPane who pane) := of_both rfl rfl rfl (Nat.le_of_ble_eq_true rfl)

theorem hidePane (who : Master) (pane : Nat) :
    Statement (.hidePane who pane) := of_both rfl rfl rfl (Nat.le_of_ble_eq_true rfl)

theorem flip (who : Master) (pane : Nat) :
    Statement (.flip who pane) := of_both rfl rfl rfl (Nat.le_of_ble_eq_true rfl)

theorem focus (who : Master) (pane : Nat) :
    Statement (.focus who pane) := of_both rfl rfl rfl (Nat.le_of_ble_eq_true rfl)

theorem keyAck (who : Master) :
    Statement (.keyAck who) := of_both rfl rfl rfl (Nat.le_of_ble_eq_true rfl)

theorem repeatSet (who : Master) (enabled delay period : Nat) :
    Statement (.repeatSet who enabled delay period) := of_both rfl rfl rfl (Nat.le_of_ble_eq_true rfl)

theorem writeBegin (pane buffer : Nat) (rect : Rect) :
    Statement (.writeBegin pane buffer rect) := of_payload rfl rfl

theorem fillRect (pane buffer : Nat) (rect : Rect) (colour : Nat) :
    Statement (.fillRect pane buffer rect colour) := of_payload rfl rfl

theorem textPut (pane buffer row column : Nat) (cells : List TextCell) :
    Statement (.textPut pane buffer row column cells) := of_payload rfl rfl

theorem textDataFrame (pane buffer row column : Nat) (attr : Byte) (codes : List Byte) :
    Statement (.textDataFrame pane buffer row column attr codes) := by
  intro m r h wf _
  cases h
  refine .inr ⟨pane, buffer, row, column, attr, codes, rfl, ?_⟩
  have : codes.length ≤ 4 := by simp [Instr.wf, Instr.request?, Request.fits] at wf; exact wf.2
  simp [textFrameData]
  omega

theorem textClear (who : Master) (pane buffer : Nat) :
    Statement (.textClear who pane buffer) := of_both rfl rfl rfl (Nat.le_of_ble_eq_true rfl)

theorem inputAck (who : Master) (input : Nat) :
    Statement (.inputAck who input) := of_both rfl rfl rfl (Nat.le_of_ble_eq_true rfl)

theorem inputMode (who : Master) (input mode sense time : Nat) :
    Statement (.inputMode who input mode sense time) := of_both rfl rfl rfl (Nat.le_of_ble_eq_true rfl)

theorem queryInputs (who : Master) (input : Option Nat) :
    Statement (.queryInputs who input) := by
  refine of_query (q := .queryInputs) rfl ?_ (fun _ => rfl) fun n => ⟨_, rfl, Nat.le_of_ble_eq_true rfl⟩
  cases input with
  | none => intro h; cases h
  | some n => exact fun _ => ⟨n, rfl⟩

theorem lineSet (who : Master) (line direction latch : Nat) :
    Statement (.lineSet who line direction latch) := of_both rfl rfl rfl (Nat.le_of_ble_eq_true rfl)

theorem queryLines (who : Master) (pins : BitVec 8) :
    Statement (.queryLines who pins) := of_both rfl rfl rfl (Nat.le_of_ble_eq_true rfl)

theorem queryLight (who : Master) (page : Option Nat) :
    Statement (.queryLight who page) := by
  refine of_query (q := .queryLight) rfl ?_ (fun _ => rfl) fun n => ⟨_, rfl, Nat.le_of_ble_eq_true rfl⟩
  cases page with
  | none => intro h; cases h
  | some n => exact fun _ => ⟨n, rfl⟩

theorem darkCab (who : Master) (setting : Nat) :
    Statement (.darkCab who setting) := of_both rfl rfl rfl (Nat.le_of_ble_eq_true rfl)

theorem parkDelay (who : Master) (delay : Nat) :
    Statement (.parkDelay who delay) := of_both rfl rfl rfl (Nat.le_of_ble_eq_true rfl)

theorem wake (who : Master) :
    Statement (.wake who) := of_both rfl rfl rfl (Nat.le_of_ble_eq_true rfl)

theorem scanSet (who : Master) (press release : Nat) :
    Statement (.scanSet who press release) := of_both rfl rfl rfl (Nat.le_of_ble_eq_true rfl)

theorem restartDockLink (who : Master) (units : Nat) :
    Statement (.restartDockLink who units) := of_both rfl rfl rfl (Nat.le_of_ble_eq_true rfl)

theorem restartScanner (who : Master) (units : Nat) :
    Statement (.restartScanner who units) := of_both rfl rfl rfl (Nat.le_of_ble_eq_true rfl)

theorem restartConverter (who : Master) (units : Nat) :
    Statement (.restartConverter who units) := of_both rfl rfl rfl (Nat.le_of_ble_eq_true rfl)

theorem vehicleFrameReceived (frame : CanFrame) :
    Statement (.vehicleFrameReceived frame) := of_event rfl

theorem vehicleSilenceExpiry :
    Statement .vehicleSilenceExpiry := of_event rfl

theorem vehicleFrameSent :
    Statement .vehicleFrameSent := of_event rfl

theorem dockPacketSent :
    Statement .dockPacketSent := of_event rfl

theorem sendTimerExpiry :
    Statement .sendTimerExpiry := of_event rfl

theorem silenceTimerExpiry :
    Statement .silenceTimerExpiry := of_event rfl

theorem graceTimerExpiry :
    Statement .graceTimerExpiry := of_event rfl

theorem drainComplete :
    Statement .drainComplete := of_event rfl

theorem fillCompletion :
    Statement .fillCompletion := of_event rfl

theorem frameBoundary :
    Statement .frameBoundary := of_event rfl

theorem scanEvent (raw : BitVec 128) :
    Statement (.scanEvent raw) := of_event rfl

theorem captureScan (raw : BitVec 128) :
    Statement (.captureScan raw) := of_event rfl

theorem wakeSample (senses : BitVec 16) :
    Statement (.wakeSample senses) := of_event rfl

theorem repeatExpiry :
    Statement .repeatExpiry := of_event rfl

theorem inputSample (pins : InputLevels) :
    Statement (.inputSample pins) := of_event rfl

theorem countdownExpiry :
    Statement .countdownExpiry := of_event rfl

theorem converterScanStart :
    Statement .converterScanStart := of_event rfl

theorem scanCompletion (ambient supply panelTemp : Nat) :
    Statement (.scanCompletion ambient supply panelTemp) := of_event rfl

theorem linkLedToggle :
    Statement .linkLedToggle := of_event rfl

theorem memoryWritesComplete (source : WriteSource) :
    Statement (.memoryWritesComplete source) := of_event rfl

end Sys2Proof.Laws.OperandsFit
end

