-- ==== Sys2Proof/Laws/Ports.lean ====
section
/-! SUPPORT. What the shared operations of the ports, the Key Router and the Layout Controller can do, once each, in the
terms of Safety.lean: a request taken in its turn, a message handed, a report built, the focus set. -/

namespace Sys2Proof.Machine

open Sys2Proof.Safety

/-- A sense line as the slot of a drive line reads it is the raw reading of their crossing's key code (R69). -/
theorem slotSenses_getLsbD (raw : BitVec 128) (d k : Nat) (hk : k < 16) :
    (slotSenses raw d).getLsbD k = raw.getLsbD (crossing d k) := by
  simp [slotSenses, crossing, hk]

/-- The raw reading of a key code is its bit of the 128 readings. -/
@[simp] theorem readsDown_eq (raw : BitVec 128) (c : Nat) : readsDown raw c = raw.getLsbD c := by
  rw [readsDown, slotSenses_getLsbD raw _ _ (Nat.mod_lt _ (by decide)), crossing, Nat.div_add_mod']

/-- Taking the oldest request of a queue is `taken`. -/
theorem popRequest_eq_taken (m : Master) (s : State) : s.popRequest m = taken m s := by
  cases m <;> rfl

/-- Handing a message is `handed`: it joins the outbound queue, or nothing changes. -/
theorem hand_eq_handed (m : Master) (msg : Message) (s : State) : hand m msg s = handed m msg s := by
  cases m
  · by_cases h : s.dock.link = .up ∧ s.dock.outbound.length < 32 <;>
      simp [hand, handTablet, handed, dockOutbound, dockOutboundLimit, h]
  · by_cases h : s.vehicle.present = true ∧ s.vehicle.outbound.length < 16 <;>
      simp [hand, handVehicle, handed, vehicleOutbound, vehicleOutboundLimit, h]

/-- A message handed to the tablet. -/
theorem handTablet_eq_handed (msg : Message) (s : State) : handTablet msg s = handed .tablet msg s :=
  hand_eq_handed .tablet msg s

/-- A message handed to the vehicle unit. -/
theorem handVehicle_eq_handed (msg : Message) (s : State) : handVehicle msg s = handed .vehicle msg s :=
  hand_eq_handed .vehicle msg s

/-- A reply is a message handed to the master's port. -/
theorem reply_eq_handed (m : Master) (r : Request) (result : Result) (values : List Byte) (s : State) :
    reply m r result values s = handed m (.reply (requestCode r) result values) s := hand_eq_handed _ _ _

/-- A notice to an owner is `told`. -/
theorem notify_eq_told (o : Owner) (x : Notice) (s : State) : notify o x s = told (some o) x s := by
  cases o
  · exact handTablet_eq_handed _ _
  · exact handVehicle_eq_handed _ _
  · rfl

/-- A field handed to the status row is `rowTold`. -/
theorem rewriteField_eq_rowTold (f : RowField) (before after : RowText) (s : State) :
    rewriteField f before after s = rowTold f before after s := by
  by_cases h : before = after <;> simp [rewriteField, rowTold, h]

/-- A request is taken exactly in its turn. -/
theorem canTake_iff_turn (m : Master) (r : Request) (s : State) : s.canTake m r = true ↔ Turn m r s := by
  cases m <;>
    simp [State.canTake, Turn, State.queue, State.mayTake, and_assoc]

/-- A request in its turn leaves the queue and its body acts. -/
theorem taking_of_turn {m : Master} {r : Request} {s : State} (h : Turn m r s) (body : State → State) :
    taking m r body s = .next (body (taken m s)) := by
  simp [taking, (canTake_iff_turn m r s).2 h, popRequest_eq_taken]

/-- A request out of its turn waits: nothing changes. -/
theorem taking_of_not_turn {m : Master} {r : Request} {s : State} (h : ¬Turn m r s) (body : State → State) :
    taking m r body s = .next s := by
  simp [taking, mt (canTake_iff_turn m r s).1 h]

/-- An event acts while the part runs. -/
theorem whenRunning_of_running {s : State} (h : s.scanOut.running = true) (body : State → State) :
    whenRunning body s = .next (body s) := by simp [whenRunning, h]

/-- A master's part of the Key Router. -/
theorem channel_eq (m : Master) (s : State) : s.router.channel m = channel m s := by cases m <;> rfl

/-- A master's part of the Key Router replaced. -/
theorem setChannel_eq (m : Master) (c : KeyChannel) (s : State) : s.setChannel m c = withChannel m c s := by
  cases m <;> rfl

/-- The conditions of R103 and R104. -/
theorem reportDue_iff (m : Master) (s : State) : s.reportDue m = true ↔ ReportDue m s := by
  cases m <;>
    simp [State.reportDue, ReportDue, State.reportRoom, Room, Router.channel, channel, dockOutboundLimit,
      vehicleOutboundLimit, and_assoc] <;>
    exact fun _ _ _ => decide_eq_true_iff

/-- A report is built when it is due, and nothing changes otherwise. -/
theorem tryReport_reported (m : Master) (s : State) : ReportedIf m s (tryReport m s) := by
  by_cases h : ReportDue m s
  · refine .inl ⟨h, ?_⟩
    rw [tryReport, if_pos ((reportDue_iff m s).2 h), hand_eq_handed, setChannel_eq]
    cases m <;> rfl
  · refine .inr ⟨h, ?_⟩
    rw [tryReport, if_neg (mt (reportDue_iff m s).1 h)]

/-- An event enters a master's queue. -/
theorem appendEvent_eq_entered (m : Master) (code : Nat) (kind : KeyKind) (s : State) :
    appendEvent m code kind s = entered m code kind s := by
  cases m <;> rfl

/-- The owner of a pane that may be NONE. -/
theorem ownerOf_eq (n : Option Nat) (s : State) : s.ownerOf n = ownerAt n s := rfl

/-- A focus notice goes to the pane's owner. -/
theorem focusNotice_eq_told (n : Option Nat) (x : Nat → Notice) (s : State) :
    focusNotice n x s = told (ownerAt n s) (x (n.getD 0)) s := by
  cases n with
  | none => rfl
  | some k =>
    simp only [focusNotice, ownerAt, Option.bind_some, Option.getD_some]
    cases h : s.pane? k with
    | none => rfl
    | some p => exact notify_eq_told _ _ _

/-- Handing a notice leaves the pane table as it is. -/
@[simp] theorem told_layout (o : Option Owner) (x : Notice) (s : State) : (told o x s).layout = s.layout := by
  rcases o with _ | o
  · rfl
  · cases o <;> rfl

/-- Who owns a pane depends on the pane table alone. -/
theorem ownerAt_congr {s t : State} (h : t.layout = s.layout) (n : Option Nat) : ownerAt n t = ownerAt n s := by
  cases n <;> simp [ownerAt, State.pane?, h]

/-- Setting the focus is `focusMoved`. -/
theorem setFocus_eq_focusMoved (v : Option Nat) (s : State) : setFocus v s = focusMoved v s := by
  unfold setFocus focusMoved
  split
  · rfl
  · simp only [rewriteField_eq_rowTold, focusNotice_eq_told, ownerOf_eq]
    rw [ownerAt_congr (s := s) (t := { s with router := { s.router with focus := v } }) rfl]
    rw [ownerAt_congr (s := s) (t := told (ownerAt s.router.focus s) _ { s with router := { s.router with focus := v } })
      (told_layout _ _ _)]

end Sys2Proof.Machine
end

