-- ==== Sys2Proof/Tests/Slice0.lean ====
section
/-! SUPPORT. The tests: an ill-formed command for each check of WellFormed.lean; one or two small tests for each command,
with results taken from the spec's worked examples or worked out by hand from its rules; and for each statement of
Obligations.lean that has hypotheses a state and operands that meet them, clause by clause. -/

set_option Elab.async false

namespace Sys2Proof.Tests

open Sys2Proof.Machine Sys2Proof.Safety

/-! ### The states the tests start from -/

/-- A live pane of the tablet: PIXEL, 64 × 32, two buffers, accepting keys. -/
def tabletPane : Pane :=
  { phase := .live, owner := .tablet, kind := .pixel, cls := .normal, acceptsKeys := true
    window := { left := 0, top := 0, width := 400, height := 240 }, sizeX := 64, sizeY := 32, buffers := 2, front := 0
    run := { start := 0, length := 2 }, scroll := { x := 0, y := 0 }, transparent := none, visible := true
    staged := PendingPart.absent }

/-- The vehicle unit's pane of chapter 2's text put: TEXT, 50 cols × 4 rows, run (400, 1), accepting keys. -/
def vehiclePane : Pane :=
  { tabletPane with
    owner := .vehicle, kind := .text, window := { left := 200, top := 0, width := 400, height := 64 }, sizeX := 50
    sizeY := 4, buffers := 1, run := { start := 400, length := 1 } }

/-- A pane of the tablet that is being filled. -/
def fillingPane : Pane := { tabletPane with phase := .preparing, buffers := 1, run := { start := 2, length := 1 } }

/-- A pane of the vehicle unit that waits to be freed. -/
def closingPane : Pane := { vehiclePane with phase := .closing, run := { start := 401, length := 1 } }

/-- A pane of the tablet that waits for the boundary. -/
def readyPane : Pane := { tabletPane with phase := .ready, buffers := 1, run := { start := 3, length := 1 } }

/-- An alert pane that waits for the boundary. -/
def alertPane : Pane := { vehiclePane with phase := .ready, cls := .alert, run := { start := 402, length := 1 } }

/-- A TEXT pane of the tablet that does not accept keys. -/
def textPane : Pane :=
  { tabletPane with kind := .text, acceptsKeys := false, sizeX := 10, sizeY := 4, buffers := 1
                    run := { start := 4, length := 1 } }

/-- The part at work: both masters present, BAY and IGNITION on, seven panes, the focus on pane 1 and key 5 held for the
tablet. -/
def work : State :=
  { State.reset with
    layout :=
      { panes := [some statusPane, some tabletPane, some vehiclePane, some fillingPane, some closingPane,
          some readyPane, some alertPane, some textPane]
        current := [0, 1, 2, 7, 4], nextOrder := [0, 1, 2, 7], ready := [5, 6], frame := 1200 }
    alloc :=
      { tablet := [{ start := 0, length := 2 }, { start := 2, length := 1 }, { start := 3, length := 1 },
          { start := 4, length := 1 }]
        vehicle := [{ start := 400, length := 1 }, { start := 401, length := 1 }, { start := 402, length := 1 }]
        part := [{ start := 480, length := 1 }] }
    mem := { SurfaceMemory.afterReset [] with
      fills := [{ pane := 3, run := { start := 2, length := 1 }, pattern := .zero, blocksDone := 0, bytesDone := 0 }] }
    scanOut := { ScanOut.released with panel := .on }
    router := { Router.afterReset with
      focus := some 1, held := [{ code := 5, target := some .tablet, time := 900 }]
      tablet := { KeyChannel.afterReset with lastEntry := some 980 }
      repeatKey := some { code := 5, target := .tablet, next := 1400 } }
    inputs := inputsAfterReset { lowPins with bay := true, ignition := true }
    park := Park.afterReset true
    light := { Light.afterReset false with ambient := some 256, filter := 4096, applied := 344, target := 344 }
    lines := { LineBlock.afterReset .attaching with ledTimer := none }
    dock := { DockPort.afterReset .up with silence := some 1020, send := some 1005 }
    vehicle := { VehiclePort.afterReset 0x640 with present := true, silence := some 2000 }
    now := 1000 }

/-- The part during an alert: pane 6 is live and on the stack, pane 1 the saved focus. -/
def alarm : State :=
  { work with
    layout :=
      { panes := work.layout.panes.set 6 (some { alertPane with phase := .live })
        current := [6, 0, 1, 2, 7, 4], nextOrder := [6, 0, 1, 2, 7], ready := [5], frame := 1201 }
    router := { work.router with focus := some 6, hold := true }
    alerts := { stack := [6], saved := some 1, unreported := [] }
    light := { work.light with hold := true }
    lines := { work.lines with lines := work.lines.lines.set 3 { out := true, latch := true } } }

/-- The part parked, with the panel off and the keyboard watched as a whole. -/
def parkedState : State :=
  { work with
    park := { work.park with state := .parked, countdown := none }
    scanOut := { work.scanOut with panel := .off }
    scanner := { Scanner.afterReset with mode := .wakeDetect, quietSeen := true }
    router := { work.router with held := [], repeatKey := none }
    light := { work.light with parked := true, target := 0, applied := 0 }
    inputs := inputsAfterReset { lowPins with bay := true } }

/-- A state with one request waiting for a master's port. -/
def asked (m : Master) (r : Request) (s : State) : State :=
  match m with
  | .tablet => { s with dock := { s.dock with requests := [r] } }
  | .vehicle => { s with vehicle := { s.vehicle with requests := [r] } }

/-- The state after a command. -/
def after (c : Instr) (s : State) : State :=
  match exec c s with
  | .next t => t
  | _ => s

/-- The state after a command that takes a request, with the request waiting. -/
def run (c : Instr) (s : State) : State :=
  match c.request? with
  | some (m, r) => after c (asked m r s)
  | none => after c s

/-- A command answers a next state, and it is the one given. -/
def gives (c : Instr) (s t : State) : Bool :=
  match exec c s with
  | .next u => u == t
  | _ => false

/-- The reply in the outbound queue of the tablet. -/
def tabletReply (s : State) : Option Message := s.dock.outbound.head?

/-- The reply in the outbound queue of the vehicle unit. -/
def vehicleReply (s : State) : Option Message := s.vehicle.outbound.head?

/-! ### Ill-formed commands -/

theorem test_wf_byte : (Instr.release .tablet 256).wf = false := by decide
theorem test_wf_two : (Instr.hello 65536).wf = false := by decide
theorem test_wf_window : (Instr.move .vehicle 1 ⟨0, 256, 1, 1⟩).wf = false := by decide
theorem test_wf_rect : (Instr.writeBegin 1 0 ⟨0, 0, 65536, 1⟩).wf = false := by decide
theorem test_wf_colour : (Instr.fillRect 1 0 ⟨0, 0, 1, 1⟩ 65536).wf = false := by decide
theorem test_wf_claim_codes :
    (Instr.claim .vehicle ⟨2, 0, true, true, false, false, 1, ⟨0, 0, 1, 1⟩, 1, 1, none⟩).wf = false := by decide
theorem test_wf_claim_transparent :
    (Instr.claim .tablet ⟨0, 0, true, true, true, false, 1, ⟨0, 0, 1, 1⟩, 1, 1, some 65536⟩).wf = false := by decide
theorem test_wf_refusal : (Instr.refusedPacket .tablet 0x10 .ok).wf = false := by decide
theorem test_wf_cells : (Instr.textPut 1 0 0 0 (List.replicate 257 ⟨0, 0⟩)).wf = false := by decide +kernel
theorem test_wf_text_data : (Instr.textDataFrame 16 0 0 0 0 []).wf = false := by decide
theorem test_wf_codes : (Instr.textDataFrame 1 0 0 0 0 [0, 0, 0, 0, 0]).wf = false := by decide
theorem test_wf_query_inputs : (Instr.queryInputs .vehicle none).wf = false := by decide
theorem test_wf_query_light : (Instr.queryLight .tablet (some 0)).wf = false := by decide
theorem test_wf_write_data : (Instr.writeData 4294967296 []).wf = false := by decide
theorem test_wf_frame : (Instr.vehicleFrameReceived ⟨2048, false, []⟩).wf = false := by decide
theorem test_wf_frame_data : (Instr.vehicleFrameReceived ⟨0, false, List.replicate 9 0⟩).wf = false := by decide
theorem test_wf_counts : (Instr.scanCompletion 0 1024 0).wf = false := by decide
theorem test_wf_accepts : (Instr.move .tablet 3 ⟨100, 40, 600, 400⟩).wf = true := by decide

/-! ### What is read from the links -/

/-- Chapter 11, "one tablet request": the packet of MOVE pane 3 to (100, 40, 600, 400), its bytes written out. -/
theorem test_tablet_move_payload :
    intakeOf 0x12 0 [0x03, 0x64, 0x00, 0x28, 0x00, 0x58, 0x02, 0x90, 0x01]
      = .request (.move 3 ⟨100, 40, 600, 400⟩) := by decide

/-- Chapter 11: the same MOVE from the vehicle unit, 0x12 0x03 0x0C 0x02 0x4B 0x19. -/
theorem test_vehicle_move_frame :
    readRequestFrame [0x12, 0x03, 0x0C, 0x02, 0x4B, 0x19] = .move 3 ⟨12, 2, 75, 25⟩ := by decide

/-- Chapter 11: its reply value 215,062,970,464 in 5 bytes, low byte first (0x3212C08060). -/
theorem test_vehicle_window_bytes :
    windowBytes .vehicle (pixelWindow .vehicle ⟨12, 2, 75, 25⟩)
      = (List.range 5).map fun k => byte (215062970464 / 256 ^ k) := by decide

/-- The polynomial and initial value of R158 are those of CRC-16/CCITT-FALSE, whose published check value over the
digits 1 to 9 is 0x29B1. -/
theorem test_crc_check_value :
    crc16 [0x31, 0x32, 0x33, 0x34, 0x35, 0x36, 0x37, 0x38, 0x39] = 0x29B1#16 := by decide +kernel

/-- A text data frame (R179): pane 2 and buffer 0 in byte 0. -/
theorem test_text_frame :
    readTextFrame [0x02, 0x02, 0x30, 0xE0, 0x42] = .textData 2 0 2 48 0xE0 [0x42] := by decide

/-- R179, R8, R176: a CLAIM of the vehicle unit with bit 4 of its kind byte set is refused at step 1, before bit 5 is. -/
theorem test_vehicle_claim_bits :
    vehicleReply (run (.claim .vehicle ⟨0, 0, true, true, false, true, 1, ⟨0, 0, 1, 1⟩, 1, 1, none⟩) work)
      = some (.reply 0x10 .badKind []) := by decide +kernel

/-- Bits 5 to 7 of byte 0 must be 0 (R179). -/
theorem test_text_frame_refused : readTextFrame [0x22, 0x02, 0x30, 0xE0] = .refused 0x33 .badValue := by decide

/-! ### Reset and the link commands -/

/-- R54: while the part is held in full reset PANEL_EN is low. -/
theorem test_fullReset : (after .fullReset work).panelEnable = false := by decide +kernel

/-- R157, R169: BAY HIGH at the release makes the link ATTACHING, and straps 1, 1 the base 0x670. -/
theorem test_resetRelease :
    let t := after (.resetRelease true true { lowPins with bay := true }) State.reset
    t.dock.link = .attaching ∧ t.vehicle.base = 0x670 := by decide +kernel

/-- R26, R31: the first cell of the status row is the T of TAB NONE, a warning. -/
theorem test_resetRelease_row :
    let t := after (.resetRelease false false lowPins) State.reset
    Memory.read t.mem.cells 1966080 = 0x54 ∧ Memory.read t.mem.cells 1966081 = 0xE0 := by decide +kernel

/-- R158: a KEY ACK packet enters the request queue. -/
theorem test_dockLinkPacketReceived :
    (after (.dockLinkPacketReceived (packet 0x21 [])) work).dock.requests = [.keyAck] := by decide +kernel

/-- R158 step 1: a packet with a wrong CRC is discarded. -/
theorem test_dockLinkPacketReceived_crc :
    gives (.dockLinkPacketReceived [0x21, 0x00, 0x00, 0x00, 0x00, 0x00]) work work = true := by decide +kernel

/-- The work state in HOLD. -/
def holding : State := { work with dock := { work.dock with link := .hold, silence := none, send := none, graceTimer := some 1300 } }

/-- Chapter 9, "a bounce": a KEEPALIVE in HOLD with BAY HIGH resumes the link. -/
theorem test_keepalive : (after .keepalive holding).dock.link = .up := by decide +kernel

/-- The work state in HOLD with BAY LOW. -/
def holdingLow : State := { holding with inputs := inputsAfterReset lowPins }

/-- The stream of chapter 9's "a bounce" before packet P4: T = 3,200, next expected 2,040. -/
def bounced : State :=
  { work with dock := { work.dock with
      stream := some ⟨1, 1, ⟨0, 100, 800, 2⟩, 3200, 2040, 2040, 0, false⟩ } }

/-- Chapter 9, "a bounce", t = 41.2: P4 at 3,060 with 140 bytes gives 3,200 / 2,180 / 1,020 and ends the stream. -/
theorem test_writeData :
    (after (.writeData 3060 (List.replicate 140 0)) bounced).dock.stream
      = some ⟨1, 1, ⟨0, 100, 800, 2⟩, 3200, 3200, 2180, 1020, true⟩ := by decide +kernel

/-- R158 step 3: an undefined kind is answered UNKNOWN in its turn. -/
theorem test_refusedPacket :
    tabletReply (run (.refusedPacket .tablet 0x77 .unknown) work) = some (.reply 0x77 .unknown []) := by decide +kernel

/-- The work state in ATTACHING, with no pane of the tablet's focus. -/
def attachingState : State := { State.reset with
  dock := DockPort.afterReset .attaching, inputs := inputsAfterReset { lowPins with bay := true } }

/-- R160: the reply to HELLO comes first and gives the grace clamped to 100. -/
theorem test_hello :
    tabletReply (after (.hello 5) attachingState)
      = some (.reply 0x01 .ok [0x31, 0x0A, 0x42, 0, 1, 0x20, 3, 0xE0, 1, 0x90, 1, 0x50, 0, 0x20, 0, 4, 3, 100, 0]) := by
  decide +kernel

/-- R162, R165: a HELLO that was queued in UP is taken in its turn in HOLD with BAY LOW, and has no other effect. -/
theorem test_hello_held :
    let s := asked .tablet (.hello 300) holdingLow
    gives (.hello 300) s { s with dock := { s.dock with requests := [] } } = true := by decide +kernel

/-- R161 to R163: a KEEPALIVE at the expiry of the send timer; the packets leave in order. -/
theorem test_sendTimerExpiry :
    (after .sendTimerExpiry { work with now := 1005 }).dock.outbound = [.keepalive] := by decide +kernel
theorem test_dockPacketSent :
    (after .dockPacketSent (after .sendTimerExpiry { work with now := 1005 })).dock.outbound = [] := by decide +kernel

/-- R163: with 5 ms still to go nothing is placed. -/
theorem test_sendTimerExpiry_early : gives .sendTimerExpiry work work = true := by decide +kernel

/-- Chapter 9, "a bounce", t = 20.5: the silence expiry enters HOLD; the grace timer runs for 300 ms. -/
theorem test_silenceTimerExpiry :
    let t := after .silenceTimerExpiry { work with now := 1020 }
    t.dock.link = .hold ∧ t.dock.graceTimer = some 1320 := by decide +kernel

/-- Two fills of the tablet, the one at the head with its last block done, and a byte in the run of the other. -/
def twoFills : State :=
  { holding with
    now := 1300
    layout := { holding.layout with panes := holding.layout.panes.set 5 (some { fillingPane with run := { start := 3, length := 1 } })
                                    ready := [6] }
    mem := { holding.mem with
      cells := [(12288, 0x55)]
      fills := [⟨3, ⟨2, 1⟩, .zero, 1, 0⟩, ⟨5, ⟨3, 1⟩, .zero, 0, 0⟩] } }

/-- R161, R29, R40: at the grace expiry pane 1 becomes CLOSING, panes 3 and 5 FREE, their fills are gone, and the fill that
only waited has written no byte. -/
theorem test_graceTimerExpiry :
    let t := after .graceTimerExpiry twoFills
    (t.pane? 1).map (·.phase) = some .closing ∧ t.pane? 3 = none ∧ t.pane? 5 = none ∧ t.dock.link = .attaching ∧
      t.mem.fills = [] ∧ Memory.read t.mem.cells 12288 = 0x55 := by decide +kernel

/-- The clipped stream of chapter 2: pane 1 is 100 × 50 at byte 1,228,800, rectangle (96, 48, 8, 4). -/
def clipped : State :=
  let pane : Pane := { tabletPane with sizeX := 100, sizeY := 50, buffers := 1, run := ⟨300, 3⟩ }
  { work with
    layout := { work.layout with panes := work.layout.panes.set 1 (some pane) }
    dock := { work.dock with
      bufferA := .draining 0 ((List.range 17).map fun k => byte (k + 1)), nextBuffer := .b
      stream := some ⟨1, 0, ⟨96, 48, 8, 4⟩, 64, 17, 17, 0, false⟩ } }

/-- Chapter 2, "a clipped write stream": offsets 0 to 7 go to 1,238,592 and on, 8 to 15 nowhere, 16 to 1,238,792. -/
theorem test_drainComplete :
    let m := (after .drainComplete clipped).mem.cells
    Memory.read m 1238592 = 1 ∧ Memory.read m 1238599 = 8 ∧ Memory.read m 1238600 = 0 ∧
      Memory.read m 1238792 = 17 := by decide +kernel

/-! ### Panes -/

/-- Both masters present and no pane but the status row. -/
def fresh : State := { work with
  layout := Layout.afterReset, alloc := Allocator.afterReset, mem := SurfaceMemory.afterReset []
  router := Router.afterReset }

/-- A PIXEL claim of a surface. -/
def pixelClaim (x y buffers : Nat) : ClaimOps := ⟨0, 0, true, true, false, false, buffers, ⟨0, 0, 900, 464⟩, x, y, none⟩

/-- Chapter 1, "from claim to first frame": the run is 364 blocks from block 0, and the window is clamped. -/
theorem test_claim :
    let t := run (.claim .tablet (pixelClaim 800 464 2)) fresh
    t.alloc.tablet = [⟨0, 364⟩] ∧ (t.pane? 1).map (·.window) = some ⟨0, 0, 800, 464⟩ := by decide +kernel

/-- Chapter 2, "first-fit", step 10: 50 blocks go to block 165. -/
theorem test_claim_first_fit :
    (run (.claim .tablet (pixelClaim 256 200 2))
        { fresh with alloc := { fresh.alloc with tablet := [⟨0, 47⟩, ⟨47, 118⟩, ⟨235, 64⟩] } }).alloc.tablet
      = [⟨0, 47⟩, ⟨47, 118⟩, ⟨165, 50⟩, ⟨235, 64⟩] := by decide +kernel

/-- R19: RELEASE of a READY pane frees it and its run. -/
theorem test_release :
    let t := run (.release .tablet 5) work
    t.pane? 5 = none ∧ t.layout.ready = [6] ∧ t.alloc.tablet = [⟨0, 2⟩, ⟨2, 1⟩, ⟨4, 1⟩] := by decide +kernel

/-- Chapter 6, step 9: RELEASE of the pane that holds the focus: the reply comes before FOCUS LOST. -/
theorem test_release_live :
    (run (.release .tablet 1) work).dock.outbound = [.reply 0x11 .ok [], .notice (.focusLost 1)] := by decide +kernel

/-- Chapter 11: the reply values of MOVE pane 3 to (100, 40, 600, 400). -/
theorem test_move :
    tabletReply (run (.move .tablet 3 ⟨100, 40, 600, 400⟩) work)
      = some (.reply 0x12 .ok [0x03, 0x64, 0x00, 0x28, 0x00, 0x58, 0x02, 0x90, 0x01]) := by decide +kernel

/-- R14: 928 mod 32 = 0 and 65 mod 64 = 1 on a 64 × 32 surface. -/
theorem test_scroll :
    ((run (.scroll .tablet 1 65 928) work).pane? 1).map (·.staged.scroll) = some (some ⟨1, 0⟩) := by decide +kernel

/-- Chapter 1, "staging from both masters": a raised pane stands right below pane 0, a lowered one last. -/
theorem test_raise : (run (.raise .tablet 7) work).layout.nextOrder = [0, 7, 1, 2] := by decide +kernel
theorem test_lower : (run (.lower .tablet 1) work).layout.nextOrder = [0, 2, 7, 1] := by decide +kernel

/-- R6: SHOW of pane 0 is not the tablet's; the vehicle unit may hide it. -/
theorem test_showPane :
    tabletReply (run (.showPane .tablet 0) work) = some (.reply 0x16 .notAllowed []) := by decide +kernel
theorem test_hidePane :
    ((run (.hidePane .vehicle 0) work).pane? 0).map (·.staged.visible) = some (some false) := by decide +kernel

/-- Chapter 1, steps 2 and 3: a second FLIP gives FLIP_PENDING. -/
theorem test_flip :
    tabletReply (run (.flip .tablet 1) { run (.flip .tablet 1) work with dock := work.dock })
      = some (.reply 0x18 .flipPending []) := by decide +kernel

/-! ### Focus and keys -/

/-- R85, R86: FOCUS LOST goes to the old owner, and the reply comes before FOCUS GAINED. -/
theorem test_focus :
    let t := run (.focus .vehicle 2) work
    t.dock.outbound = [.notice (.focusLost 1)] ∧
      t.vehicle.outbound = [.reply 0x20 .ok [2], .notice (.focusGained 2)] := by decide +kernel

/-- Chapter 6, step 2: FOCUS during a hold is DEFERRED and becomes the saved focus. -/
theorem test_focus_deferred :
    let t := run (.focus .vehicle 2) alarm
    t.router.focus = some 6 ∧ t.alerts.saved = some 2 := by decide +kernel

/-- Chapter 5, "a slow acknowledger", t = 7,600: of 23 events a report takes 8. -/
theorem test_keyAck :
    (run (.keyAck .tablet) { work with router := { work.router with
        tablet := { work.router.tablet with queue := List.replicate 23 ⟨50, .repeated, 100⟩, gate := .waiting } } }
      ).router.tablet.queue.length = 15 := by decide +kernel

/-- R100: the delay is clamped to 200–1,000 and the period to 33–500. -/
theorem test_repeatSet :
    let t := run (.repeatSet .tablet 1 5000 10) work
    t.router.tablet.delay = 1000 ∧ t.router.tablet.period = 33 := by decide +kernel

/-- Chapter 5, "a slow acknowledger": the REPEAT of key 5 is placed and the next is due 100 ms later. -/
theorem test_repeatExpiry :
    let t := after .repeatExpiry { work with now := 1400 }
    t.router.repeatKey.map (·.next) = some 1500 ∧ t.dock.outbound = [.keyReport [⟨5, .repeated, 420⟩]] := by
  decide +kernel

/-- A state with one position record replaced. -/
def positioned (p : Position) : State := { work with scanner := { work.scanner with
  positions := work.scanner.positions.set 37 p } }

/-- Chapter 4, "a chattering press", scan 7: DOWN 37 is accepted at the fifth scan and goes to the focus. -/
theorem test_scanEvent :
    let t := after (.scanEvent (BitVec.twoPow 128 37)) (positioned ⟨.pressPending, 4⟩)
    t.scanner.positions[37]? = some ⟨.stableDown, 0⟩ ∧ t.dock.outbound = [.keyReport [⟨37, .down, 20⟩]] := by
  decide +kernel

/-- R69, R70: ALERT_ACK, code 123, is read in the slot of KD7, the last, on KS11. -/
theorem test_slotSenses :
    (List.range 8).map (slotSenses (BitVec.twoPow 128 123)) = List.replicate 7 0 ++ [BitVec.twoPow 16 11] := by
  decide +kernel

/-- Chapter 4, "a shock during a press", scan 20: six positions that differ discard the scan. -/
theorem test_scanEvent_shock :
    let s := positioned ⟨.pressPending, 2⟩
    gives (.scanEvent (BitVec.ofNat 128 (2 ^ 37 + 2 ^ 10 + 2 ^ 11 + 2 ^ 26 + 2 ^ 27 + 2 ^ 42))) s s = true := by
  decide +kernel

/-- Chapter 4, "a key wake", step 7: the captured key 123 enters the table with target NONE. -/
theorem test_captureScan :
    let t := after (.captureScan (BitVec.twoPow 128 123)) { parkedState with
      scanner := { parkedState.scanner with mode := .capture, quietSeen := false } }
    t.router.held = [⟨123, none, 1000⟩] ∧ t.scanner.mode = .scanning ∧ t.alerts = work.alerts := by decide +kernel

/-- Chapter 4, "a key wake", steps 5 and 6: sense line 11 wakes the part, ignition off. -/
theorem test_wakeSample :
    let t := after (.wakeSample (BitVec.twoPow 16 11)) parkedState
    t.park.state = .parkPending ∧ t.scanner.mode = .capture ∧ t.scanOut.panel = .resuming := by decide +kernel

/-- R75: the counts are clamped to 2–40. -/
theorem test_scanSet :
    vehicleReply (run (.scanSet .vehicle 1 99) work) = some (.reply 0x53 .ok [2, 40]) := by decide +kernel

/-! ### Writes -/

/-- Chapter 9, "a bounce", t = 0: T = 800 × 2 × 2 = 3,200. -/
theorem test_writeBegin :
    (run (.writeBegin 1 1 ⟨0, 100, 800, 2⟩) work).dock.stream.map (·.total) = some 3200 := by decide +kernel

/-- R46, R49: point (63, 1) of pane 1's buffer 0 is at (64 + 63) × 2 = 254, low byte first. -/
theorem test_fillRect :
    let t := after (.memoryWritesComplete .tablet) (run (.fillRect 1 0 ⟨63, 1, 9, 1⟩ 0x07E1) work)
    Memory.read t.mem.cells 254 = 0xE1 ∧ Memory.read t.mem.cells 255 = 0x07 ∧ Memory.read t.mem.cells 256 = 0 := by
  decide +kernel

/-- R41 step 4: a write to a PREPARING pane. -/
theorem test_fillRect_busy :
    tabletReply (run (.fillRect 3 0 ⟨0, 0, 1, 1⟩ 0) work) = some (.reply 0x32 .paneBusy []) := by decide +kernel

/-- R47: cell (1, 9) of pane 7, 10 × 4 at byte 16,384, is at 16,384 + 19 × 2 = 16,422; a second cell is cut off. -/
theorem test_textPut :
    let t := after (.memoryWritesComplete .tablet) (run (.textPut 7 0 1 9 [⟨0x41, 0x0F⟩, ⟨0x42, 0x0F⟩]) work)
    Memory.read t.mem.cells 16422 = 0x41 ∧ Memory.read t.mem.cells 16424 = 0 := by decide +kernel

/-- Chapter 2, "a vehicle text put", step 1: B at 1,638,696 and O at 1,638,698; the rest is discarded. -/
theorem test_textDataFrame :
    let t := after (.memoryWritesComplete .vehicle) (run (.textDataFrame 2 0 2 48 0xE0 [0x42, 0x4F, 0x4F, 0x4D]) work)
    Memory.read t.mem.cells 1638696 = 0x42 ∧ Memory.read t.mem.cells 1638698 = 0x4F ∧
      Memory.read t.mem.cells 1638699 = 0xE0 ∧ Memory.read t.mem.cells 1638700 = 0 := by decide +kernel

/-- Chapter 2, "a vehicle text put", step 4: cells 1,638,400 to 1,638,799 are blank, and the tail is not. -/
theorem test_textClear :
    let t := after (.memoryWritesComplete .vehicle) (run (.textClear .vehicle 2 0) work)
    Memory.read t.mem.cells 1638798 = 0x20 ∧ Memory.read t.mem.cells 1638799 = 0x0F ∧
      Memory.read t.mem.cells 1638800 = 0 := by decide +kernel

/-- R28, R47: the status row's own write. -/
theorem test_memoryWritesComplete :
    Memory.read (after (.memoryWritesComplete .statusRow) { work with mem := { work.mem with
      rowWrites := [⟨14, [⟨0x56, 0x0F⟩]⟩] } }).mem.cells 1966108 = 0x56 := by decide +kernel

/-! ### The arbiter -/

/-- The state after a step. -/
def stepped (s : State) : State :=
  match step s with
  | .next t => t
  | _ => s

/-- The fill of pane 3 with the bytes given done of its block, and two bytes 0x55 left in the block. -/
def filling (done : Nat) : State :=
  { work with mem := { work.mem with
      cells := [(8192, 0x55), (12224, 0x55)], fills := [⟨3, ⟨2, 1⟩, .zero, 0, done⟩] } }

/-- R39, R50: the first access of the fill clears bytes 8,192 to 8,255 and no other; the turn passes to the drain. -/
theorem test_fill_access :
    let t := stepped (filling 0)
    t.mem.cells = [(12224, 0x55)] ∧ t.mem.fills = [⟨3, ⟨2, 1⟩, .zero, 0, 64⟩] ∧ t.mem.turn = .drain := by decide +kernel

/-- R11, R39: the access of bytes 12,224 to 12,287 ends the run: the entry is gone, and pane 3 is READY and last in the
ready list. -/
theorem test_fill_last :
    let t := stepped (filling 4032)
    t.mem.cells = [(8192, 0x55)] ∧ t.mem.fills = [] ∧ (t.pane? 3).map (·.phase) = some .ready ∧
      t.layout.ready = [5, 6, 3] := by decide +kernel

/-- R39: the access that ends the first of two blocks adds 1 to blocks done. -/
theorem test_fill_block :
    let s : State := { work with mem := { work.mem with fills := [⟨3, ⟨2, 2⟩, .zero, 0, 4032⟩] } }
    (stepped s).mem.fills = [⟨3, ⟨2, 2⟩, .zero, 1, 0⟩] := by decide +kernel

/-- R45, R50, R166: the first access of the drain of chapter 2's clipped stream writes offsets 0 to 7, which end at
1,238,599; offset 16 goes to the next line. The buffer is DRAINING. -/
theorem test_drain_access :
    let s : State := { clipped with
      dock := { clipped.dock with bufferA := .filled 0 ((List.range 17).map fun k => byte (k + 1)) }
      mem := { clipped.mem with turn := .drain } }
    let t := stepped s
    Memory.read t.mem.cells 1238599 = 8 ∧ Memory.read t.mem.cells 1238792 = 0 ∧
      t.dock.bufferA = .draining 8 ((List.range' 8 9).map fun k => byte (k + 1)) ∧ t.mem.turn = .text := by decide +kernel

/-- R157, R166: the access that writes the last byte of the buffer filled longest ago makes it EMPTY, with no completion. -/
theorem test_drain_last :
    let s : State := { clipped with
      dock := { clipped.dock with bufferA := .draining 16 [17] }, mem := { clipped.mem with turn := .drain } }
    let t := stepped s
    t.dock.bufferA = .empty ∧ Memory.read t.mem.cells 1238792 = 17 := by decide +kernel

/-- Every client with an access waiting: the fill, the drain, both masters' writes and the status row. -/
def contended : State :=
  { clipped with mem := { clipped.mem with
      tabletWrite := some { job := .textPut 7 0 3 9 [⟨0x41, 0x0F⟩], done := 0 }
      vehicleWrite := some { job := .textClear 2 0, done := 0 }
      rowWrites := [⟨99, [⟨0x41, 0x0F⟩]⟩] } }

/-- R50: the turns of six grants on end, from fill and the tablet: fill, drain, tablet, fill, drain, vehicle unit. -/
theorem test_turns :
    (contended.nextWriter, (stepped contended).nextWriter, (stepped (stepped contended)).nextWriter,
        (stepped (stepped (stepped contended))).nextWriter, (stepped (stepped (stepped (stepped contended)))).nextWriter,
        (stepped (stepped (stepped (stepped (stepped contended))))).nextWriter)
      = (some .fill, some .drain, some (.text .tablet), some .fill, some .drain, some (.text .vehicle)) := by
  decide +kernel

/-- R39, R11: pane 3 joins the ready list. -/
theorem test_fillCompletion : (after .fillCompletion work).layout.ready = [5, 6, 3] := by decide +kernel

/-- R22 to R25: pane 4 is FREE, alert 6 above pane 0, pane 5 on top of the NORMAL tier, frame 1,201. -/
theorem test_frameBoundary :
    let t := after .frameBoundary work
    t.layout.current = [6, 0, 5, 1, 2, 7] ∧ t.layout.frame = 1201 ∧ t.pane? 4 = none := by decide +kernel

/-- Chapter 6, step 1: PANE LIVE (6) before FOCUS GAINED (6) to the vehicle unit, the hold in force. -/
theorem test_frameBoundary_alert :
    let t := after .frameBoundary work
    t.vehicle.outbound = [.notice (.paneLive 6 1201), .notice (.focusGained 6)] ∧ t.router.hold = true ∧
      t.alerts.saved = some 1 := by decide +kernel

/-! ### Inputs and lines -/

/-- Input 3 in LEVEL mode, active HIGH, nine samples into a change to HIGH (chapter 8, t = 1,012). -/
def nearEdge : State :=
  let aux0 : DiscreteInput :=
    { qualified := false, changeCount := 9, latest := true, qualTime := 10, interval := 4012, mode := .level true
      tabletFlag := false, vehicleFlag := false, tabletAck := false, vehicleAck := false }
  { work with inputs := work.inputs.set 3 aux0 }

/-- Chapter 8, t = 1,013: the edge hands INPUT CHANGE (3, HIGH, 4,013) to both masters. -/
theorem test_inputSample :
    let t := after (.inputSample ⟨true, true, false, true, false⟩) nearEdge
    t.dock.outbound = [.notice (.inputChange 3 true 4013)] ∧
      t.vehicle.outbound = [.notice (.inputChange 3 true 4013)] := by decide +kernel

/-- Chapter 8, t = 1,050: the vehicle unit's ack waits while the level is active. -/
theorem test_inputAck :
    let t := run (.inputAck .vehicle 3) (after (.inputSample ⟨true, true, false, true, false⟩) nearEdge)
    (t.inputs[3]?).map (fun i => (i.tabletFlag, i.tabletAck, i.vehicleFlag, i.vehicleAck))
      = some (true, false, true, true) := by decide +kernel

/-- R150: the time 0 for AUX1 is clamped to 1. -/
theorem test_inputMode :
    tabletReply (run (.inputMode .tablet 4 0 1 0) work) = some (.reply 0x41 .ok [4, 0, 1, 1]) := by decide +kernel

/-- R151, R178: BAY qualified HIGH, latest HIGH, EDGE, BOTH: 1 + 2 + 16; 10 ms; 65,535. -/
theorem test_queryInputs :
    vehicleReply (run (.queryInputs .vehicle (some 0)) work) = some (.reply 0x42 .ok [19, 10, 0xFF, 0xFF, 0]) := by
  decide +kernel

/-- R154: line 5 is the vehicle unit's. -/
theorem test_lineSet : tabletReply (run (.lineSet .tablet 5 1 1) work) = some (.reply 0x43 .notOwner []) := by
  decide +kernel
theorem test_lineSet_ok : (run (.lineSet .tablet 7 1 1) work).lines.lines[7]? = some ⟨true, true⟩ := by decide +kernel

/-- R155: lines 3 and 4 are OUT, the LINK LED on. -/
theorem test_queryLines :
    tabletReply (run (.queryLines .tablet 0x91) work) = some (.reply 0x44 .ok [0x18, 0x10, 0x91]) := by decide +kernel

/-- R153: the LINK LED blinks in ATTACHING. -/
theorem test_linkLedToggle :
    let t := after .linkLedToggle { attachingState with lines := LineBlock.afterReset .attaching, now := 250 }
    t.lines.lines[4]? = some ⟨true, false⟩ ∧ t.lines.ledTimer = some 500 := by decide +kernel

/-! ### Light, supply and park -/

/-- R139, R178: page 1 of the work state: F = 4,096, target 344, applied 344. -/
theorem test_queryLight :
    vehicleReply (run (.queryLight .vehicle (some 1)) work)
      = some (.reply 0x45 .ok [0x00, 0x10, 0x58, 0x01, 0x58, 0x01]) := by decide +kernel

/-- R136: dark cab turned on sets the jump flag. -/
theorem test_darkCab : (run (.darkCab .vehicle 1) work).light.jump = true := by decide +kernel

/-- R144: 700 s is clamped to 600. -/
theorem test_parkDelay :
    vehicleReply (run (.parkDelay .vehicle 700) work) = some (.reply 0x51 .ok [0x58, 0x02]) := by decide +kernel

/-- R143: a WAKE in PARKED with the ignition off: PARK_PENDING with 30,000 ms. -/
theorem test_wake :
    let t := run (.wake .vehicle) parkedState
    t.park.state = .parkPending ∧ t.park.countdown = some 30000 := by decide +kernel

/-- Chapter 4, "parking with a held key", step 1: UP 5 goes to the tablet and the table is empty. -/
theorem test_countdownExpiry :
    let t := after .countdownExpiry { work with park := { Park.afterReset false with countdown := some 0 } }
    t.park.state = .parked ∧ t.router.held = [] ∧ t.dock.outbound = [.keyReport [⟨5, .up, 20⟩]] := by decide +kernel

/-- R142: with the whole countdown left no expiry is taken. -/
theorem test_countdownExpiry_early :
    let s : State := { work with park := Park.afterReset false }
    gives .countdownExpiry s s = true := by decide +kernel

/-- R126: a scan starts. -/
theorem test_converterScanStart :
    let t := after .converterScanStart work
    t.light.converting = true ∧ t.light.scanStart = 1000 := by decide +kernel

/-- Chapter 7, "one backlight update", completion 1: F = 5,184, target 404, applied 369. -/
theorem test_scanCompletion :
    let t := after (.scanCompletion 800 690 0) { work with light := { work.light with converting := true, offset := 1 } }
    t.light.filter = 5184 ∧ t.light.target = 404 ∧ t.light.applied = 369 := by decide +kernel

/-- Chapter 7, "a cranking dip", t = 20: the second low sample makes LOW, and the duty jumps to 200. -/
theorem test_scanCompletion_low :
    let t := after (.scanCompletion 700 420 0) { work with light := { work.light with
      converting := true, filter := 11200, lowCount := 1, target := 696, applied := 696 } }
    t.light.applied = 200 ∧ t.dock.outbound = [.notice (.supplyChange true false 420 0)] := by decide +kernel

/-! ### The Vehicle Line and RESTART -/

/-- Chapter 10, t = 6,400: a presence frame (base + 5) brings the unit back. -/
theorem test_vehicleFrameReceived :
    (after (.vehicleFrameReceived ⟨0x645, false, []⟩) { work with vehicle := VehiclePort.afterReset 0x640 }
      ).vehicle.present = true := by decide +kernel

/-- Chapter 10: a request frame enters the queue. -/
theorem test_vehicleFrameReceived_request :
    (after (.vehicleFrameReceived ⟨0x640, false, [0x12, 0x03, 0x0C, 0x02, 0x4B, 0x19]⟩) work).vehicle.requests
      = [.move 3 ⟨12, 2, 75, 25⟩] := by decide +kernel

/-- Chapter 10, t = 6,000: the absence empties the outbound queue. -/
theorem test_vehicleSilenceExpiry :
    let t := after .vehicleSilenceExpiry
      { work with now := 2000, vehicle := { work.vehicle with outbound := [.keyReport []] } }
    t.vehicle.present = false ∧ t.vehicle.outbound = [] := by decide +kernel

/-- R173: a frame sent leaves the queue. -/
theorem test_vehicleFrameSent :
    (after .vehicleFrameSent { work with vehicle := { work.vehicle with outbound := [.keyReport []] } }).vehicle.outbound
      = [] := by decide +kernel

/-- The work state with nothing to be cut off. -/
def idleState : State := { work with
  mem := SurfaceMemory.afterReset []
  layout := { work.layout with panes := work.layout.panes.set 3 none }
  alloc := { work.alloc with tablet := [⟨0, 2⟩, ⟨3, 1⟩, ⟨4, 1⟩] } }

/-- R174: TABLET STATE (departed) of the restarted Dock Link comes before the reply with the set as given. -/
theorem test_restartDockLink :
    (run (.restartDockLink .vehicle 1) idleState).vehicle.outbound
      = [.notice (.focusGained 2), .notice (.tabletState false), .reply 0x54 .ok [1]] := by decide +kernel

/-- R174: DOCK_LINK comes before SCANNER, so a SCANNER out of its turn waits. -/
theorem test_restartScanner :
    run (.restartScanner .vehicle 3) idleState = asked .vehicle (.restart 3) idleState := by decide +kernel

/-- R138: the records become absent and a scan begins. -/
theorem test_restartConverter :
    let t := run (.restartConverter .vehicle 4) work
    t.light.ambient = none ∧ t.light.converting = true ∧ vehicleReply t = some (.reply 0x54 .ok [4]) := by
  decide +kernel

/-! ### Composition (chapter 3) -/

/-- Chapter 3, "a scrolled tablet pane": screen pixel (150, 300) is read at byte 175,204. -/
theorem test_composed :
    { work with
      layout := { work.layout with
        panes := work.layout.panes.set 1 (some { tabletPane with
          window := ⟨100, 40, 600, 400⟩, sizeX := 640, sizeY := 1200, buffers := 1, run := ⟨24, 375⟩
          scroll := ⟨0, 1000⟩ })
        current := [0, 1] }
      mem := { work.mem with cells := [(175204, 0x34), (175205, 0x12)] } : State }.composed 150 300 = 0x1234 := by
  decide +kernel

/-! ### States that meet the statements' premises -/

/-- The alert state with bytes listed in the memory, key 5 down, a stream open and a boundary waiting. -/
def busy : State :=
  { alarm with
    mem := { alarm.mem with cells := [(16384, 0x41), (16385, 0x0F)] }
    scanner := { alarm.scanner with positions := alarm.scanner.positions.set 5 { state := .stableDown, count := 0 } }
    dock := { alarm.dock with stream := some ⟨1, 1, ⟨0, 0, 4, 4⟩, 32, 8, 6, 2, false⟩ }
    pending := [.frameBoundary] }

/-- A check of every pane of a table of eight. -/
theorem panes_all {s : State} {f : Nat → Pane → Bool} (len : s.layout.panes.length = 8)
    (h : (List.range 8).all (fun n => (s.pane? n).all (f n)) = true) {n : Nat} {p : Pane} (hp : s.pane? n = some p) :
    f n p = true := by
  have hn : n < 8 := by
    by_contra hge
    have : s.layout.panes[n]? = none := List.getElem?_eq_none (by omega)
    simp [State.pane?, this] at hp
  have := List.all_eq_true.mp h n (List.mem_range.mpr hn)
  rw [hp] at this
  exact this

/-- A pane's phase, checked over the table. -/
theorem inPhase_iff {s : State} {l : List Nat} {phases : List PanePhase} (len : s.layout.panes.length = 8)
    (low : ∀ n ∈ l, n < 8)
    (h : ∀ n < 8, (n ∈ l ↔ (s.pane? n).any (fun p => decide (p.phase ∈ phases)) = true)) (n : Nat) :
    n ∈ l ↔ InPhase phases s n := by
  by_cases hn : n < 8
  · rw [h n hn]
    cases hp : s.pane? n <;> simp [InPhase, hp]
  · have hq : s.pane? n = none := by
      have : s.layout.panes[n]? = none := List.getElem?_eq_none (by omega)
      simp [State.pane?, this]
    exact ⟨fun hm => absurd (low n hm) hn, fun hi => by simp [InPhase, hq] at hi⟩

theorem busy_memory : MemoryKept busy := by unfold MemoryKept; decide +kernel
theorem busy_queues : QueuesKept busy := by unfold QueuesKept; decide +kernel
theorem busy_keys : KeysKept busy := by unfold KeysKept; decide +kernel
theorem busy_duty : DutyKept busy := by unfold DutyKept; decide +kernel
theorem busy_quota : QuotaKept busy := by unfold QuotaKept; decide +kernel
theorem busy_hold : HoldKept busy := by unfold HoldKept; decide +kernel

theorem busy_orders : OrdersKept busy := by
  refine ⟨rfl, ⟨statusPane, rfl, rfl, rfl, rfl⟩, by decide, inPhase_iff rfl (by decide) (by decide +kernel),
    ⟨[6], [1, 2, 7, 4], rfl, ?_, ?_⟩, by decide, inPhase_iff rfl (by decide) (by decide +kernel),
    ⟨[6], [1, 2, 7], rfl, ?_, ?_⟩, by decide, inPhase_iff rfl (by decide) (by decide +kernel)⟩
  · intro n hn; obtain rfl : n = 6 := by simpa using hn
    exact ⟨_, rfl, rfl⟩
  · intro n hn; simp only [List.mem_cons, List.not_mem_nil, or_false] at hn
    obtain rfl | rfl | rfl | rfl := hn <;> exact ⟨by decide, _, rfl, rfl⟩
  · intro n hn; obtain rfl : n = 6 := by simpa using hn
    exact ⟨_, rfl, rfl⟩
  · intro n hn; simp only [List.mem_cons, List.not_mem_nil, or_false] at hn
    obtain rfl | rfl | rfl := hn <;> exact ⟨by decide, _, rfl, rfl⟩

theorem busy_runs (o : Owner) : RunsInOrder o busy := by
  cases o <;> (unfold RunsInOrder; decide +kernel)

theorem busy_listed : ∀ o ∈ [Owner.tablet, .vehicle, .part], ∀ r ∈ busy.alloc.runs o,
    (List.range 8).any (fun n => (busy.pane? n).any fun p => decide (p.owner = o ∧ p.run = r)) = true := by
  decide +kernel

theorem busy_allocation : AllocationKept busy := by
  refine ⟨busy_runs, ?_, ?_, ?_, ?_, by decide +kernel, ?_, by decide +kernel⟩
  · intro n p hp
    have := panes_all (f := fun _ p => decide (p.run ∈ busy.alloc.runs p.owner ∧
      p.run.length = (p.sizeX * p.sizeY * 2 + 4095) / 4096 * p.buffers)) rfl (by decide +kernel) hp
    simpa using this
  · intro o r hr
    obtain ⟨n, -, hn⟩ := List.any_eq_true.mp (busy_listed o (by cases o <;> decide) r hr)
    cases hp : busy.pane? n with
    | none => simp [hp] at hn
    | some p =>
      rw [hp] at hn
      exact ⟨n, p, hp, of_decide_eq_true hn⟩
  · intro n k p q hp hq ne ho hr
    have := panes_all (f := fun n p => (List.range 8).all fun k => (busy.pane? k).all fun q =>
      decide (n ≠ k → p.owner = q.owner → p.run ≠ q.run)) rfl (by decide +kernel) hp
    have hk : k < 8 := by
      by_contra hge
      have : busy.layout.panes[k]? = none := List.getElem?_eq_none (Nat.not_lt.mp hge)
      simp [State.pane?, this] at hq
    have := List.all_eq_true.mp this k (List.mem_range.mpr hk)
    rw [hq] at this
    exact absurd hr ((of_decide_eq_true this) ne ho)
  · intro n p hp hph
    have := panes_all (f := fun n p => decide (p.phase = .preparing → ∃ e ∈ busy.mem.fills, e.pane = n)) rfl
      (by decide +kernel) hp
    exact of_decide_eq_true this hph
  · intro e he
    obtain rfl : e = ⟨3, ⟨2, 1⟩, .zero, 0, 0⟩ := by simpa [busy, alarm, work] using he
    exact ⟨by decide, fillingPane, rfl, rfl, rfl⟩

theorem busy_held : HeldKept busy := by unfold HeldKept; decide +kernel

theorem busy_stream : StreamKept busy := by
  intro st h
  obtain rfl : st = ⟨1, 1, ⟨0, 0, 4, 4⟩, 32, 8, 6, 2, false⟩ := (Option.some.inj h).symm
  decide

theorem busy_focus : FocusKept busy := by
  refine ⟨?_, by decide, by decide +kernel, by decide, ?_, by decide, ?_, ?_⟩
  · intro n h
    obtain rfl : n = 6 := (Option.some.inj h).symm
    decide +kernel
  · intro n hn
    obtain rfl : n = 6 := by simpa [busy, alarm] using hn
    exact ⟨_, rfl, rfl, rfl⟩
  · intro n h
    obtain rfl : n = 1 := (Option.some.inj h).symm
    decide +kernel
  · intro n p hp
    have := panes_all (f := fun _ p => decide (p.cls = .alert →
      p.owner = .vehicle ∧ p.visible = true ∧ p.staged.visible = none)) rfl (by decide +kernel) hp
    exact of_decide_eq_true this

theorem busy_inMemory : InMemory busy := by
  refine ⟨?_, by decide +kernel, by decide +kernel⟩
  intro n p hp b hb
  have := panes_all (f := fun _ p => (List.range p.buffers).all fun b =>
    decide (p.bufferBase b + p.sizeX * p.sizeY * 2 ≤ 2097152)) rfl (by decide +kernel) hp
  exact of_decide_eq_true (List.all_eq_true.mp this b (List.mem_range.mpr hb))

/-- A step from the busy state answers a next state: the premise of the statements about every step. -/
theorem witness_every_step : ∃ t, step busy = .next t := ⟨_, rfl⟩


/-- No command waiting: a held part, the first and the last line of blanking, the first, the last but one and the last pixel
of an active line, and the last position. -/
theorem witness_StepTakesFrontCommand :
    ((after .fullReset work).scanOut.running = false ∧ (after .fullReset work).pending = []) ∧
      (State.reset.pending = [] ∧ State.reset.scanOut.running = true ∧ State.reset.scanOut.line = 0) ∧
      ∀ position ∈ [(44, 0), (45, 0), (45, 798), (523, 799), (524, 799)],
        let s : State := { work with scanOut := { work.scanOut with line := position.1, column := position.2 } }
        s.pending = [] ∧ s.scanOut.running = true ∧ s.scanOut.line = position.1 ∧ s.scanOut.column = position.2 := by
  decide +kernel

/-- The part out of reset, in blanking and at the first active line, with the panel on and off. -/
theorem witness_FullResetHoldsAndReleases :
    (State.reset.scanOut.running = true ∧ State.reset.scanOut.line < 45 ∧ State.reset.scanOut.panel ≠ .on) ∧
      (let s : State := { work with scanOut := { work.scanOut with line := 45 } };
      s.scanOut.running = true ∧ 45 ≤ s.scanOut.line ∧ s.scanOut.panel = .on) := by decide +kernel

/-- A command that answers a next state from the busy state. -/
theorem witness_ExecKeepsTheQueue : ∃ t, exec .frameBoundary busy = .next t := ⟨_, rfl⟩

/-- The premise on the memory, and a command that does not need it. -/
theorem witness_EveryCommandCompletes :
    InMemory busy ∧ (Instr.keepalive ≠ .fillCompletion ∧ Instr.keepalive ≠ .drainComplete ∧
      ∀ w, Instr.keepalive ≠ .memoryWritesComplete w) :=
  ⟨busy_inMemory, by decide, by decide, by intro w; cases w <;> decide⟩

/-- A KEY ACK while the queue is empty, and a HELLO in UP and in HOLD with BAY LOW. -/
theorem witness_WaitingRequestChangesNothing :
    ((Instr.keyAck .vehicle).request? = some (.vehicle, .keyAck) ∧ ¬Turn .vehicle .keyAck work ∧
        ∀ grace, Request.keyAck ≠ .hello grace) ∧
      ((Instr.hello 300).request? = some (.tablet, .hello 300) ∧ ¬Turn .tablet (.hello 300) work ∧
        work.dock.link = .up) ∧
      (¬Turn .tablet (.hello 300) holdingLow ∧ holdingLow.dock.link = .hold ∧ holdingLow.bayHigh = false) := by
  refine ⟨⟨rfl, ?_, by intro g h; cases h⟩, ⟨rfl, ?_, rfl⟩, ?_, rfl, ?_⟩ <;>
    first | decide +kernel | (simp only [Turn]; decide +kernel)

/-- A held part and a command that it does not take. -/
theorem witness_HeldPartTakesNothing :
    (after .fullReset work).scanOut.running = false ∧ Instr.frameBoundary ≠ .fullReset ∧
      ∀ a b p, Instr.frameBoundary ≠ .resetRelease a b p :=
  ⟨by decide +kernel, by decide, by intro a b p h; cases h⟩

/-- The pane check: a number above 7, another's pane, a closing pane, pane 0; and SHOW of pane 0 from the tablet. Each
request is in its turn when it is the one that waits. -/
theorem witness_PaneCheckRefuses :
    (work.layout.panes.length = 8 ∧ paneRefusal .tablet 8 work = some .noSuchPane) ∧
      (8 ≠ 0 ∧ paneRefusal .tablet 2 work = some .notOwner ∧ paneRefusal .vehicle 4 work = some .paneClosing ∧
        paneRefusal .vehicle 0 work = some .notOwner ∧ work.pane? 0 ≠ none) ∧
      (paneRefusal .tablet 2 (asked .tablet (.writeBegin 2 0 ⟨0, 0, 1, 1⟩) work) = some .notOwner ∧
        Turn .tablet (.writeBegin 2 0 ⟨0, 0, 1, 1⟩) (asked .tablet (.writeBegin 2 0 ⟨0, 0, 1, 1⟩) work)) ∧
      (paneRefusal .vehicle 1 (asked .vehicle (.textData 1 0 0 0 0 []) work) = some .notOwner ∧
        Turn .vehicle (.textData 1 0 0 0 0 []) (asked .vehicle (.textData 1 0 0 0 0 []) work)) ∧
      Turn .tablet (.showPane 0) (asked .tablet (.showPane 0) work) := by
  simp only [Turn]; decide +kernel

/-- The tablet's region full. -/
def full : State := { fresh with alloc := { fresh.alloc with tablet := [⟨0, 400⟩] } }

theorem full_has_no_room (n a : Nat) (hn : 1 ≤ n) : ¬FreeBlocks .tablet n a full := by
  rintro ⟨_, hb, hr⟩
  have := hr ⟨0, 400⟩ (by simp [Allocator.runs, full])
  simp [regionBounds] at hb
  simp at this
  omega

/-- The four steps of R8: an ALERT claim of the tablet, a PIXEL claim of the vehicle unit, a surface 2,049 wide, a fifth
pane of the tablet, and a full region. -/
theorem witness_ClaimRefusedInOrder :
    (RunsInOrder .tablet work ∧ ClassBarred .tablet { pixelClaim 1 1 1 with cls := 1 }) ∧
      (RunsInOrder .vehicle work ∧ KindBarred .vehicle (pixelClaim 1 1 1)) ∧
      (¬ClassBarred .tablet (pixelClaim 2049 1 1) ∧ ¬KindBarred .tablet (pixelClaim 2049 1 1) ∧
        ValuesBarred (pixelClaim 2049 1 1)) ∧
      (¬ClassBarred .tablet (pixelClaim 1 1 1) ∧ ¬KindBarred .tablet (pixelClaim 1 1 1) ∧
        ¬ValuesBarred (pixelClaim 1 1 1) ∧ quotaOf .tablet ≤ holds (masterOwner .tablet) work) ∧
      (RunsInOrder .tablet full ∧ holds (masterOwner .tablet) full < quotaOf .tablet ∧
        ∀ a, ¬FreeBlocks .tablet (blocksNeeded (pixelClaim 1 1 1)) a full) := by
  refine ⟨?_, ?_, ?_, ?_, ?_, ?_, fun a => full_has_no_room _ a (by decide)⟩ <;>
    first | decide +kernel | (simp only [RunsInOrder, ClassBarred, KindBarred, ValuesBarred]; decide +kernel)

/-- Chapter 1's first claim: record 1, block 0, and 364 blocks. -/
theorem witness_ClaimTakesLowestFreeRecord :
    let ops := pixelClaim 800 464 2
    let s := asked .tablet (.claim ops) fresh
    Turn .tablet (.claim ops) s ∧ RunsInOrder .tablet s ∧ ¬ClassBarred .tablet ops ∧ ¬KindBarred .tablet ops ∧
      ¬ValuesBarred ops ∧ holds .tablet s < quotaOf .tablet ∧ FreeBlocks .tablet (blocksNeeded ops) 0 s ∧
      (∀ b < 0, ¬FreeBlocks .tablet (blocksNeeded ops) b s) ∧ s.layout.panes[1]? = some none ∧
      (∀ k < 1, 1 ≤ k → s.layout.panes[k]? ≠ some none) := by
  simp only [Turn, RunsInOrder, ClassBarred, KindBarred, ValuesBarred, FreeBlocks]
  refine ⟨by decide +kernel, by decide +kernel, by decide +kernel, by decide +kernel, by decide +kernel,
    by decide +kernel, by decide +kernel, fun b hb => absurd hb (Nat.not_lt_zero b), by decide +kernel, ?_⟩
  intro k hk h1
  omega

/-- One block, over the three runs of the first-fit example's end. -/
theorem witness_FirstFitFindsTheLowestGap :
    1 ≤ 1 ∧ RunsInOrder .tablet { fresh with alloc := { fresh.alloc with tablet := [⟨0, 47⟩, ⟨47, 118⟩, ⟨235, 64⟩] } } := by
  simp only [RunsInOrder]; decide +kernel

/-- MOVE to an empty and to a full window, from each master; SCROLL by 0 and by 65,535. -/
theorem witness_MoveAndScrollStageGeometry :
    (Owned .tablet 1 tabletPane (asked .tablet (.move 1 ⟨0, 0, 0, 1⟩) work) ∧
        Turn .tablet (.move 1 ⟨0, 0, 0, 1⟩) (asked .tablet (.move 1 ⟨0, 0, 0, 1⟩) work)) ∧
      (Owned .vehicle 2 vehiclePane (asked .vehicle (.move 2 ⟨255, 255, 255, 255⟩) work) ∧
        Turn .vehicle (.move 2 ⟨255, 255, 255, 255⟩) (asked .vehicle (.move 2 ⟨255, 255, 255, 255⟩) work)) ∧
      (Owned .tablet 1 tabletPane (asked .tablet (.scroll 1 0 65535) work) ∧
        Turn .tablet (.scroll 1 0 65535) (asked .tablet (.scroll 1 0 65535) work)) := by
  simp only [Turn, Owned]; decide +kernel

/-- SHOW and HIDE of an ALERT pane, of a NORMAL one, and of pane 0 from the vehicle unit. -/
theorem witness_ShowAndHideStageVisibility :
    (Owned .vehicle 6 alertPane (asked .vehicle (.showPane 6) work) ∧ alertPane.cls = .alert ∧
        Turn .vehicle (.showPane 6) (asked .vehicle (.showPane 6) work)) ∧
      (Owned .tablet 1 tabletPane (asked .tablet (.hidePane 1) work) ∧ tabletPane.cls = .normal ∧
        Turn .tablet (.hidePane 1) (asked .tablet (.hidePane 1) work)) ∧
      ((asked .vehicle (.showPane 0) work).pane? 0 = some statusPane ∧ statusPane.cls = .normal ∧
        Turn .vehicle (.showPane 0) (asked .vehicle (.showPane 0) work)) := by
  simp only [Turn, Owned]; decide +kernel

/-- FLIP of a double-buffered pane. -/
theorem witness_FlipStagesOneFlip :
    Turn .tablet (.flip 1) (asked .tablet (.flip 1) work) ∧ Owned .tablet 1 tabletPane (asked .tablet (.flip 1) work) := by
  simp only [Turn, Owned]; decide +kernel

/-- RAISE of an ALERT pane that is READY and of one that is LIVE, of a READY NORMAL pane, and of the last LIVE pane; LOWER of the first. -/
theorem witness_RaiseAndLowerMoveInTheTier :
    (Owned .vehicle 6 alertPane (asked .vehicle (.raise 6) work) ∧ alertPane.cls = .alert ∧
        Turn .vehicle (.raise 6) (asked .vehicle (.raise 6) work)) ∧
      (Owned .vehicle 6 { alertPane with phase := .live } (asked .vehicle (.raise 6) alarm) ∧
        Turn .vehicle (.raise 6) (asked .vehicle (.raise 6) alarm)) ∧
      (Owned .tablet 5 readyPane (asked .tablet (.raise 5) work) ∧ readyPane.cls = .normal ∧
        readyPane.phase ≠ .live ∧ Turn .tablet (.raise 5) (asked .tablet (.raise 5) work)) ∧
      (Owned .tablet 7 textPane (asked .tablet (.raise 7) alarm) ∧ textPane.cls = .normal ∧ textPane.phase = .live ∧
        alarm.layout.nextOrder = [6] ++ 0 :: [1, 2, 7] ∧ 0 ∉ [6] ∧ 7 ∉ [6] ∧
        Turn .tablet (.raise 7) (asked .tablet (.raise 7) alarm)) ∧
      (Owned .tablet 1 tabletPane (asked .tablet (.lower 1) alarm) ∧
        Turn .tablet (.lower 1) (asked .tablet (.lower 1) alarm)) := by
  simp only [Turn, Owned]; decide +kernel

/-- RELEASE of a READY pane and of a PREPARING one. -/
theorem witness_ReleaseFreesAPaneNotYetLive :
    (Turn .tablet (.release 5) (asked .tablet (.release 5) work) ∧
        Owned .tablet 5 readyPane (asked .tablet (.release 5) work) ∧ readyPane.phase ≠ .live ∧ MemoryKept work) ∧
      (Turn .tablet (.release 3) (asked .tablet (.release 3) work) ∧
        Owned .tablet 3 fillingPane (asked .tablet (.release 3) work) ∧ fillingPane.phase ≠ .live ∧
        ∀ e ∈ work.mem.fills, e.pane = 3 → e.run = fillingPane.run) := by
  simp only [Turn, Owned, MemoryKept]; decide +kernel

/-- RELEASE of a LIVE pane that holds the focus, and of one that is on the alert stack. -/
theorem witness_ReleaseClosesALivePane :
    (Turn .tablet (.release 1) (asked .tablet (.release 1) work) ∧
        Owned .tablet 1 tabletPane (asked .tablet (.release 1) work) ∧ tabletPane.phase = .live) ∧
      (Turn .vehicle (.release 6) (asked .vehicle (.release 6) alarm) ∧
        Owned .vehicle 6 { alertPane with phase := .live } (asked .vehicle (.release 6) alarm) ∧
        alarm.alerts.stack = [6]) := by
  simp only [Turn, Owned]; decide +kernel

/-- The fill of pane 3. -/
theorem witness_FillCompletionMakesThePaneReady :
    work.scanOut.running = true ∧ work.mem.fills = ⟨3, ⟨2, 1⟩, .zero, 0, 0⟩ :: [] ∧ work.pane? 3 = some fillingPane ∧
      fillingPane.phase = .preparing ∧ (2 + 1) * 4096 ≤ 2097152 ∧ MemoryKept work := by
  simp only [MemoryKept]; decide +kernel

/-- A boundary with two panes of the ready list, one pane closing and one preparing. -/
theorem witness_BoundaryMakesStagedChangesCurrent :
    (work.scanOut.running = true ∧ work.layout.panes.length = 8 ∧ work.layout.ready.Nodup) ∧
      ∀ n ∈ work.layout.ready, n < 8 ∧ ∃ p, work.pane? n = some p ∧ p.phase = .ready := by
  refine ⟨by decide, fun n hn => ?_⟩
  have hn : n = 5 ∨ n = 6 := by simpa [work] using hn
  obtain rfl | rfl := hn <;> exact ⟨by decide, _, rfl, rfl⟩

theorem witness_BoundaryInsertsReadyPanesOnTop :
    work.layout.nextOrder = [] ++ 0 :: [1, 2, 7] ∧ 0 ∉ ([] : List Nat) ∧ work.layout.ready.Nodup ∧
      0 ∉ work.layout.ready ∧ ∀ n ∈ work.layout.ready, ∃ p, work.pane? n = some p ∧ p.phase = .ready :=
  ⟨by decide, by decide, by decide, by decide, fun n hn => (witness_BoundaryMakesStagedChangesCurrent.2 n hn).2⟩

/-- Panes that only this test has: a TEXT pane of the tablet being filled, and a PIXEL pane of the vehicle unit, which no
claim makes (R3). -/
def odd : State :=
  let filling : Pane := { textPane with phase := .preparing }
  let pixel : Pane := { tabletPane with owner := .vehicle }
  { work with layout := { work.layout with panes := (work.layout.panes.set 7 (some filling)).set 2 (some pixel) } }

/-- R41, step by step: kind, buffer number, sizes 0 and 2,049, cell, PREPARING. -/
theorem witness_WriteRequestsRefusedInOrder :
    (Owned .tablet 7 textPane work ∧ textPane.kind = .text ∧ textPane.buffers ≤ 1 ∧ textPane.sizeY ≤ 4 ∧
        textPane.sizeX ≤ 10) ∧
      (Owned .tablet 1 tabletPane work ∧ tabletPane.kind = .pixel ∧ tabletPane.buffers ≤ 2 ∧
        (⟨0, 0, 0, 1⟩ : Rect).w = 0 ∧ 2048 < (⟨0, 0, 1, 2049⟩ : Rect).h) ∧
      (Owned .tablet 3 fillingPane work ∧ 0 < fillingPane.buffers ∧ fillingPane.phase = .preparing ∧
        (⟨0, 0, 2048, 2048⟩ : Rect).w ≤ 2048) ∧
      Owned .tablet 7 { textPane with phase := .preparing } odd ∧ Owned .vehicle 2 { tabletPane with owner := .vehicle } odd ∧
      (Owned .vehicle 2 vehiclePane work ∧ vehiclePane.kind = .text ∧ vehiclePane.buffers ≤ 1 ∧ vehiclePane.sizeY ≤ 4 ∧
        vehiclePane.sizeX ≤ 50) ∧
      Turn .tablet (.writeBegin 7 0 ⟨0, 0, 1, 1⟩) (asked .tablet (.writeBegin 7 0 ⟨0, 0, 1, 1⟩) work) ∧
      Turn .tablet (.fillRect 1 2 ⟨0, 0, 1, 1⟩ 0) (asked .tablet (.fillRect 1 2 ⟨0, 0, 1, 1⟩ 0) work) ∧
      Turn .tablet (.textPut 7 0 4 0 []) (asked .tablet (.textPut 7 0 4 0 []) work) ∧
      Turn .vehicle (.textData 2 0 4 0 0 []) (asked .vehicle (.textData 2 0 4 0 0 []) work) ∧
      Turn .vehicle (.textClear 2 1) (asked .vehicle (.textClear 2 1) work) := by
  simp only [Turn, Owned]
  refine ⟨?_, ?_, ?_, ?_, ?_, ?_, ?_, ?_, ?_, ?_, ?_⟩ <;> decide +kernel

/-- One accepted write of each kind, at the last row, column and buffer. -/
theorem witness_AcceptedWritesBegin :
    (Owned .tablet 1 tabletPane (asked .tablet (.fillRect 1 1 ⟨63, 31, 1, 1⟩ 0) work) ∧ tabletPane.phase ≠ .preparing ∧
        1 < tabletPane.buffers ∧ tabletPane.kind = .pixel ∧
        Turn .tablet (.fillRect 1 1 ⟨63, 31, 1, 1⟩ 0) (asked .tablet (.fillRect 1 1 ⟨63, 31, 1, 1⟩ 0) work)) ∧
      (Owned .tablet 7 textPane (asked .tablet (.textPut 7 0 3 9 []) work) ∧ textPane.kind = .text ∧
        3 < textPane.sizeY ∧ 9 < textPane.sizeX ∧
        Turn .tablet (.textPut 7 0 3 9 []) (asked .tablet (.textPut 7 0 3 9 []) work)) ∧
      (Owned .vehicle 2 vehiclePane (asked .vehicle (.textData 2 0 3 49 0 [0x41]) work) ∧ vehiclePane.kind = .text ∧
        3 < vehiclePane.sizeY ∧ 49 < vehiclePane.sizeX ∧
        Turn .vehicle (.textData 2 0 3 49 0 [0x41]) (asked .vehicle (.textData 2 0 3 49 0 [0x41]) work)) ∧
      (Owned .vehicle 2 vehiclePane (asked .vehicle (.textClear 2 0) work) ∧ 1 ≤ vehiclePane.sizeX ∧
        1 ≤ vehiclePane.sizeY ∧ Turn .vehicle (.textClear 2 0) (asked .vehicle (.textClear 2 0) work)) := by
  simp only [Turn, Owned]; decide +kernel

/-- WRITE BEGIN of a rectangle 2,048 × 2,048, with a stream open. -/
theorem witness_WriteBeginOpensAStream :
    let s := asked .tablet (.writeBegin 1 1 ⟨0, 0, 2048, 2048⟩) bounced
    Turn .tablet (.writeBegin 1 1 ⟨0, 0, 2048, 2048⟩) s ∧ Owned .tablet 1 tabletPane s ∧ tabletPane.kind = .pixel ∧
      tabletPane.phase ≠ .preparing ∧ 1 < tabletPane.buffers := by
  simp only [Turn, Owned]; decide +kernel

/-- A FILL RECT of pane 1 under way, cut to one point: no bytes done, which leaves accesses. -/
theorem witness_FillRectWritesItsPoints :
    let s := run (.fillRect 1 0 ⟨63, 1, 9, 1⟩ 0x07E1) work
    s.scanOut.running = true ∧ s.mem.tabletWrite = some { job := .fillRect 1 0 ⟨63, 1, 9, 1⟩ 0x07E1, done := 0 } ∧
      s.pane? 1 = some tabletPane ∧ tabletPane.phase = .live ∧ 0 < tabletPane.buffers ∧
      tabletPane.bufferBase 0 + tabletPane.sizeX * tabletPane.sizeY * 2 ≤ 2097152 ∧ MemoryKept s ∧
      (min 9 (tabletPane.sizeX - 63) = 1 ∧ min 1 (tabletPane.sizeY - 1) = 1) := by
  simp only [MemoryKept]; decide +kernel

/-- A TEXT PUT, a TEXT CLEAR and a status row write under way, each at its last cell. -/
theorem witness_TextWritesWriteTheirCells :
    (let s := run (.textPut 7 0 3 9 [⟨0x41, 0x0F⟩]) work;
      s.mem.writeOf .tablet = some { job := .textPut 7 0 3 9 [⟨0x41, 0x0F⟩], done := 0 } ∧ s.pane? 7 = some textPane ∧
        textPane.phase = .live ∧ 0 < textPane.buffers ∧ 3 < textPane.sizeY ∧ 9 < textPane.sizeX ∧
        textPane.bufferBase 0 + textPane.sizeX * textPane.sizeY * 2 ≤ 2097152 ∧ MemoryKept s) ∧
      (let s := run (.textClear .vehicle 2 0) work;
      s.mem.writeOf .vehicle = some { job := .textClear 2 0, done := 0 } ∧ s.pane? 2 = some vehiclePane ∧ vehiclePane.phase = .live ∧
        0 < vehiclePane.buffers ∧
        vehiclePane.bufferBase 0 + vehiclePane.sizeX * vehiclePane.sizeY * 2 ≤ 2097152 ∧ MemoryKept s) ∧
      (let s : State := { work with mem := { work.mem with rowWrites := [⟨99, [⟨0x41, 0x0F⟩]⟩] } };
      s.mem.rowWrites = ⟨99, [⟨0x41, 0x0F⟩]⟩ :: [] ∧ 99 + 1 ≤ 100 ∧ MemoryKept s) := by
  simp only [MemoryKept]; decide +kernel

/-- The clipped stream with its last byte drained, ended and damaged. -/
def drained : State :=
  { clipped with dock := { clipped.dock with stream := some ⟨1, 0, ⟨96, 48, 8, 4⟩, 64, 64, 17, 47, true⟩ } }

/-- The drain of chapter 2's clipped stream, which goes on, and one that ends a stream. -/
theorem witness_DrainWritesTheStreamBytes :
    (drained.scanOut.running = true ∧ drained.dock.oldest = some .a ∧
      drained.dock.stream = some ⟨1, 0, ⟨96, 48, 8, 4⟩, 64, 64, 17, 47, true⟩ ∧ drained.dock.rx .b = .empty ∧
      drained.layout = clipped.layout ∧ drained.mem = clipped.mem) ∧
    clipped.scanOut.running = true ∧ clipped.dock.oldest = some .a ∧
      (clipped.dock.rx .a).content = some (0, (List.range 17).map fun k => byte (k + 1)) ∧
      clipped.dock.stream = some ⟨1, 0, ⟨96, 48, 8, 4⟩, 64, 17, 17, 0, false⟩ ∧
      (clipped.pane? 1).any (fun p => p.phase == .live && decide (0 < p.buffers) &&
        decide (p.bufferBase 0 + p.sizeX * p.sizeY * 2 ≤ 2097152)) = true ∧ MemoryKept clipped := by
  simp only [MemoryKept]; decide +kernel

/-- WRITE DATA discarded for each of its reasons; with bytes below T; with none; and with none at T, with and without a
buffer that holds bytes. -/
theorem witness_WriteDataEntersTheStream :
    (bounced.scanOut.running = true ∧ bounced.dock.link = .up) ∧
      (asked .tablet .keyAck bounced).dock.requests ≠ [] ∧ work.dock.stream = none ∧
      clipped.dock.rx clipped.dock.nextBuffer = .empty ∧
      (bounced.dock.stream = some ⟨1, 1, ⟨0, 100, 800, 2⟩, 3200, 2040, 2040, 0, false⟩ ∧ bounced.dock.requests = [] ∧
        bounced.dock.rx bounced.dock.nextBuffer = .empty ∧ 2040 ≤ 2040 ∧
        ([7] : List Byte).take (3200 - 3199) ≠ [] ∧ ([] : List Byte).take (3200 - 2040) = [] ∧
        ([7] : List Byte).take (3200 - 3200) = [] ∧ bounced.dock.bufferA = .empty ∧ bounced.dock.bufferB = .empty) ∧
      (clipped.dock.bufferA ≠ .empty ∧ clipped.dock.requests = [] ∧
        ([7] : List Byte).take (64 - 64) = []) ∧
      State.reset.dock.link = .absent ∧ attachingState.dock.link = .attaching ∧
      (holdingLow.dock.link = .hold ∧ holdingLow.bayHigh = false) ∧
      (holding.scanOut.running = true ∧ holding.dock.link = .hold ∧ holding.bayHigh = true) := by decide +kernel

/-- The state of chapter 3's scrolled tablet pane, with its sample in memory. -/
def scrolled : State :=
  let pane : Pane := { tabletPane with
    window := ⟨100, 40, 600, 400⟩, sizeX := 640, sizeY := 1200, buffers := 1, run := ⟨24, 375⟩, scroll := ⟨0, 1000⟩ }
  { work with
    layout := { work.layout with panes := work.layout.panes.set 1 (some pane), current := [0, 1, 2] }
    mem := { work.mem with cells := [(175204, 0x34), (175205, 0x12)] } }

/-- Chapter 3's scrolled tablet pane: at screen pixel (150, 300) Scan-out reads its sample at 175,204, before the fill has its
grant (R50, R67). -/
theorem test_scanReads :
    ({ scrolled with scanOut := { scrolled.scanOut with line := 345, column := 150 } } : State).grants
      = [.read 175204, .write .fill] := by decide +kernel

/-- The walk: at (750, 300) no window contains the pixel; at (150, 300) pane 0 is passed over and pane 1, PIXEL, decides;
at (237, 35) panes 0 and 1 are passed over and pane 2, TEXT, decides. -/
theorem witness_WalkComposesThePixel :
    (work.layout.current = [0, 1, 2, 7, 4] ∧
        [0, 1, 2, 7, 4].all (fun n => (work.pane? n).all fun p => decide (p.window.left + p.window.width ≤ 750)
          || decide (300 < p.window.top)) = true) ∧
      (scrolled.layout.current = [0] ++ 1 :: [2] ∧ (scrolled.pane? 0).all (fun p => decide (300 < p.window.top)) = true ∧
        (scrolled.pane? 1).any (fun p => p.visible && decide (p.window.left ≤ 150) &&
          decide (150 < p.window.left + p.window.width) && decide (p.window.top ≤ 300) &&
          decide (300 < p.window.top + p.window.height) && p.kind == .pixel && p.transparent == none) = true) ∧
      (scrolled.layout.current = [0, 1] ++ 2 :: [] ∧
        [0, 1].all (fun n => (scrolled.pane? n).all fun p => decide (35 < p.window.top)) = true ∧
        (scrolled.pane? 2).any (fun p => p.visible && decide (p.window.left ≤ 237) &&
          decide (237 < p.window.left + p.window.width) && decide (p.window.top ≤ 35) &&
          decide (35 < p.window.top + p.window.height) && p.kind == .text) = true) := by decide +kernel

/-- FOCUS refused, not eligible (pane 7 does not accept keys), deferred during the alert, and set. -/
theorem witness_FocusIsCheckedThenSet :
    (work.router.hold = true ↔ work.alerts.stack ≠ []) ∧ (alarm.router.hold = true ↔ alarm.alerts.stack ≠ []) ∧
      (paneRefusal .tablet 2 work = some .notOwner) ∧
      (Owned .tablet 7 textPane (asked .tablet (.focus 7) work) ∧ textPane.acceptsKeys = false ∧
        Turn .tablet (.focus 7) (asked .tablet (.focus 7) work)) ∧
      (Owned .vehicle 2 vehiclePane (asked .vehicle (.focus 2) alarm) ∧ vehiclePane.phase = .live ∧
        vehiclePane.visible = true ∧ vehiclePane.acceptsKeys = true ∧ alarm.vehicle.present = true ∧
        Turn .vehicle (.focus 2) (asked .vehicle (.focus 2) alarm)) ∧
      (Owned .vehicle 2 vehiclePane (asked .vehicle (.focus 2) work) ∧ work.router.hold = false ∧
        Turn .vehicle (.focus 2) (asked .vehicle (.focus 2) work)) := by
  simp only [Turn, Owned]; decide +kernel

/-- The work state with the tablet's key queue and gate replaced. -/
def queued (n : Nat) (gate : Gate) : State := { work with router := { work.router with
  tablet := { work.router.tablet with queue := List.replicate n ⟨50, .repeated, 100⟩, gate := gate } } }

/-- KEY ACK with the gate OPEN, and WAITING. -/
theorem witness_KeyAckOpensTheGate :
    (Turn .tablet .keyAck (asked .tablet .keyAck work) ∧ (channel .tablet work).gate = .opened) ∧
      (Turn .tablet .keyAck (asked .tablet .keyAck (queued 23 .waiting)) ∧
        (channel .tablet (queued 23 .waiting)).gate = .waiting) := by
  simp only [Turn]; decide +kernel

/-- REPEAT SET with enabled 2 and 0; the expiry with no repeat key, and with 15 and 16 events queued. -/
theorem witness_TypematicFollowsItsSettings :
    (Turn .tablet (.repeatSet 2 0 0) (asked .tablet (.repeatSet 2 0 0) work) ∧ 1 < 2) ∧
      (Turn .tablet (.repeatSet 0 200 33) (asked .tablet (.repeatSet 0 200 33) work) ∧ 0 ≤ 1) ∧
      (parkedState.scanOut.running = true ∧ parkedState.router.repeatKey = none) ∧
      ((queued 16 .waiting).router.repeatKey = some ⟨5, .tablet, 1400⟩ ∧
        16 ≤ (channel .tablet (queued 16 .waiting)).queue.length) ∧
      ((queued 15 .waiting).router.repeatKey = some ⟨5, .tablet, 1400⟩ ∧
        (channel .tablet (queued 15 .waiting)).queue.length < 16) ∧
      ((queued 15 .waiting).now < 1400 ∧ 1400 ≤ ({ queued 15 .waiting with now := 1400 } : State).now) := by
  simp only [Turn]; decide +kernel

/-- Ten entries; code 124; a focus of NONE, a queue of 22, and one of 21. -/
theorem witness_PressesAreRouted :
    10 ≤ (List.replicate 10 (⟨5, none, 0⟩ : HeldKey)).length ∧ 124 ≤ 124 ∧
      (work.router.held.length < 10 ∧ 119 < 120) ∧ ownerAt parkedState.router.focus parkedState = some (masterOwner .tablet) ∧
      ownerAt fresh.router.focus fresh ≠ some (masterOwner .tablet) ∧
      ownerAt fresh.router.focus fresh ≠ some (masterOwner .vehicle) ∧
      (ownerAt (queued 22 .waiting).router.focus (queued 22 .waiting) = some (masterOwner .tablet) ∧
        22 ≤ (channel .tablet (queued 22 .waiting)).queue.length) ∧
      (ownerAt (queued 21 .waiting).router.focus (queued 21 .waiting) = some (masterOwner .tablet) ∧
        (channel .tablet (queued 21 .waiting)).queue.length < 22) := by decide +kernel

/-- FOCUS_NEXT in a hold, from NONE, and along the ring (1, 2); k at both ends; UPs with no entry, an entry for LOCAL,
and one for the tablet. -/
theorem witness_LocalKeysActAndReleasesFollow :
    (alarm.router.held.length < 10 ∧ alarm.router.hold = true) ∧
      (fresh.router.hold = false ∧ fresh.router.focus = none) ∧
      (work.router.hold = false ∧ work.router.focus = some 1 ∧ work.ring = [] ++ 1 :: [2] ∧ 1 ∉ ([] : List Nat)) ∧
      (-6 ≤ work.light.offset ∧ work.light.offset ≤ 6) ∧ (∀ e ∈ work.router.held, e.code ≠ 6) ∧
      (work.router.held = [] ++ ⟨5, some .tablet, 900⟩ :: [] ∧
        (⟨5, some .tablet, 900⟩ : HeldKey).target = some (masterOwner .tablet)) ∧
      (keyHeld 120 (some .part) fresh).router.held = [] ++ ⟨120, some .part, 1000⟩ :: [] ∧
      some Owner.part ≠ some (masterOwner .tablet) := by decide +kernel

/-- A scan in SCANNING with six positions that read other than their state, and with five. -/
theorem witness_ScanMovesEveryPosition :
    work.scanOut.running = true ∧ work.scanner.mode = .scanning ∧ work.scanner.positions.length = 128 ∧
      6 ≤ ((List.range 128).countP fun c => readsOther ((BitVec.ofNat 128 0x3F).getLsbD c) (positionOf work c)) ∧
      ((List.range 128).countP fun c => readsOther ((BitVec.ofNat 128 0x1F).getLsbD c) (positionOf work c)) < 6 := by
  decide +kernel

/-- Wake samples with the latch set, with no active line, before and after quiet was seen; a capture scan. -/
theorem witness_WakeKeysAreCaptured :
    (parkedState.scanOut.running = true ∧ parkedState.scanner.mode = .wakeDetect ∧
        parkedState.scanner.wakeLatch = false ∧ parkedState.scanner.quietSeen = true) ∧
      (let s : State := { parkedState with scanner := { parkedState.scanner with wakeLatch := true } };
      s.scanner.mode = .wakeDetect ∧ s.scanner.wakeLatch = true) ∧
      (let s : State := { parkedState with scanner := { parkedState.scanner with quietSeen := false } };
      s.scanner.mode = .wakeDetect ∧ s.scanner.wakeLatch = false ∧ s.scanner.quietSeen = false) ∧
      (let s : State := { parkedState with scanner := { parkedState.scanner with mode := .capture } };
      s.scanOut.running = true ∧ s.scanner.mode = .capture ∧ s.scanner.positions.length = 128) ∧
      (after .fullReset work).scanOut.running = false ∧ (work.scanOut.running = true ∧ work.scanner.mode ≠ .wakeDetect) ∧
      (7 < 8 ∧ 15 < 16) := by decide +kernel

/-- A NORMAL and an ALERT pane live, the stack empty and not; a press on an empty stack, on one pane, on two. -/
theorem witness_AlertsHoldAndGiveBackTheFocus :
    (work.pane? 1 = some tabletPane ∧ tabletPane.cls = .normal) ∧
      (work.pane? 6 = some alertPane ∧ alertPane.cls = .alert ∧ work.alerts.stack = []) ∧
      (alarm.pane? 6 = some { alertPane with phase := .live } ∧ alarm.alerts.stack ≠ []) ∧
      alarm.alerts.stack = 6 :: [] ∧
      ({ alarm with alerts := { alarm.alerts with stack := [4, 6] } } : State).alerts.stack = 4 :: [6] := by
  decide +kernel

/-- A scan that may start, and one that completes, with the AMBIENT record absent and present. -/
theorem witness_CompletionUpdatesLightAndSupply :
    (work.scanOut.running = true ∧ work.light.converting = false ∧ work.light.parked = false ∧
        work.light.scanStart + 10 ≤ work.now) ∧
      (parkedState.light.converting = false ∧ parkedState.light.parked = true ∧
        parkedState.light.scanStart + 1000 ≤ parkedState.now) ∧
      (let s : State := { parkedState with now := 999 }; s.now < s.light.scanStart + 1000) ∧
      (State.reset.scanOut.running = true ∧ State.reset.light.converting = true ∧ State.reset.light.ambient = none) := by
  decide +kernel

/-- DARK CAB with 2 and 1, SCAN SET at both ends, PARK DELAY at 600 and above, each in its turn. -/
theorem witness_VehicleSettingsAreClamped :
    (Turn .vehicle (.darkCab 2) (asked .vehicle (.darkCab 2) work) ∧ 1 < 2) ∧
      (Turn .vehicle (.darkCab 1) (asked .vehicle (.darkCab 1) work) ∧ 1 ≤ 1) ∧
      Turn .vehicle (.scanSet 2 40) (asked .vehicle (.scanSet 2 40) work) ∧
      Turn .vehicle (.parkDelay 601) (asked .vehicle (.parkDelay 601) work) ∧
      Turn .tablet .wake (asked .tablet .wake work) := by
  simp only [Turn]; decide +kernel

/-- PARK_PENDING with its countdown at 0 and before, and RUN. -/
theorem witness_CountdownExpiryEntersPark :
    (let s : State := { State.reset with park := { State.reset.park with countdown := some 0 } };
      s.scanOut.running = true ∧ s.park.state = .parkPending ∧ s.park.countdown = some 0) ∧
      State.reset.park.countdown ≠ some 0 ∧ work.park.state ≠ .parkPending := by decide +kernel

/-- WAKE in each park state; the ignition on and off in each, with a park delay of 0 and of 1. -/
theorem witness_WakeAndIgnitionMoveThePark :
    (Turn .vehicle .wake (asked .vehicle .wake work) ∧ work.park.state = .run) ∧
      (Turn .vehicle .wake (asked .vehicle .wake State.reset) ∧ State.reset.park.state = .parkPending) ∧
      (Turn .vehicle .wake (asked .vehicle .wake parkedState) ∧ parkedState.park.state = .parked) ∧
      work.ignitionOn = true ∧ parkedState.park.state ≠ .run ∧ 1 ≤ work.park.delay ∧
      ({ work with park := { work.park with delay := 0 } } : State).park.delay = 0 := by
  simp only [Turn]; decide +kernel

/-- Each query in its turn, at pages 2 and 3 and inputs 4 and 5. -/
theorem witness_QueriesGiveTheState :
    Turn .tablet (.queryLight none) (asked .tablet (.queryLight none) work) ∧
      Turn .vehicle (.queryLight (some 2)) (asked .vehicle (.queryLight (some 2)) work) ∧
      Turn .vehicle (.queryLight (some 3)) (asked .vehicle (.queryLight (some 3)) work) ∧
      Turn .tablet (.queryInputs none) (asked .tablet (.queryInputs none) work) ∧
      (Turn .vehicle (.queryInputs (some 4)) (asked .vehicle (.queryInputs (some 4)) work) ∧
        work.inputs[4]?.isSome = true) ∧
      (Turn .vehicle (.queryInputs (some 5)) (asked .vehicle (.queryInputs (some 5)) work) ∧ work.inputs[5]? = none) ∧
      (Turn .tablet .queryLines (asked .tablet .queryLines work) ∧ work.lines.lines.length = 8) := by
  simp only [Turn]; decide +kernel

/-- Input 5, codes out of range, INPUT ACK of input 4, INPUT MODE to EDGE BOTH and to LEVEL HIGH over an active level. -/
theorem witness_InputAckAndModeActOnFlags :
    (work.inputs[5]? = none ∧ Turn .tablet (.inputAck 5) (asked .tablet (.inputAck 5) work)) ∧
      (Turn .tablet (.inputMode 4 2 0 0) (asked .tablet (.inputMode 4 2 0 0) work) ∧ 1 < 2) ∧
      (Turn .tablet (.inputMode 4 1 2 0) (asked .tablet (.inputMode 4 1 2 0) work) ∧ 1 < 2) ∧
      (work.inputs[4]? = some (DiscreteInput.afterReset 4 false) ∧
        Turn .vehicle (.inputAck 4) (asked .vehicle (.inputAck 4) work)) ∧
      (Turn .tablet (.inputMode 4 0 2 255) (asked .tablet (.inputMode 4 0 2 255) work) ∧ 0 ≤ 1 ∧ 2 ≤ 2) ∧
      (work.inputs[0]? = some (DiscreteInput.afterReset 0 true) ∧
        Turn .tablet (.inputMode 0 1 1 0) (asked .tablet (.inputMode 0 1 1 0) work)) := by
  simp only [Turn]; decide +kernel

/-- Five inputs, one of them a sample before its edge. -/
theorem witness_SampleQualifiesTheInputs :
    nearEdge.scanOut.running = true ∧
      nearEdge.inputs =
        [DiscreteInput.afterReset 0 true, DiscreteInput.afterReset 1 true, DiscreteInput.afterReset 2 false,
          ⟨false, 9, true, 10, 4012, .level true, false, false, false, false⟩, DiscreteInput.afterReset 4 false] := by
  decide +kernel

/-- LINE SET with line 8, of another's line, of one's own; the LINK LED while its timer runs. -/
theorem witness_LinesFollowTheirOwners :
    (7 < 8 ∧ Turn .tablet (.lineSet 8 0 0) (asked .tablet (.lineSet 8 0 0) work)) ∧
      (3 ≤ 7 ∧ 3 ∉ [0, 1, 2, 7] ∧ Turn .tablet (.lineSet 3 1 1) (asked .tablet (.lineSet 3 1 1) work)) ∧
      (6 ∈ [5, 6] ∧ Turn .vehicle (.lineSet 6 1 1) (asked .vehicle (.lineSet 6 1 1) work)) ∧
      (let s : State := { work with lines := LineBlock.afterReset .attaching };
      s.scanOut.running = true ∧ s.lines.lines[4]? = some ⟨true, true⟩ ∧ Due s.lines.ledTimer s) ∧
      (work.lines.lines.length = 8 ∧ ¬Due work.lines.ledTimer work) ∧ ¬Due (LineBlock.afterReset .attaching).ledTimer State.reset := by
  refine ⟨?_, ?_, ?_, ⟨rfl, rfl, 250, rfl, ?_⟩, ⟨rfl, ?_⟩, ?_⟩
  all_goals first
    | decide +kernel
    | (simp only [Turn]; decide +kernel)
    | (rintro ⟨e, he, hd⟩; obtain rfl := Option.some.inj he; exact absurd hd (by decide +kernel))
    | (rintro ⟨e, he, -⟩; cases he)

/-- Each link state; a valid KEEPALIVE, WRITE DATA, request, undefined kind and misfit; a refused request in its turn. -/
theorem witness_PacketsAreCheckedAndQueued :
    State.reset.dock.link = .absent ∧ attachingState.dock.link = .attaching ∧
      (holdingLow.dock.link = .hold ∧ holdingLow.bayHigh = false) ∧
      (holding.dock.link = .hold ∧ holding.bayHigh = true) ∧ work.dock.link = .up ∧
      tabletKind 0x03 = false ∧ tabletKind 0x21 = true ∧ readPayload 0x21 [0] = none ∧
      readPayload 0x02 [] = some .keepalive ∧ readPayload 0x31 [0, 0, 0, 0] = some (.writeData 0 []) ∧
      readPayload 0x21 [] = some (.request .keyAck) ∧ openPacket (packet 0x21 []) = some (0x21, 0, []) ∧
      ([] : List Byte).length < 6 ∧
      Turn .vehicle (.refused 0x10 .badValue) (asked .vehicle (.refused 0x10 .badValue) work) ∧
      ((crc16 [0x01, 0x00, 0x02, 0x00, 0x2C, 0x01]).toNat < 65536 ∧ 2 + 256 * 0 = ([0x2C, 0x01] : List Byte).length)  := by
  simp only [Turn]; decide +kernel

/-- The ends of the tables of kinds, codes and lengths. -/
theorem witness_TablesOfChapter11 :
    (KindDefined 0x54 ∧ ¬KindDefined 0x55 ∧ LengthFits 0x10 18 ∧ ¬LengthFits 0x10 17 ∧ LengthFits 0x02 0 ∧
        LengthFits 0x33 516 ∧ ¬LengthFits 0x33 518) ∧
      (CodeDefined 0x10 ∧ OperandsFit 0x10 7 ∧ ¬OperandsFit 0x10 16 ∧ ¬CodeDefined 0x30 ∧ OperandsFit 0x43 3) := by
  refine ⟨⟨?_, ?_, ?_, ?_, ?_, ?_, ?_⟩, ?_, ?_, ?_, ?_, ?_⟩ <;> simp [KindDefined, CodeDefined, LengthFits, OperandsFit]
  · exact ⟨256, by decide⟩
  · omega

/-- HELLO in each link state. -/
theorem witness_HelloStartsTheLink :
    (attachingState.inputs.length = 5 ∧ attachingState.layout.panes.length = 8 ∧
        attachingState.scanOut.running = true ∧ attachingState.dock.link = .attaching ∧
        attachingState.dock.outbound = []) ∧
      (holding.inputs.length = 5 ∧ holding.layout.panes.length = 8 ∧ holding.dock.link = .hold ∧
        holding.bayHigh = true) ∧
      (Turn .tablet (.hello 300) (asked .tablet (.hello 300) work) ∧ work.dock.link = .up) ∧
      (holdingLow.dock.link = .hold ∧ holdingLow.bayHigh = false ∧ ¬Turn .tablet (.hello 300) holdingLow ∧
        Turn .tablet (.hello 300) (asked .tablet (.hello 300) holdingLow)) ∧
      State.reset.dock.link = .absent := by
  simp only [Turn]; decide +kernel

/-- No tablet pane that is LIVE is an alert, in the work state; and a state kept as the memory's and the allocation's
invariants say. -/
theorem witness_DepartedTo :
    (∀ n, closedBy work n = true → n ∉ work.alerts.stack ∧ n ∉ work.alerts.unreported) ∧ MemoryKept busy ∧
      AllocationKept busy :=
  ⟨fun _ _ => ⟨List.not_mem_nil, List.not_mem_nil⟩, busy_memory, busy_allocation⟩

/-- The timers in UP and in HOLD, a packet to be sent, and each link state at a BAY edge. -/
theorem witness_DockTimersMoveTheLink :
    (let s : State := { work with now := 1020 };
      s.scanOut.running = true ∧ s.dock.link = .up ∧ Due s.dock.silence s ∧ Due s.dock.send s) ∧
      (twoFills.dock.link = .hold ∧ Due twoFills.dock.graceTimer twoFills ∧ twoFills.layout.panes.length = 8) ∧
      (¬Due work.dock.silence work ∧ ¬Due work.dock.send work ∧ ¬Due holding.dock.graceTimer holding) ∧
      (after .sendTimerExpiry { work with now := 1005 }).dock.outbound = .keepalive :: [] ∧
      State.reset.dock.link = .absent ∧ attachingState.dock.link = .attaching := by
  refine ⟨⟨rfl, rfl, ⟨1020, rfl, ?_⟩, 1005, rfl, ?_⟩, ⟨rfl, ⟨1300, rfl, ?_⟩, rfl⟩, ⟨?_, ?_, ?_⟩, ?_, rfl, rfl⟩
  all_goals first
    | decide +kernel
    | (rintro ⟨e, he, hd⟩; obtain rfl := Option.some.inj he; exact absurd hd (by decide +kernel))

/-- A frame of each identifier, a remote one and a foreign one; the silence expiry; a frame to be sent. -/
theorem witness_VehicleFramesAndPresence :
    (work.scanOut.running = true ∧ work.vehicle.base = 0x640 ∧ work.vehicle.present = true ∧
        work.vehicle.silence = some 2000 ∧ work.now < 2000 ∧ 2000 ≤ ({ work with now := 2000 } : State).now) ∧
      ((⟨0x640, true, []⟩ : CanFrame).remote = true ∧ (0x646 ≠ 0x640 ∧ 0x646 ≠ 0x640 + 4 ∧ 0x646 ≠ 0x640 + 5)) ∧
      State.reset.vehicle.present = false ∧
      ({ work with vehicle := { work.vehicle with outbound := [.keyReport []] } } : State).vehicle.outbound
        = .keyReport [] :: [] := by
  decide +kernel

/-- RESTART from the tablet, with the sets 0 and 8, and each unit in its turn. -/
theorem witness_RestartTakesUnitsInOrder :
    Turn .tablet (.restart 1) (asked .tablet (.restart 1) work) ∧
      Turn .vehicle (.restart 0) (asked .vehicle (.restart 0) work) ∧
      Turn .vehicle (.restart 8) (asked .vehicle (.restart 8) work) ∧
      (Turn .vehicle (.restart 7) (asked .vehicle (.restart 7) work) ∧ work.vehicle.restartDone = 0 ∧ 7 % 2 = 1 ∧
        work.layout.panes.length = 8 ∧ work.dock.link = .up) ∧
      State.reset.dock.link = .absent ∧ (work.vehicle.restartDone = 6 % 2 ∧ 6 / 2 % 2 = 1) ∧
      (work.vehicle.restartDone = 4 % 4 ∧ 4 / 4 = 1) := by
  simp only [Turn]; decide +kernel

/-- A claim of the tablet with the largest operands, a MOVE of the vehicle unit, and a text data frame. -/
theorem witness_RequestsAreReadBack :
    ((Request.claim ⟨255, 255, true, true, true, true, 255, ⟨65535, 65535, 65535, 65535⟩, 65535, 65535,
          some 65535⟩).fits .tablet = true ∧
        (tabletPayload (.claim ⟨255, 255, true, true, true, true, 255, ⟨65535, 65535, 65535, 65535⟩, 65535, 65535,
          some 65535⟩)).isSome = true) ∧
      ((Request.move 255 ⟨255, 255, 255, 255⟩).fits .vehicle = true ∧
        (vehicleData (.move 255 ⟨255, 255, 255, 255⟩)).isSome = true) ∧
      (Request.textData 15 1 255 255 255 [0, 0, 0, 255]).fits .vehicle = true ∧
      (800 < 1024 ∧ 480 < 512) := by decide +kernel

/-! The statements about every step: the busy state meets each invariant, and its step answers a next state. -/

/-- Every step; and with no command waiting: no client with an access waiting, and each client in its turn, the last of the
cycles with the others passed over. -/
theorem witness_StepsKeepTheMemoryForm :
    (MemoryKept busy ∧ ∃ t, step busy = .next t) ∧
      (State.reset.pending = [] ∧ State.reset.scanOut.running = true ∧ MemoryKept State.reset ∧ ∀ w, ¬HasWork w State.reset) ∧
      (contended.pending = [] ∧ contended.scanOut.running = true ∧ MemoryKept contended) ∧
      Granted .fill contended ∧
      Granted .drain { contended with mem := { contended.mem with turn := .drain } } ∧
      Granted (.text .tablet) { contended with mem := { contended.mem with turn := .text } } ∧
      Granted (.text .vehicle) { contended with mem := { contended.mem with turn := .text, textTurn := .vehicle } } ∧
      (let s : State := { State.reset with mem := { State.reset.mem with rowWrites := [⟨99, [⟨0x41, 0x0F⟩]⟩] } };
      Granted (.text .statusRow) s ∧ s.pending = [] ∧ s.scanOut.running = true ∧ MemoryKept s ∧
        ∃ t, step s = .next t) ∧
      ∃ u v, exec (completionOf .fill) contended = .next u ∧ exec (completionOf .fill) (stepped contended) = .next v := by
  have none_left : ∀ w, ¬HasWork w State.reset := by
    intro w
    cases w with
    | fill => exact fun ⟨_, _, _, h, _⟩ => nomatch h
    | drain => exact fun ⟨name, _, _, _, _, _, h, _⟩ => by revert h; cases name <;> decide
    | text source =>
      cases source
      · exact fun ⟨_, _, h, _⟩ => nomatch h
      · exact fun ⟨_, _, h, _⟩ => nomatch h
      · exact fun ⟨_, _, h, _⟩ => nomatch h
  refine ⟨⟨busy_memory, witness_every_step⟩, ⟨by decide, by decide, by simp only [MemoryKept]; decide +kernel, none_left⟩,
    ⟨by decide, by decide, by simp only [MemoryKept]; decide +kernel⟩, ?_, ?_, ?_, ?_, ?_, ⟨_, _, rfl, rfl⟩⟩
  · exact ⟨⟨_, _, fillingPane, rfl, by decide, by decide, by decide, by decide, by decide⟩, [], _, rfl, by simp⟩
  · exact ⟨⟨.a, 0, _, _, { tabletPane with sizeX := 100, sizeY := 50, buffers := 1, run := ⟨300, 3⟩ }, 0, by decide, rfl, rfl,
      rfl, ⟨.inr rfl, by decide, by decide⟩, by decide, by decide, by decide, by decide⟩, [], _, rfl, by simp⟩
  · exact ⟨⟨_, textPane, rfl, rfl, ⟨.inr rfl, by decide, by decide⟩, by decide⟩, [], _, rfl, by simp⟩
  · exact ⟨⟨_, vehiclePane, rfl, rfl, ⟨.inr rfl, by decide, by decide⟩, by decide⟩, [], _, rfl, by simp⟩
  · refine ⟨⟨⟨_, _, rfl, by decide, by decide⟩, [.fill, .drain, .text .tablet, .text .vehicle], [], rfl, ?_⟩, rfl, rfl, ?_,
      ⟨_, rfl⟩⟩
    · intro x hx
      simp only [List.mem_cons, List.not_mem_nil, or_false] at hx
      rcases hx with rfl | rfl | rfl | rfl
      · exact fun ⟨_, _, _, h, _⟩ => nomatch h
      · exact fun ⟨name, _, _, _, _, _, h, _⟩ => by revert h; cases name <;> decide
      · exact fun ⟨_, _, h, _⟩ => nomatch h
      · exact fun ⟨_, _, h, _⟩ => nomatch h
    · simp only [MemoryKept]; decide +kernel
theorem witness_StepsKeepTheAllocation : AllocationKept busy ∧ ∃ t, step busy = .next t := ⟨busy_allocation, witness_every_step⟩
theorem witness_StepsKeepTheKeyBounds : KeysKept busy ∧ HeldKept busy ∧ ∃ t, step busy = .next t :=
  ⟨busy_keys, busy_held, witness_every_step⟩
theorem witness_StepsKeepTheHold : HoldKept busy ∧ OrdersKept busy ∧ FocusKept busy ∧ ∃ t, step busy = .next t :=
  ⟨busy_hold, busy_orders, busy_focus, witness_every_step⟩
theorem witness_StepsKeepTheDutyRange : DutyKept busy ∧ ∃ t, step busy = .next t := ⟨busy_duty, witness_every_step⟩

/-- Every buffer of a state holds 1 to 1,020 bytes if each of the two does. -/
theorem buffersKept_of {s : State} (a : s.dock.bufferA.content.all fun c => 1 ≤ c.2.length && c.2.length ≤ 1020)
    (b : s.dock.bufferB.content.all fun c => 1 ≤ c.2.length && c.2.length ≤ 1020) : BuffersKept s := by
  intro name start bytes h
  cases name
  · simpa [show s.dock.bufferA.content = some (start, bytes) from h] using a
  · simpa [show s.dock.bufferB.content = some (start, bytes) from h] using b

/-- A packet of 1,020 bytes that enters buffer B, and a grant that writes the one byte which buffer A still holds. -/
theorem witness_StepsKeepTheQueueBounds :
    (QueuesKept busy ∧ StreamKept busy ∧ ∃ t, step busy = .next t) ∧
      (let s : State := { clipped with pending := [.writeData 17 (List.replicate 1020 0)] };
      BuffersKept s ∧ (List.replicate 1020 (0 : Byte)).length ≤ 1020 ∧ ∃ t, step s = .next t) ∧
      (let s : State := { clipped with
        dock := { clipped.dock with bufferA := .draining 16 [17] }, mem := { clipped.mem with turn := .drain } };
      BuffersKept s ∧ s.pending = [] ∧ ∃ t, step s = .next t) := by
  refine ⟨⟨busy_queues, busy_stream, witness_every_step⟩, ⟨buffersKept_of ?_ ?_, ?_, ⟨_, rfl⟩⟩,
    ⟨buffersKept_of ?_ ?_, ?_, ⟨_, rfl⟩⟩⟩ <;> decide +kernel
theorem witness_StepsKeepTheLayout : OrdersKept busy ∧ QuotaKept busy ∧ ∃ t, step busy = .next t :=
  ⟨busy_orders, busy_quota, witness_every_step⟩

end Sys2Proof.Tests
end

/-! ## Requests in their turn: the checks, the replies, and staging (chapter 1) -/

namespace Sys2Proof.Proofs

open Sys2Proof.Machine Sys2Proof.Safety

/-! ### What each pane request runs -/

theorem exec_claim (m : Master) (ops : ClaimOps) (s : State) :
    exec (.claim m ops) s = taking m (.claim ops) (doClaim m ops) s := rfl
theorem exec_release (m : Master) (n : Nat) (s : State) :
    exec (.release m n) s = taking m (.release n) (doRelease m n) s := rfl
theorem exec_move (m : Master) (n : Nat) (w : Window) (s : State) :
    exec (.move m n w) s = taking m (.move n w) (doMove m n w) s := rfl
theorem exec_scroll (m : Master) (n x y : Nat) (s : State) :
    exec (.scroll m n x y) s = taking m (.scroll n x y) (doScroll m n x y) s := rfl
theorem exec_raise (m : Master) (n : Nat) (s : State) :
    exec (.raise m n) s =
      taking m (.raise n) (doReorder m (.raise n) n fun o => insertNormal n (without n o)) s := rfl
theorem exec_lower (m : Master) (n : Nat) (s : State) :
    exec (.lower m n) s = taking m (.lower n) (doReorder m (.lower n) n fun o => without n o ++ [n]) s := rfl
theorem exec_showPane (m : Master) (n : Nat) (s : State) :
    exec (.showPane m n) s = taking m (.showPane n) (doVisible m (.showPane n) n true) s := rfl
theorem exec_hidePane (m : Master) (n : Nat) (s : State) :
    exec (.hidePane m n) s = taking m (.hidePane n) (doVisible m (.hidePane n) n false) s := rfl
theorem exec_flip (m : Master) (n : Nat) (s : State) :
    exec (.flip m n) s = taking m (.flip n) (doFlip m n) s := rfl
theorem exec_focus (m : Master) (n : Nat) (s : State) :
    exec (.focus m n) s = taking m (.focus n) (doFocus m n) s := rfl
theorem exec_writeBegin (n b : Nat) (rect : Rect) (s : State) :
    exec (.writeBegin n b rect) s = taking .tablet (.writeBegin n b rect) (doWriteBegin n b rect) s := rfl
theorem exec_fillRect (n b : Nat) (rect : Rect) (colour : Nat) (s : State) :
    exec (.fillRect n b rect colour) s =
      taking .tablet (.fillRect n b rect colour) (doFillRect n b rect colour) s := rfl
theorem exec_textPut (n b row column : Nat) (cells : List TextCell) (s : State) :
    exec (.textPut n b row column cells) s =
      taking .tablet (.textPut n b row column cells) (doTextPut n b row column cells) s := rfl
theorem exec_textDataFrame (n b row column : Nat) (attr : Byte) (codes : List Byte) (s : State) :
    exec (.textDataFrame n b row column attr codes) s =
      taking .vehicle (.textData n b row column attr codes) (doTextData n b row column attr codes) s := rfl
theorem exec_textClear (m : Master) (n b : Nat) (s : State) :
    exec (.textClear m n b) s = taking m (.textClear n b) (doTextClear m n b) s := rfl

/-! ### The state in which a request has left its queue -/

@[simp] theorem taken_layout (m : Master) (s : State) : (taken m s).layout = s.layout := by cases m <;> rfl
@[simp] theorem taken_alloc (m : Master) (s : State) : (taken m s).alloc = s.alloc := by cases m <;> rfl
@[simp] theorem taken_pane? (m : Master) (s : State) (n : Nat) : (taken m s).pane? n = s.pane? n := by cases m <;> rfl
@[simp] theorem taken_paneCheck (m k : Master) (s : State) (n : Nat) :
    (taken m s).paneCheck k n = s.paneCheck k n := by cases m <;> rfl
@[simp] theorem taken_visibilityCheck (m k : Master) (s : State) (n : Nat) :
    (taken m s).visibilityCheck k n = s.visibilityCheck k n := by cases m <;> rfl
@[simp] theorem taken_claimCheck (m k : Master) (s : State) (ops : ClaimOps) :
    (taken m s).claimCheck k ops = s.claimCheck k ops := by cases m <;> rfl

/-- A reply after the request has left its queue is the answer. -/
theorem reply_taken (m : Master) (r : Request) (result : Result) (values : List Byte) (s : State) :
    reply m r result values (taken m s) = answered m (requestCode r) result values s := reply_eq_handed _ _ _ _ _

theorem taken_stage (m : Master) (n : Nat) (p : Pane) (part : PendingPart) (s : State) :
    stage n p part (taken m s) = taken m (staged n p part s) := by cases m <;> rfl

theorem taken_setNextOrder (m : Master) (order : List Nat) (s : State) :
    (taken m s).setNextOrder order = taken m { s with layout := { s.layout with nextOrder := order } } := by
  cases m <;> rfl

/-- A command that takes a request is refused when its body does no more than reply so. -/
theorem refusedWith_of_taking {c : Instr} {m : Master} {r : Request} {body : State → State} {code : Nat}
    {result : Result} {s : State} (hc : c.request? = some (m, r)) (he : exec c s = taking m r body s)
    (hb : body (taken m s) = reply m r result [] (taken m s)) (hcode : requestCode r = code) :
    RefusedWith c code result s := by
  intro k q hkq turn
  obtain ⟨rfl, rfl⟩ : m = k ∧ r = q := by simpa [hc] using hkq
  rw [he, taking_of_turn turn, hb, reply_taken, hcode]

/-! ### The pane check (R5, R6) -/

/-- The model's pane check fails as `paneRefusal` says. -/
theorem paneCheck_error_of_refusal {m : Master} {n : Nat} {s : State} {result : Result}
    (h : paneRefusal m n s = some result) : s.paneCheck m n = .error result := by
  unfold paneRefusal at h
  unfold State.paneCheck
  cases hp : s.pane? n with
  | none => simp_all
  | some p =>
    simp only [hp] at h ⊢
    split at h
    · simp_all
    · split at h
      · simp_all
      · split at h <;> simp_all

/-- A pane that the master may change passes the pane check. -/
theorem paneCheck_ok_of_owned {m : Master} {n : Nat} {p : Pane} {s : State} (h : Owned m n p s) :
    s.paneCheck m n = .ok p := by
  obtain ⟨hp, hn, hphase, howner⟩ := h
  simp [State.paneCheck, hp, hn, hphase, howner]

/-- What passes the pane check is a pane that the master may change. -/
theorem owned_of_paneCheck_ok {m : Master} {n : Nat} {p : Pane} {s : State} (h : s.paneCheck m n = .ok p) :
    Owned m n p s := by
  unfold State.paneCheck at h
  cases hp : s.pane? n with
  | none => simp [hp] at h
  | some q =>
    simp only [hp] at h
    split at h
    · cases h
    · split at h
      · cases h
      · split at h
        · cases h
        · rename_i hn hphase howner
          cases h
          exact ⟨hp, hn, hphase, not_not.1 howner⟩

/-- Apart from pane 0, SHOW and HIDE make the pane check. -/
theorem visibilityCheck_eq_paneCheck {m : Master} {n : Nat} {s : State} (h : n ≠ 0 ∨ s.pane? n = none) :
    s.visibilityCheck m n = s.paneCheck m n := by
  unfold State.visibilityCheck
  cases hp : s.pane? n with
  | none => simp [State.paneCheck, hp]
  | some p =>
    have hn : n ≠ 0 := by simpa [hp] using h
    simp [hn]

/-- Settles O10: each request's body replies what the pane check answers, and the check is `paneRefusal`. -/
theorem paneCheckRefuses : Obligations.PaneCheckRefuses := by
  intro m n s result hlen
  refine ⟨fun hn => ?_, fun href => ?_, ?_⟩
  · have : s.pane? n = none := by simp [State.pane?, show s.layout.panes[n]? = none by simp; omega]
    simp [paneRefusal, this]
  · have check := paneCheck_error_of_refusal href
    have write : ∀ k kind ok, k = m → (taken m s).writeCheck k n kind ok = .error result := by
      rintro k kind ok rfl
      simp [State.writeCheck, check]
    refine ⟨?_, fun w => ?_, fun x y => ?_, ?_, ?_, ?_, ?_, ?_, ?_, ?_, ?_, fun b => ?_, fun hn => ⟨?_, ?_⟩⟩
    · exact refusedWith_of_taking rfl (exec_release ..) (by simp [doRelease, check]) rfl
    · exact refusedWith_of_taking rfl (exec_move ..) (by simp [doMove, check]) rfl
    · exact refusedWith_of_taking rfl (exec_scroll ..) (by simp [doScroll, check]) rfl
    · exact refusedWith_of_taking rfl (exec_raise ..) (by simp [doReorder, check]) rfl
    · exact refusedWith_of_taking rfl (exec_lower ..) (by simp [doReorder, check]) rfl
    · exact refusedWith_of_taking rfl (exec_flip ..) (by simp [doFlip, check]) rfl
    · exact refusedWith_of_taking rfl (exec_focus ..) (by simp [doFocus, check]) rfl
    · rintro rfl b rect
      exact refusedWith_of_taking rfl (exec_writeBegin ..) (by simp [doWriteBegin, write]) rfl
    · rintro rfl b rect colour
      exact refusedWith_of_taking rfl (exec_fillRect ..) (by simp [doFillRect, write]) rfl
    · rintro rfl b row column cells
      exact refusedWith_of_taking rfl (exec_textPut ..) (by simp [doTextPut, write]) rfl
    · rintro rfl b row column attr codes
      exact refusedWith_of_taking rfl (exec_textDataFrame ..) (by simp [doTextData, write]) rfl
    · exact refusedWith_of_taking rfl (exec_textClear ..) (by simp [doTextClear, write]) rfl
    · exact refusedWith_of_taking rfl (exec_showPane ..)
        (by simp [doVisible, visibilityCheck_eq_paneCheck hn, check]) rfl
    · exact refusedWith_of_taking rfl (exec_hidePane ..)
        (by simp [doVisible, visibilityCheck_eq_paneCheck hn, check]) rfl
  · rintro rfl rfl hp
    obtain ⟨p, hp⟩ := Option.ne_none_iff_exists'.1 hp
    have check : s.visibilityCheck .tablet 0 = .error .notAllowed := by simp [State.visibilityCheck, hp]
    exact ⟨refusedWith_of_taking rfl (exec_showPane ..) (by simp [doVisible, check]) rfl,
      refusedWith_of_taking rfl (exec_hidePane ..) (by simp [doVisible, check]) rfl⟩

/-! ### Windows and scrolls (R10, R13, R14) -/

/-- Settles O14, field by field of the clamped window. -/
theorem clampedWindowLiesOnScreen : Obligations.ClampedWindowLiesOnScreen := by
  intro w
  refine ⟨by simp [clampWindow, screenWidth, screenHeight], ?_, ?_⟩ <;>
    simp only [clampWindow, screenWidth, screenHeight] <;> omega

/-- The port's conversion keeps a window empty or not. -/
theorem emptyWindow_pixelWindow (m : Master) (w : Window) :
    emptyWindow (pixelWindow m w) = true ↔ w.width = 0 ∨ w.height = 0 := by
  cases m <;> simp [emptyWindow, pixelWindow, cellWindow]

/-- Settles O15: each request's body on a pane that passes the check, branch by branch. -/
theorem moveAndScrollStageGeometry : Obligations.MoveAndScrollStageGeometry := by
  intro m n p s owned
  have check := paneCheck_ok_of_owned owned
  refine ⟨fun w turn => ?_, fun x y turn => ?_⟩
  · rw [exec_move, taking_of_turn turn]
    simp only [doMove, taken_paneCheck, check, emptyWindow_pixelWindow, taken_stage, reply_taken]
    split <;> rfl
  · rw [exec_scroll, taking_of_turn turn]
    simp only [doScroll, taken_paneCheck, check, taken_stage, reply_taken]
    cases hk : p.kind <;> simp [Pane.extentX, Pane.extentY, hk, requestCode, le16]

/-! ### Visibility and flips (R15, R16) -/

/-- The check of SHOW and HIDE passes for a pane of the master's, and for pane 0 from the vehicle unit. -/
theorem visibilityCheck_ok {m : Master} {n : Nat} {p : Pane} {s : State}
    (h : Owned m n p s ∨ (m = .vehicle ∧ n = 0 ∧ s.pane? 0 = some p)) : s.visibilityCheck m n = .ok p := by
  rcases h with owned | ⟨rfl, rfl, hp⟩
  · rw [visibilityCheck_eq_paneCheck (.inl owned.2.1), paneCheck_ok_of_owned owned]
  · simp [State.visibilityCheck, hp]

/-- Settles O16. -/
theorem showAndHideStageVisibility : Obligations.ShowAndHideStageVisibility := by
  intro m n p s passes
  have check := visibilityCheck_ok passes
  refine ⟨fun hcls => ⟨?_, ?_⟩, fun hcls => ⟨fun turn => ?_, fun turn => ?_⟩⟩
  · exact refusedWith_of_taking rfl (exec_showPane ..) (by simp [doVisible, check, hcls]) rfl
  · exact refusedWith_of_taking rfl (exec_hidePane ..) (by simp [doVisible, check, hcls]) rfl
  · rw [exec_showPane, taking_of_turn turn]
    simp [doVisible, check, hcls, taken_stage, reply_taken, requestCode]
  · rw [exec_hidePane, taking_of_turn turn]
    simp [doVisible, check, hcls, taken_stage, reply_taken, requestCode]

/-- Settles O17: the tests of R16 in their order. -/
theorem flipStagesOneFlip : Obligations.FlipStagesOneFlip := by
  intro m n p s turn owned
  rw [exec_flip, taking_of_turn turn]
  simp only [doFlip, taken_paneCheck, paneCheck_ok_of_owned owned, taken_stage, reply_taken, requestCode]

/-! ### The orders (R17, R18) -/

/-- The top of the NORMAL tier is right below pane 0. -/
theorem insertNormal_tiers (n : Nat) (alerts normals : List Nat) (h : 0 ∉ alerts) :
    insertNormal n (alerts ++ 0 :: normals) = alerts ++ 0 :: n :: normals := by
  induction alerts with
  | nil => rfl
  | cons k rest ih =>
    have hk : k ≠ 0 := by rintro rfl; simp at h
    simp [insertNormal, hk, ih (by simp at h; exact h.2)]

/-- Taking a pane that is neither pane 0 nor an alert out of an order leaves the tiers. -/
theorem without_tiers {n : Nat} {alerts normals : List Nat} (hn : n ≠ 0) (h : n ∉ alerts) :
    without n (alerts ++ 0 :: normals) = alerts ++ 0 :: normals.filter (· != n) := by
  have keep : alerts.filter (· != n) = alerts :=
    List.filter_eq_self.2 fun k hk => bne_iff_ne.2 fun e => h (e ▸ hk)
  simp [without, keep, hn.symm]

/-- Settles O18. -/
theorem raiseAndLowerMoveInTheTier : Obligations.RaiseAndLowerMoveInTheTier := by
  intro m n p s owned
  have check := paneCheck_ok_of_owned owned
  refine ⟨fun hcls => ⟨?_, ?_⟩, fun hcls hphase => ⟨?_, ?_⟩, fun hcls hphase alerts normals order h0 hn => ⟨?_, ?_⟩⟩
  · exact refusedWith_of_taking rfl (exec_raise ..) (by simp [doReorder, check, hcls]) rfl
  · exact refusedWith_of_taking rfl (exec_lower ..) (by simp [doReorder, check, hcls]) rfl
  · exact refusedWith_of_taking rfl (exec_raise ..) (by simp [doReorder, check, hcls, hphase]) rfl
  · exact refusedWith_of_taking rfl (exec_lower ..) (by simp [doReorder, check, hcls, hphase]) rfl
  all_goals
    intro turn
    have tiers := without_tiers (normals := normals) owned.2.1 hn
  · rw [exec_raise, taking_of_turn turn]
    simp [doReorder, check, hcls, hphase, taken_setNextOrder, reply_taken, requestCode, order, tiers,
      insertNormal_tiers _ _ _ h0]
  · rw [exec_lower, taking_of_turn turn]
    simp [doReorder, check, hcls, hphase, taken_setNextOrder, reply_taken, requestCode, order, tiers]

end Sys2Proof.Proofs

/-! ## Claims: the first gap, the checks of R8 in their order, and the record of R9 -/

namespace Sys2Proof.Proofs

open Sys2Proof.Machine Sys2Proof.Safety

/-! ### First fit (R33, R36) -/

/-- `n` blocks from block `a` lie in the blocks from `first` on and before `last`, and overlap no run of the list. -/
def GapFrom (n first last a : Nat) (runs : List Run) : Prop :=
  first ≤ a ∧ a + n ≤ last ∧ ∀ r ∈ runs, a + n ≤ r.start ∨ r.start + r.length ≤ a

/-- The free blocks of a region are the gaps of its allocation list. -/
theorem freeBlocks_iff_gapFrom (o : Owner) (n a : Nat) (s : State) :
    FreeBlocks o n a s ↔ GapFrom n (regionBounds o).1 (regionBounds o).2 a (s.alloc.runs o) := Iff.rfl

/-- Where the gap in front of a run is too short, every gap lies behind the run. -/
theorem gapFrom_cons_iff {n first last a : Nat} {r : Run} {rest : List Run} (hr : first ≤ r.start)
    (short : ¬first + n ≤ r.start) :
    GapFrom n first last a (r :: rest) ↔ GapFrom n (r.start + r.length) last a rest := by
  simp only [GapFrom, List.forall_mem_cons]
  constructor
  · rintro ⟨h1, h2, h3, h4⟩
    exact ⟨by omega, h2, h4⟩
  · rintro ⟨h1, h2, h3⟩
    exact ⟨by omega, h2, .inr h1, h3⟩

/-- A gap at the first block is the lowest one. -/
theorem lowest_gap_at_first {n first last : Nat} {runs : List Run} (gap : GapFrom n first last first runs) (a : Nat) :
    some first = some a ↔ GapFrom n first last a runs ∧ ∀ b < a, ¬GapFrom n first last b runs := by
  constructor
  · rintro ⟨⟩
    exact ⟨gap, fun b hb hg => absurd hg.1 (by omega)⟩
  · rintro ⟨hg, least⟩
    have := hg.1
    have : ¬first < a := fun h => least first h gap
    exact congrArg some (by omega)

/-- Over runs in ascending order that do not overlap, first fit finds the lowest gap, if there is one. -/
theorem firstFit_spec (n last : Nat) (runs : List Run) (first : Nat)
    (order : runs.Pairwise fun r q => r.start + r.length ≤ q.start)
    (bounds : ∀ r ∈ runs, first ≤ r.start ∧ r.start + r.length ≤ last) :
    (∀ a, firstFit n last first runs = some a ↔
      GapFrom n first last a runs ∧ ∀ b < a, ¬GapFrom n first last b runs) ∧
    (firstFit n last first runs = none ↔ ∀ a, ¬GapFrom n first last a runs) := by
  induction runs generalizing first with
  | nil =>
    by_cases fits : first + n ≤ last
    · have gap : GapFrom n first last first [] := ⟨le_rfl, fits, by simp⟩
      simp only [firstFit, fits, if_true]
      exact ⟨lowest_gap_at_first gap, by simpa using ⟨first, gap⟩⟩
    · have full : ∀ a, ¬GapFrom n first last a [] := fun a h => by
        obtain ⟨h1, h2, -⟩ := h
        omega
      simp [firstFit, fits, full]
  | cons r rest ih =>
    obtain ⟨before, order⟩ := List.pairwise_cons.1 order
    obtain ⟨⟨hr, hlast⟩, bounds⟩ := List.forall_mem_cons.1 bounds
    by_cases fits : first + n ≤ r.start
    · have gap : GapFrom n first last first (r :: rest) :=
        ⟨le_rfl, by omega, List.forall_mem_cons.2 ⟨.inl fits, fun q hq => .inl (by have := before q hq; omega)⟩⟩
      simp only [firstFit, fits, if_true]
      exact ⟨lowest_gap_at_first gap, by simpa using ⟨first, gap⟩⟩
    · simp only [firstFit, fits, if_false, gapFrom_cons_iff hr fits]
      exact ih _ order fun q hq => ⟨before q hq, (bounds q hq).2⟩

/-- The run that the Surface Allocator finds starts at the lowest free blocks. -/
theorem findRun_of_lowest {o : Owner} {n a : Nat} {s : State} (order : RunsInOrder o s) (free : FreeBlocks o n a s)
    (least : ∀ b < a, ¬FreeBlocks o n b s) : s.findRun o n = some { start := a, length := n } := by
  have fit := ((firstFit_spec n (regionBounds o).2 _ _ order.1
    fun r hr => ⟨(order.2 r hr).1, (order.2 r hr).2.2⟩).1 a).2 ⟨(freeBlocks_iff_gapFrom ..).1 free,
      fun b hb => mt (freeBlocks_iff_gapFrom ..).2 (least b hb)⟩
  simp [State.findRun, fit]

/-- No run is found where no blocks are free. -/
theorem findRun_of_full {o : Owner} {n : Nat} {s : State} (order : RunsInOrder o s)
    (full : ∀ a, ¬FreeBlocks o n a s) : s.findRun o n = none := by
  have fit := (firstFit_spec n (regionBounds o).2 _ _ order.1
    fun r hr => ⟨(order.2 r hr).1, (order.2 r hr).2.2⟩).2.2 fun a => mt (freeBlocks_iff_gapFrom ..).2 (full a)
  simp [State.findRun, fit]

/-! ### The checks of R8 -/

/-- Step 1 of R8 refuses a barred class or kind, and nothing else. -/
theorem kindClassRefusal_of_classBarred {m : Master} {ops : ClaimOps} (h : ClassBarred m ops) :
    kindClassRefusal m ops = some .badClass := by
  obtain ⟨rfl, hk, hc⟩ := h
  simp [kindClassRefusal, hk, hc]

theorem kindClassRefusal_of_kindBarred {m : Master} {ops : ClaimOps} (h : KindBarred m ops) :
    kindClassRefusal m ops = some .badKind := by
  obtain ⟨rfl, hk, hc⟩ := h
  simp [kindClassRefusal, hk, hc]

theorem kindClassRefusal_eq_none {m : Master} {ops : ClaimOps} (hclass : ¬ClassBarred m ops)
    (hkind : ¬KindBarred m ops) : kindClassRefusal m ops = none := by
  unfold kindClassRefusal
  split
  · rename_i defined
    cases m with
    | tablet => exact if_neg fun h => hclass ⟨rfl, defined.1, h⟩
    | vehicle => exact if_neg fun h => hkind ⟨rfl, h, defined.2⟩
  · rfl

/-- The surface sizes of each kind (R1). -/
theorem sizeBad_iff_of_pixel {ops : ClaimOps} (h : ops.kind = 0) :
    sizeBad ops = true ↔ ¬(1 ≤ ops.sizeX ∧ ops.sizeX ≤ 2048 ∧ 1 ≤ ops.sizeY ∧ ops.sizeY ≤ 2048) := by
  simp [sizeBad, h]
  omega

theorem sizeBad_iff_of_text {ops : ClaimOps} (h : ops.kind = 1) :
    sizeBad ops = true ↔ ¬(1 ≤ ops.sizeX ∧ ops.sizeX ≤ 256 ∧ 1 ≤ ops.sizeY ∧ ops.sizeY ≤ 128) := by
  simp [sizeBad, h]
  omega

/-- Step 2 of R8 is `ValuesBarred`. -/
theorem valuesBad_iff (m : Master) (ops : ClaimOps) :
    valuesBad ops (pixelWindow m ops.window) = true ↔ ValuesBarred ops := by
  simp only [valuesBad, Bool.or_eq_true, emptyWindow_pixelWindow, ValuesBarred]
  by_cases h0 : ops.kind = 0
  · rw [sizeBad_iff_of_pixel h0]
    simp [h0, or_assoc]
  · by_cases h1 : ops.kind = 1
    · rw [sizeBad_iff_of_text h1]
      simp [h1, or_assoc, Option.isSome_iff_ne_none]
    · have undefined : 1 < ops.kind := by omega
      simp [undefined]

/-- The blocks that a CLAIM needs (R34). -/
theorem neededBlocks_eq (ops : ClaimOps) : neededBlocks ops = blocksNeeded ops := rfl

theorem paneQuota_eq (m : Master) : paneQuota m = quotaOf m := by cases m <;> rfl

theorem panesOf_eq_holds (o : Owner) (s : State) : s.panesOf o = holds o s := rfl

/-- The checks of R8 once kind and class have passed. -/
theorem claimCheck_of_kindClass {m : Master} {ops : ClaimOps} {s : State} (hclass : ¬ClassBarred m ops)
    (hkind : ¬KindBarred m ops) :
    s.claimCheck m ops =
      if valuesBad ops (pixelWindow m ops.window) then .error .badValue
      else if quotaOf m ≤ holds (masterOwner m) s then .error .quota
      else
        match s.findRun (masterOwner m) (blocksNeeded ops), s.lowestFree with
        | none, _ => .error .noMemory
        | some _, none => .error .quota
        | some run, some n => .ok (n, run) := by
  simp only [State.claimCheck, kindClassRefusal_eq_none hclass hkind, paneQuota_eq, panesOf_eq_holds, neededBlocks_eq]
    <;> rfl

/-- A CLAIM whose checks fail is refused with their result. -/
theorem claim_refusedWith {m : Master} {ops : ClaimOps} {s : State} {result : Result}
    (h : s.claimCheck m ops = .error result) : RefusedWith (.claim m ops) 0x10 result s :=
  refusedWith_of_taking rfl (exec_claim ..) (by simp [doClaim, h]) rfl

/-- Settles O11, step by step of R8. -/
theorem claimRefusedInOrder : Obligations.ClaimRefusedInOrder := by
  intro m ops s order
  refine ⟨fun hclass => ?_, fun hkind => ?_, fun hclass hkind => ⟨fun hvalues => ?_, fun hvalues => ⟨fun hquota => ?_,
    fun hquota full => ?_⟩⟩⟩
  · exact claim_refusedWith (by simp [State.claimCheck, kindClassRefusal_of_classBarred hclass])
  · exact claim_refusedWith (by simp [State.claimCheck, kindClassRefusal_of_kindBarred hkind])
  all_goals
    refine claim_refusedWith ?_
    rw [claimCheck_of_kindClass hclass hkind]
  · rw [if_pos ((valuesBad_iff m ops).2 hvalues)]
  · rw [if_neg ((valuesBad_iff m ops).not.2 hvalues), if_pos hquota]
  · rw [if_neg ((valuesBad_iff m ops).not.2 hvalues), if_neg (by omega), findRun_of_full order full]

/-! ### The record that a CLAIM takes (R3, R9) -/

/-- The lowest FREE record. -/
theorem lowestFree_eq {n : Nat} {s : State} (h1 : 1 ≤ n) (h7 : n ≤ 7) (free : s.layout.panes[n]? = some none)
    (least : ∀ k < n, 1 ≤ k → s.layout.panes[k]? ≠ some none) : s.lowestFree = some n := by
  have numbers : [1, 2, 3, 4, 5, 6, 7] = List.range' 1 7 := rfl
  rw [State.lowestFree, numbers, List.find?_range'_eq_some]
  refine ⟨by simp [free], by simp; omega, fun k hk hkn => ?_⟩
  simpa using least k hkn hk

/-- A CLAIM that passes the four steps of R8 takes the lowest FREE record and the first gap. -/
theorem claimCheck_ok {m : Master} {ops : ClaimOps} {n a : Nat} {s : State} (order : RunsInOrder (masterOwner m) s)
    (hclass : ¬ClassBarred m ops) (hkind : ¬KindBarred m ops) (hvalues : ¬ValuesBarred ops)
    (hquota : holds (masterOwner m) s < quotaOf m) (free : FreeBlocks (masterOwner m) (blocksNeeded ops) a s)
    (least : ∀ b < a, ¬FreeBlocks (masterOwner m) (blocksNeeded ops) b s) (record : s.lowestFree = some n) :
    s.claimCheck m ops = .ok (n, { start := a, length := blocksNeeded ops }) := by
  rw [claimCheck_of_kindClass hclass hkind, if_neg ((valuesBad_iff m ops).not.2 hvalues), if_neg (by omega),
    findRun_of_lowest order free least, record]

/-- Taking a request and taking the claim's record, run and fill do not disturb each other. -/
theorem taken_takeClaim (m : Master) (n : Nat) (p : Pane) (s : State) :
    takeClaim n p (taken m s) = taken m (takeClaim n p s) := by cases m <;> rfl

/-- Settles O12. -/
theorem claimTakesLowestFreeRecord : Obligations.ClaimTakesLowestFreeRecord := by
  intro m ops n a s turn order hclass hkind hvalues hquota free leastGap h1 h7 hfree leastFree window run pane entry
  have check := claimCheck_ok order hclass hkind hvalues hquota free leastGap (lowestFree_eq h1 h7 hfree leastFree)
  have record : claimedPane m ops run = pane := by
    by_cases hc : ops.cls = 1 <;> simp [claimedPane, pane, kindOf, classOf, PendingPart.absent, hc, window]
  have fill : claimedFill n pane = entry := by
    by_cases hk : ops.kind = 0 <;> simp [claimedFill, pane, entry, hk]
  rw [exec_claim, taking_of_turn turn]
  simp only [doClaim, taken_claimCheck, check, taken_takeClaim, reply_taken]
  change Host.Outcome.next (answered m 0x10 .ok (paneWindowBytes m n (claimedPane m ops run).window)
    (takeClaim n (claimedPane m ops run) s)) = _
  rw [record]
  simp only [takeClaim, setPane_mem, fill]
  rfl

end Sys2Proof.Proofs

/-! ## The frame boundary (R22 to R25, R37): what each of its passes makes of the pane table, the orders, the allocation
lists and the notices -/

namespace Sys2Proof.Proofs

open Sys2Proof.Machine Sys2Proof.Safety

/-! ### Reading the pane table -/

/-- A pane number that names a record lies in the table. -/
theorem lt_length_of_pane? {s : State} {n : Nat} {p : Pane} (h : s.pane? n = some p) : n < s.layout.panes.length := by
  by_contra hn
  simp [State.pane?, List.getElem?_eq_none (not_lt.1 hn)] at h

/-- A record replaced reads as the new one, and every other as before. -/
theorem pane?_setPane {s : State} {n : Nat} {p : Pane} (h : s.pane? n = some p) (q : Option Pane) (k : Nat) :
    (s.setPane n q).pane? k = if k = n then q else s.pane? k := by
  have hn := lt_length_of_pane? h
  by_cases hk : k = n
  · subst hk; simp [State.pane?, hn]
  · simp [State.pane?, hk, Ne.symm hk]

/-- The pane table is all that `pane?` reads. -/
theorem pane?_congr {s t : State} (h : t.layout.panes = s.layout.panes) (n : Nat) : t.pane? n = s.pane? n := by
  simp [State.pane?, h]

/-- Two pane tables of one length that read alike are one table. -/
theorem panes_ext {l k : List (Option Pane)} (hlen : l.length = k.length) (h : ∀ n : Nat, (l[n]?).join = (k[n]?).join) :
    l = k := by
  refine List.ext_getElem hlen fun n hl hk => ?_
  simpa [List.getElem?_eq_getElem hl, List.getElem?_eq_getElem hk] using h n

/-- What a pass over pane numbers makes of the table, if it treats each record by `g` when it comes to its number. -/
theorem foldl_pane? {f : State → Nat → State} {g : Option Pane → Option Pane} (again : ∀ r, g (g r) = g r)
    (one : ∀ s n k, (f s n).pane? k = if k = n then g (s.pane? k) else s.pane? k) (ns : List Nat) (s : State)
    (k : Nat) : (ns.foldl f s).pane? k = if k ∈ ns then g (s.pane? k) else s.pane? k := by
  induction ns generalizing s with
  | nil => simp
  | cons n ns ih =>
    rw [List.foldl_cons, ih, one]
    by_cases hk : k = n <;> by_cases hm : k ∈ ns <;> simp [hk, hm, again]

/-! ### The passes on one record -/

/-- A record once CLOSING panes are freed (R22). -/
def freed (r : Option Pane) : Option Pane := r.bind fun p => if p.phase = .closing then none else some p

/-- A record once READY panes are LIVE (R23). -/
def live (r : Option Pane) : Option Pane := r.map fun p => if p.phase = .ready then { p with phase := .live } else p

/-- A record once the pending part of LIVE panes is current (R24). -/
def applied (r : Option Pane) : Option Pane := r.map fun p => if p.phase = .live then p.applied else p

theorem freed_freed (r : Option Pane) : freed (freed r) = freed r := by
  cases r with
  | none => rfl
  | some p => by_cases h : p.phase = .closing <;> simp [freed, h]

theorem live_live (r : Option Pane) : live (live r) = live r := by
  cases r with
  | none => rfl
  | some p => by_cases h : p.phase = .ready <;> simp [live, h]

theorem applied_applied (r : Option Pane) : applied (applied r) = applied r := by
  cases r with
  | none => rfl
  | some p => by_cases h : p.phase = .live <;> simp [applied, Pane.applied, PendingPart.absent, h]

theorem boundaryClose_pane? (s : State) (n k : Nat) :
    (boundaryClose s n).pane? k = if k = n then freed (s.pane? k) else s.pane? k := by
  unfold boundaryClose
  cases hp : s.pane? n with
  | none => by_cases hk : k = n <;> simp [hk, hp, freed]
  | some p =>
    by_cases hc : p.phase = .closing
    · have := pane?_setPane hp none k
      simp only [hc, if_true]
      rw [pane?_congr (s := s.setPane n none) (by simp), this]
      by_cases hk : k = n
      · subst hk; simp [hp, freed, hc]
      · simp [hk]
    · by_cases hk : k = n <;> simp [hc, hk, hp, freed]

theorem boundaryLive_pane? (s : State) (n k : Nat) :
    (boundaryLive s n).pane? k = if k = n then live (s.pane? k) else s.pane? k := by
  unfold boundaryLive
  cases hp : s.pane? n with
  | none => by_cases hk : k = n <;> simp [hk, hp, live]
  | some p =>
    by_cases hr : p.phase = .ready
    · have := pane?_setPane hp (some { p with phase := .live }) k
      simp only [hr, if_true]
      rw [pane?_congr (s := s.setPane n (some { p with phase := .live })) (by simp), this]
      by_cases hk : k = n
      · subst hk; simp [hp, live, hr]
      · simp [hk]
    · by_cases hk : k = n <;> simp [hr, hk, hp, live]

theorem boundaryApply_pane? (s : State) (n k : Nat) :
    (boundaryApply s n).pane? k = if k = n then applied (s.pane? k) else s.pane? k := by
  unfold boundaryApply
  cases hp : s.pane? n with
  | none => by_cases hk : k = n <;> simp [hk, hp, applied]
  | some p =>
    by_cases hl : p.phase = .live
    · have := pane?_setPane hp (some p.applied) k
      simp only [hl, if_true]
      rw [pane?_congr (s := s.setPane n (some p.applied)) (by split <;> simp), this]
      by_cases hk : k = n
      · subst hk; simp [hp, applied, hl]
      · simp [hk]
    · by_cases hk : k = n <;> simp [hl, hk, hp, applied]

/-! ### The three passes, over any pane numbers -/

/-- The state after the first pass of a boundary: the CLOSING panes are FREE (R22). -/
def afterCloses (ns : List Nat) (s : State) : State := ns.foldl boundaryClose s

/-- The state after the second pass: the panes of the ready list are LIVE (R23). -/
def afterLives (ns : List Nat) (s : State) : State :=
  (afterCloses ns s).layout.ready.foldl boundaryLive (afterCloses ns s)

/-- The state with an empty ready list. -/
def withoutReady (s : State) : State := { s with layout := { s.layout with ready := [] } }

/-- The state after the third pass: the ready list is empty and the pending parts are current (R23, R24). -/
def afterApplies (ns : List Nat) (s : State) : State :=
  ns.foldl boundaryApply (withoutReady (afterLives ns s))

/-- The state after the passes: the pending order is current and the frame counted (R24, R25). -/
def afterPasses (ns : List Nat) (s : State) : State :=
  { afterApplies ns s with layout := { (afterApplies ns s).layout with
      current := (afterApplies ns s).layout.nextOrder, frame := (afterApplies ns s).layout.frame + 1 } }

/-- A boundary makes its passes over the eight pane numbers. -/
theorem boundaryLayout_eq (s : State) : boundaryLayout s = afterPasses paneNumbers s := by
  unfold boundaryLayout
  generalize paneNumbers = ns
  rfl

theorem boundaryClose_length (s : State) (n : Nat) :
    (boundaryClose s n).layout.panes.length = s.layout.panes.length := by
  unfold boundaryClose
  split
  · split <;> simp
  · rfl

theorem boundaryLive_length (s : State) (n : Nat) :
    (boundaryLive s n).layout.panes.length = s.layout.panes.length := by
  unfold boundaryLive
  split
  · split <;> simp
  · rfl

theorem boundaryApply_length (s : State) (n : Nat) :
    (boundaryApply s n).layout.panes.length = s.layout.panes.length := by
  unfold boundaryApply
  split
  · split
    · split <;> simp
    · rfl
  · rfl

@[simp] theorem afterCloses_layout (ns : List Nat) (s : State) :
    (afterCloses ns s).layout.ready = s.layout.ready ∧ (afterCloses ns s).layout.nextOrder = s.layout.nextOrder ∧
    (afterCloses ns s).layout.frame = s.layout.frame ∧
    (afterCloses ns s).layout.panes.length = s.layout.panes.length := by
  have key := foldl_same (fun t : State =>
      (t.layout.ready, t.layout.nextOrder, t.layout.frame, t.layout.panes.length)) boundaryClose
    (fun t n => by simp [boundaryClose_length]) ns s
  simp only [Prod.mk.injEq] at key
  exact key

@[simp] theorem afterLives_layout (ns : List Nat) (s : State) :
    (afterLives ns s).alloc = (afterCloses ns s).alloc ∧ (afterLives ns s).layout.frame = s.layout.frame ∧
    (afterLives ns s).layout.panes.length = s.layout.panes.length := by
  have key := foldl_same (fun t : State => (t.alloc, t.layout.frame, t.layout.panes.length)) boundaryLive
    (fun t n => by simp [boundaryLive_length]) (afterCloses ns s).layout.ready (afterCloses ns s)
  simpa [afterLives] using key

@[simp] theorem afterApplies_layout (ns : List Nat) (s : State) :
    (afterApplies ns s).alloc = (afterCloses ns s).alloc ∧ (afterApplies ns s).layout.ready = [] ∧
    (afterApplies ns s).layout.frame = s.layout.frame ∧
    (afterApplies ns s).layout.nextOrder = (afterLives ns s).layout.nextOrder ∧
    (afterApplies ns s).layout.panes.length = s.layout.panes.length := by
  have key := foldl_same (fun t : State =>
      (t.alloc, t.layout.ready, t.layout.frame, t.layout.nextOrder, t.layout.panes.length)) boundaryApply
    (fun t n => by simp [boundaryApply_length]) ns
    (withoutReady (afterLives ns s))
  simpa [afterApplies, withoutReady] using key

@[simp] theorem afterPasses_layout (ns : List Nat) (s : State) :
    (afterPasses ns s).alloc = (afterCloses ns s).alloc ∧ (afterPasses ns s).layout.ready = [] ∧
    (afterPasses ns s).layout.frame = s.layout.frame + 1 ∧
    (afterPasses ns s).layout.nextOrder = (afterLives ns s).layout.nextOrder ∧
    (afterPasses ns s).layout.current = (afterLives ns s).layout.nextOrder ∧
    (afterPasses ns s).layout.panes.length = s.layout.panes.length := by
  simp [afterPasses]

/-! ### The pane table after a boundary -/

theorem paneNumbers_nodup : paneNumbers.Nodup := List.nodup_range

@[simp] theorem mem_paneNumbers {n : Nat} : n ∈ paneNumbers ↔ n < 8 := List.mem_range

theorem afterCloses_pane? (ns : List Nat) (s : State) (n : Nat) :
    (afterCloses ns s).pane? n = if n ∈ ns then freed (s.pane? n) else s.pane? n :=
  foldl_pane? freed_freed boundaryClose_pane? ns s n

theorem afterLives_pane? (ns : List Nat) (s : State) (n : Nat) :
    (afterLives ns s).pane? n =
      if n ∈ s.layout.ready then live ((afterCloses ns s).pane? n) else (afterCloses ns s).pane? n := by
  rw [afterLives, foldl_pane? live_live boundaryLive_pane?, (afterCloses_layout ns s).1]

theorem afterPasses_pane? (ns : List Nat) (s : State) (n : Nat) :
    (afterPasses ns s).pane? n =
      if n ∈ ns then applied ((afterLives ns s).pane? n) else (afterLives ns s).pane? n :=
  foldl_pane? applied_applied boundaryApply_pane? ns _ n

/-- What a boundary makes of each record (R22 to R24). -/
theorem boundaryLayout_pane? {s : State} (inTable : ∀ n ∈ s.layout.ready, n < 8) (n : Nat) :
    (boundaryLayout s).pane? n = if n < 8 then (s.pane? n).bind (boundaryPane s n) else s.pane? n := by
  rw [boundaryLayout_eq, afterPasses_pane?, afterLives_pane?, afterCloses_pane?]
  simp only [mem_paneNumbers]
  by_cases hn : n < 8
  · simp only [hn, if_true]
    cases s.pane? n with
    | none => simp [freed, live, applied]
    | some p =>
      by_cases hr : n ∈ s.layout.ready <;> cases hp : p.phase <;>
        simp [freed, live, applied, boundaryPane, Pane.applied, PendingPart.absent, hp, hr]
  · simp [hn, mt (inTable n) hn]

/-- The whole pane table after a boundary. -/
theorem boundaryLayout_panes {s : State} (eight : s.layout.panes.length = 8)
    (inTable : ∀ n ∈ s.layout.ready, n < 8) :
    (boundaryLayout s).layout.panes = s.layout.panes.zipIdx.map fun (r, n) => r.bind (boundaryPane s n) := by
  have length : (boundaryLayout s).layout.panes.length = s.layout.panes.length := by
    simp [boundaryLayout_eq]
  refine panes_ext (by simp [length]) fun n => ?_
  have record := boundaryLayout_pane? inTable n
  by_cases hn : n < s.layout.panes.length
  · rw [if_pos (eight ▸ hn)] at record
    simpa [State.pane?, hn] using record
  · simp [length, not_lt.1 hn]

/-! ### The allocation lists after a boundary (R37) -/

theorem runs_setRuns (a : Allocator) (o : Owner) (runs : List Run) (q : Owner) :
    (a.setRuns o runs).runs q = if q = o then runs else a.runs q := by
  cases o <;> cases q <;> rfl

/-- The run that the closing of a record frees for an owner (R22). -/
def closingRun (o : Owner) (r : Option Pane) : Option Run :=
  r.bind fun p => if p.owner = o ∧ p.phase = .closing then some p.run else none

theorem boundaryClose_runs (s : State) (n : Nat) (o : Owner) :
    (boundaryClose s n).alloc.runs o = (closingRun o (s.pane? n)).toList.foldl List.erase (s.alloc.runs o) := by
  unfold boundaryClose
  cases hp : s.pane? n with
  | none => rfl
  | some p =>
    by_cases hc : p.phase = .closing
    · by_cases ho : o = p.owner
      · subst ho; simp [closingRun, hc, freeRun, runs_setRuns]
      · simp [closingRun, hc, freeRun, runs_setRuns, ho, Ne.symm ho]
    · simp [closingRun, hc]

theorem afterCloses_runs (ns : List Nat) (apart : ns.Nodup) (s : State) (o : Owner) :
    (afterCloses ns s).alloc.runs o =
      (ns.filterMap fun n => closingRun o (s.pane? n)).foldl List.erase (s.alloc.runs o) := by
  unfold afterCloses
  induction ns generalizing s with
  | nil => rfl
  | cons n ns ih =>
    obtain ⟨hn, apart⟩ := List.nodup_cons.1 apart
    have others : ns.filterMap (fun k => closingRun o ((boundaryClose s n).pane? k)) =
        ns.filterMap fun k => closingRun o (s.pane? k) :=
      List.filterMap_congr fun k hk => by
        rw [boundaryClose_pane?, if_neg (ne_of_mem_of_not_mem hk hn)]
    rw [List.foldl_cons, ih apart, others, boundaryClose_runs, List.filterMap_cons]
    cases closingRun o (s.pane? n) <;> rfl

/-- Going through the numbers of a table is going through the table. -/
theorem filterMap_range_join {α β : Type} (g : Option α → Option β) (l : List (Option α)) :
    (List.range l.length).filterMap (fun n => g (l[n]?).join) = l.filterMap g := by
  induction l with
  | nil => rfl
  | cons r l ih =>
    rw [List.length_cons, List.range_succ_eq_map, List.filterMap_cons, List.filterMap_map, List.filterMap_cons, ← ih]
    rfl

/-- The allocation lists after a boundary. -/
theorem boundaryLayout_runs {s : State} (eight : s.layout.panes.length = 8) (o : Owner) :
    (boundaryLayout s).alloc.runs o = (closingRuns o s).foldl List.erase (s.alloc.runs o) := by
  have numbers : (paneNumbers.filterMap fun n => closingRun o (s.pane? n)) = closingRuns o s := by
    rw [paneNumbers, ← eight]
    exact filterMap_range_join (closingRun o) s.layout.panes
  rw [boundaryLayout_eq, (afterPasses_layout paneNumbers s).1, afterCloses_runs _ paneNumbers_nodup, numbers]

end Sys2Proof.Proofs

/-! ## The frame boundary: its notices, its orders, and the state it makes -/

namespace Sys2Proof.Proofs

open Sys2Proof.Machine Sys2Proof.Safety

/-! ### Notices handed one after another -/

/-- The state in which notices have been handed, each to its owner. -/
def tell (xs : List (Option Owner × Notice)) (s : State) : State := xs.foldl (fun t x => told x.1 x.2 t) s

/-- The state with another layout and other allocation lists. -/
def relaid (l : Layout) (a : Allocator) (s : State) : State := { s with layout := l, alloc := a }

theorem told_relaid (o : Option Owner) (x : Notice) (l : Layout) (a : Allocator) (s : State) :
    told o x (relaid l a s) = relaid l a (told o x s) := by
  rcases o with _ | o
  · rfl
  · cases o <;> rfl

theorem told_scanOut_update (o : Option Owner) (x : Notice) (c : ScanOut) (s : State) :
    told o x { s with scanOut := c } = { told o x s with scanOut := c } := by
  rcases o with _ | o
  · rfl
  · cases o <;> rfl

theorem tell_relaid (xs : List (Option Owner × Notice)) (l : Layout) (a : Allocator) (s : State) :
    tell xs (relaid l a s) = relaid l a (tell xs s) := by
  induction xs generalizing s with
  | nil => rfl
  | cons x xs ih => exact (congrArg (tell xs) (told_relaid x.1 x.2 l a s)).trans (ih _)

theorem tell_scanOut_update (xs : List (Option Owner × Notice)) (c : ScanOut) (s : State) :
    tell xs { s with scanOut := c } = { tell xs s with scanOut := c } := by
  induction xs generalizing s with
  | nil => rfl
  | cons x xs ih => exact (congrArg (tell xs) (told_scanOut_update x.1 x.2 c s)).trans (ih _)

theorem tell_append (xs ys : List (Option Owner × Notice)) (s : State) : tell (xs ++ ys) s = tell ys (tell xs s) :=
  List.foldl_append

theorem relaid_relaid (l k : Layout) (a b : Allocator) (s : State) : relaid l a (relaid k b s) = relaid l a s := rfl

/-! ### The notices of each pass -/

/-- Freeing a CLOSING pane changes the layout and the allocation lists alone. -/
theorem boundaryClose_relaid (s : State) (n : Nat) :
    boundaryClose s n = relaid (boundaryClose s n).layout (boundaryClose s n).alloc s := by
  unfold boundaryClose
  split
  · split <;> rfl
  · rfl

theorem afterCloses_relaid (ns : List Nat) (s : State) :
    afterCloses ns s = relaid (afterCloses ns s).layout (afterCloses ns s).alloc s := by
  unfold afterCloses
  induction ns generalizing s with
  | nil => rfl
  | cons n ns ih =>
    rw [List.foldl_cons, ih, boundaryClose_relaid s n]
    rfl

/-- PANE LIVE of a pane of the ready list (R23, R25). -/
def liveNotice (s : State) (n : Nat) : Option Owner × Notice := (ownerAt (some n) s, .paneLive n s.nextFrame)

/-- FLIP DONE of a LIVE pane with a staged flip (R24, R25). -/
def flipNotice (s : State) (n : Nat) : Option (Option Owner × Notice) :=
  (s.pane? n).bind fun p =>
    if p.phase = .live ∧ p.staged.flip = true then some (some p.owner, .flipDone n (1 - p.front) s.nextFrame) else none

/-- A READY pane made LIVE changes the layout alone, and its owner is told. -/
theorem boundaryLive_tell {s : State} {n : Nat} {p : Pane} (hp : s.pane? n = some p) (hr : p.phase = .ready) :
    boundaryLive s n = relaid (boundaryLive s n).layout s.alloc (tell [liveNotice s n] s) := by
  have owner : ownerAt (some n) s = some p.owner := by simp [ownerAt, hp]
  have made : boundaryLive s n = told (some p.owner) (.paneLive n s.nextFrame)
      (relaid (boundaryLive s n).layout s.alloc s) := by
    simp [boundaryLive, hp, hr, notify_eq_told, relaid]
  rw [made, told_relaid, liveNotice, owner]
  simp [relaid, tell]

/-- The notices of the second pass, oldest of the ready list first. -/
theorem foldl_boundaryLive_tell (ns : List Nat) (apart : ns.Nodup) (s : State)
    (ready : ∀ n ∈ ns, ∃ p, s.pane? n = some p ∧ p.phase = .ready) :
    ns.foldl boundaryLive s = relaid (ns.foldl boundaryLive s).layout s.alloc (tell (ns.map (liveNotice s)) s) := by
  induction ns generalizing s with
  | nil => rfl
  | cons n ns ih =>
    obtain ⟨hn, apart⟩ := List.nodup_cons.1 apart
    obtain ⟨p, hp, hr⟩ := ready n (by simp)
    have other : ∀ k ∈ ns, (boundaryLive s n).pane? k = s.pane? k := fun k hk => by
      rw [boundaryLive_pane?, if_neg (ne_of_mem_of_not_mem hk hn)]
    have notices : ns.map (liveNotice (boundaryLive s n)) = ns.map (liveNotice s) :=
      List.map_congr_left fun k hk => by simp [liveNotice, ownerAt, other k hk, State.nextFrame]
    rw [List.foldl_cons, ih apart _ fun k hk => by simpa [other k hk] using ready k (by simp [hk]), notices,
      boundaryLive_tell hp hr, tell_relaid, relaid_relaid, ← tell_append]
    rfl

/-- Making a pending part current changes the layout alone, and its owner is told of a flip. -/
theorem boundaryApply_tell (s : State) (n : Nat) :
    boundaryApply s n = relaid (boundaryApply s n).layout s.alloc (tell (flipNotice s n).toList s) := by
  cases hp : s.pane? n with
  | none => simp [boundaryApply, flipNotice, hp, relaid, tell]
  | some p =>
    by_cases hl : p.phase = .live
    · by_cases hf : p.staged.flip = true
      · have made : boundaryApply s n = told (some p.owner) (.flipDone n (1 - p.front) s.nextFrame)
            (relaid (boundaryApply s n).layout s.alloc s) := by
          simp [boundaryApply, hp, hl, hf, notify_eq_told, relaid, Pane.applied, State.setPane]
        have notice : flipNotice s n = some (some p.owner, .flipDone n (1 - p.front) s.nextFrame) := by
          simp [flipNotice, hp, hl, hf]
        rw [made, told_relaid, notice]
        simp [relaid, tell]
      · simp [boundaryApply, flipNotice, hp, hl, hf, relaid, tell, State.setPane]
    · simp [boundaryApply, flipNotice, hp, hl, relaid, tell]

/-- The notices of the third pass, in the order of the pane numbers. -/
theorem foldl_boundaryApply_tell (ns : List Nat) (apart : ns.Nodup) (s : State) :
    ns.foldl boundaryApply s =
      relaid (ns.foldl boundaryApply s).layout s.alloc (tell (ns.filterMap (flipNotice s)) s) := by
  induction ns generalizing s with
  | nil => rfl
  | cons n ns ih =>
    obtain ⟨hn, apart⟩ := List.nodup_cons.1 apart
    have notices : ns.filterMap (flipNotice (boundaryApply s n)) = ns.filterMap (flipNotice s) :=
      List.filterMap_congr fun k hk => by
        simp [flipNotice, boundaryApply_pane?, ne_of_mem_of_not_mem hk hn, State.nextFrame]
    rw [List.foldl_cons, ih apart, notices, boundaryApply_tell s n, tell_relaid, relaid_relaid, ← tell_append,
      List.filterMap_cons]
    cases flipNotice s n <;> rfl

/-- A boundary over a ready list of READY panes: the layout and the allocation lists change, and the notices of the
second and third pass are handed. -/
theorem afterPasses_tell (ns : List Nat) (apart : ns.Nodup) (s : State) (readyApart : s.layout.ready.Nodup)
    (ready : ∀ n ∈ s.layout.ready, ∃ p, s.pane? n = some p ∧ p.phase = .ready) :
    afterPasses ns s = relaid (afterPasses ns s).layout (afterPasses ns s).alloc
      (tell (s.layout.ready.map (liveNotice s) ++ ns.filterMap (flipNotice (afterLives ns s))) s) := by
  have stay : ∀ n ∈ s.layout.ready, (afterCloses ns s).pane? n = s.pane? n := fun n hn => by
    obtain ⟨p, hp, hr⟩ := ready n hn
    simp [afterCloses_pane?, hp, freed, hr]
  have liveNotices : s.layout.ready.map (liveNotice (afterCloses ns s)) = s.layout.ready.map (liveNotice s) :=
    List.map_congr_left fun n hn => by simp [liveNotice, ownerAt, stay n hn, State.nextFrame]
  have lives := foldl_boundaryLive_tell s.layout.ready readyApart (afterCloses ns s)
    fun n hn => by simpa [stay n hn] using ready n hn
  have closes := afterCloses_relaid ns s
  have livesEq : afterLives ns s = relaid (afterLives ns s).layout (afterCloses ns s).alloc
      (tell (s.layout.ready.map (liveNotice s)) s) := by
    rw [liveNotices, closes, tell_relaid, relaid_relaid, ← closes] at lives
    simpa [afterLives] using lives
  have applies := foldl_boundaryApply_tell ns apart (withoutReady (afterLives ns s))
  have emptied : withoutReady (afterLives ns s) = relaid (withoutReady (afterLives ns s)).layout
      (afterCloses ns s).alloc (tell (s.layout.ready.map (liveNotice s)) s) := congrArg withoutReady livesEq
  have start : tell (ns.filterMap (flipNotice (afterLives ns s))) (withoutReady (afterLives ns s)) =
      relaid (withoutReady (afterLives ns s)).layout (afterCloses ns s).alloc
        (tell (s.layout.ready.map (liveNotice s) ++ ns.filterMap (flipNotice (afterLives ns s))) s) := by
    rw [tell_append, ← tell_relaid, ← emptied]
  have made : afterApplies ns s = relaid (afterApplies ns s).layout (afterLives ns s).alloc
      (tell (s.layout.ready.map (liveNotice s) ++ ns.filterMap (flipNotice (afterLives ns s))) s) := by
    rw [← relaid_relaid _ (withoutReady (afterLives ns s)).layout _ (afterCloses ns s).alloc, ← start]
    exact applies
  rw [(afterPasses_layout ns s).1, ← (afterLives_layout ns s).1]
  exact congrArg (fun t : State => { t with layout := (afterPasses ns s).layout }) made

/-- The notices of the passes over the eight pane numbers are those of a boundary. -/
theorem boundaryNotices_eq (s : State) :
    boundaryNotices s =
      s.layout.ready.map (liveNotice s) ++ paneNumbers.filterMap (flipNotice (afterLives paneNumbers s)) := by
  refine congrArg (_ ++ ·) (List.filterMap_congr fun n hn => ?_)
  have frame : (afterLives paneNumbers s).nextFrame = s.nextFrame := by simp [State.nextFrame]
  rw [flipNotice, frame, afterLives_pane?, afterCloses_pane?, if_pos (mem_paneNumbers.2 (List.mem_range.1 hn))]
  cases s.pane? n with
  | none => simp [freed, live]
  | some p =>
    by_cases hr : n ∈ s.layout.ready <;> cases hp : p.phase <;> simp [freed, live, hp, hr, State.nextFrame]

/-! ### The state that a boundary makes -/

/-- The layout after a boundary (R22 to R25). -/
theorem boundaryLayout_layout {s : State} (eight : s.layout.panes.length = 8)
    (inTable : ∀ n ∈ s.layout.ready, n < 8) :
    (boundaryLayout s).layout =
      { panes := s.layout.panes.zipIdx.map fun (r, n) => r.bind (boundaryPane s n)
        current := (boundaryLayout s).layout.nextOrder, nextOrder := (boundaryLayout s).layout.nextOrder
        ready := [], frame := s.layout.frame + 1 } := by
  have panes := boundaryLayout_panes eight inTable
  rw [boundaryLayout_eq] at panes ⊢
  obtain ⟨-, ready, frame, next, current, -⟩ := afterPasses_layout paneNumbers s
  have eta : ∀ l : Layout, l.current = l.nextOrder → l = { l with current := l.nextOrder } := by
    rintro ⟨⟩ h
    simpa using h
  rw [← panes, ← ready, ← frame]
  exact eta _ (current.trans next.symm)

/-- The allocation lists after a boundary (R37). -/
theorem boundaryLayout_alloc {s : State} (eight : s.layout.panes.length = 8) :
    (boundaryLayout s).alloc =
      { tablet := (closingRuns .tablet s).foldl List.erase s.alloc.tablet
        vehicle := (closingRuns .vehicle s).foldl List.erase s.alloc.vehicle
        part := (closingRuns .part s).foldl List.erase s.alloc.part } := by
  have runs := boundaryLayout_runs eight
  have eta : ∀ a : Allocator, a = { tablet := a.runs .tablet, vehicle := a.runs .vehicle, part := a.runs .part } :=
    fun _ => rfl
  rw [eta (boundaryLayout s).alloc, runs, runs, runs]
  rfl

theorem boundaryMade_eq_tell (order : List Nat) (s : State) :
    boundaryMade order s = tell (boundaryNotices s)
      { s with
        layout :=
          { panes := s.layout.panes.zipIdx.map fun (r, n) => r.bind (boundaryPane s n), current := order
            nextOrder := order, ready := [], frame := s.layout.frame + 1 }
        alloc :=
          { tablet := (closingRuns .tablet s).foldl List.erase s.alloc.tablet
            vehicle := (closingRuns .vehicle s).foldl List.erase s.alloc.vehicle
            part := (closingRuns .part s).foldl List.erase s.alloc.part }
        scanOut := s.scanOut.nextFrame } := rfl

/-- What the Layout Controller and the Scan-out Unit make of a boundary is `boundaryMade`. -/
theorem boundaryLayout_made {s : State} (eight : s.layout.panes.length = 8) (inTable : ∀ n ∈ s.layout.ready, n < 8)
    (readyApart : s.layout.ready.Nodup) (ready : ∀ n ∈ s.layout.ready, ∃ p, s.pane? n = some p ∧ p.phase = .ready) :
    ({ boundaryLayout s with scanOut := s.scanOut.nextFrame } : State) =
      boundaryMade (boundaryLayout s).layout.nextOrder s := by
  have passes := afterPasses_tell paneNumbers paneNumbers_nodup s readyApart ready
  rw [← boundaryLayout_eq, ← boundaryNotices_eq, ← tell_relaid] at passes
  have whole := congrArg (fun t : State => { t with scanOut := s.scanOut.nextFrame }) passes
  rw [← tell_scanOut_update] at whole
  refine whole.trans ?_
  have layout := boundaryLayout_layout eight inTable
  have alloc := boundaryLayout_alloc eight
  generalize (boundaryLayout s).layout.nextOrder = order at layout ⊢
  rw [layout, alloc, boundaryMade_eq_tell]
  rfl

/-! ### The events that a boundary hands on (R25, R88, R114, R119) -/

/-- The state once the pane live events and then the hidings have been taken. -/
def eventsTaken (lives hidden : List Nat) (s : State) : State :=
  hidden.foldl takeHidden (lives.foldl (fun t n => alertPaneLive n t) s)

/-- A boundary is its work on the layout, the next frame, and the events. -/
theorem takeBoundary_eq (s : State) :
    takeBoundary s =
      eventsTaken s.layout.ready s.hiddenBy { boundaryLayout s with scanOut := s.scanOut.nextFrame } := by
  simp [takeBoundary, eventsTaken]

/-- What the events leave as it was. -/
@[simp] theorem eventsTaken_frame (lives hidden : List Nat) (s : State) :
    (eventsTaken lives hidden s).layout = s.layout ∧ (eventsTaken lives hidden s).scanOut = s.scanOut ∧
    (eventsTaken lives hidden s).mem.cells = s.mem.cells ∧ (eventsTaken lives hidden s).mem.fills = s.mem.fills ∧
    (eventsTaken lives hidden s).scanner = s.scanner ∧ (eventsTaken lives hidden s).inputs = s.inputs ∧
    (eventsTaken lives hidden s).park = s.park ∧ (eventsTaken lives hidden s).router.held = s.router.held ∧
    (eventsTaken lives hidden s).dock.requests = s.dock.requests ∧
    (eventsTaken lives hidden s).vehicle.requests = s.vehicle.requests ∧
    (eventsTaken lives hidden s).dock.link = s.dock.link := by
  let kept (t : State) := (t.layout, t.scanOut, t.mem.cells, t.mem.fills, t.scanner, t.inputs, t.park, t.router.held,
    t.dock.requests, t.vehicle.requests, t.dock.link)
  have livesKey := foldl_same kept (fun t n => alertPaneLive n t) (fun t n => by simp [kept]) lives s
  have hiddenKey := foldl_same kept takeHidden (fun t n => by simp [kept]) hidden
    (lives.foldl (fun t n => alertPaneLive n t) s)
  have key := hiddenKey.trans livesKey
  simp only [kept, Prod.mk.injEq] at key
  exact key

/-- The Key Router's part of a pane that closes or is hidden. -/
theorem routerPaneLost_eq (n : Nat) (s : State) : routerPaneLost n s = paneLost n s := by
  simp only [routerPaneLost, paneLost, fixUp, setFocus_eq_focusMoved]

theorem dropSaved_eq (n : Nat) (s : State) : dropSaved n s = savedDropped n s := rfl

/-- The hiding of a pane, as the Key Router and the Alert Controller take it. -/
theorem takeHidden_eq (s : State) (n : Nat) : takeHidden s n = savedDropped n (paneLost n s) := by
  rw [takeHidden, routerPaneLost_eq, dropSaved_eq]

theorem hiddenBy_eq (s : State) : s.hiddenBy = hiddenAt s := by
  unfold State.hiddenBy hiddenAt
  rfl

/-- A boundary over a table of eight records and a ready list of READY panes, whole. -/
theorem takeBoundary_made {s : State} (eight : s.layout.panes.length = 8) (inTable : ∀ n ∈ s.layout.ready, n < 8)
    (readyApart : s.layout.ready.Nodup) (ready : ∀ n ∈ s.layout.ready, ∃ p, s.pane? n = some p ∧ p.phase = .ready) :
    takeBoundary s =
      (hiddenAt s).foldl (fun u n => savedDropped n (paneLost n u))
        (s.layout.ready.foldl (fun u n => alertPaneLive n u) (boundaryMade (takeBoundary s).layout.nextOrder s)) := by
  have hidings : takeHidden = fun u n => savedDropped n (paneLost n u) := funext fun u => funext (takeHidden_eq u)
  have order : (takeBoundary s).layout.nextOrder = (boundaryLayout s).layout.nextOrder := by
    rw [takeBoundary_eq]
    simp
  rw [order, ← boundaryLayout_made eight inTable readyApart ready, takeBoundary_eq, eventsTaken, hidings, hiddenBy_eq]

theorem exec_frameBoundary {s : State} (running : s.scanOut.running = true) :
    exec .frameBoundary s = .next (takeBoundary s) := whenRunning_of_running running _

/-- What a boundary leaves of the layout: its passes' work (R22 to R25). -/
theorem takeBoundary_layout (s : State) : (takeBoundary s).layout = (boundaryLayout s).layout := by
  rw [takeBoundary_eq]
  simp

/-- Settles O22: the records by `boundaryLayout_pane?`, the whole state by `takeBoundary_made`, and what the
events leave. -/
theorem boundaryMakesStagedChangesCurrent : Obligations.BoundaryMakesStagedChangesCurrent := by
  intro s running ready
  have inTable : ∀ n ∈ s.layout.ready, n < 8 := fun n hn => (ready n hn).1
  have record (n : Nat) : (takeBoundary s).pane? n = _ :=
    (pane?_congr (congrArg Layout.panes (takeBoundary_layout s)) n).trans (boundaryLayout_pane? inTable n)
  have order := (afterPasses_layout paneNumbers s).2
  rw [← boundaryLayout_eq] at order
  obtain ⟨readyEmpty, frame, next, current, -⟩ := order
  refine ⟨takeBoundary s, exec_frameBoundary running, fun n hn p hp => ?_, fun n hp => ?_, ?_⟩
  · rw [record, if_pos hn, hp]
    rfl
  · simp [record, hp]
  · have whole := fun eight readyApart => takeBoundary_made eight inTable readyApart fun n hn => (ready n hn).2
    simp only [takeBoundary_layout, readyEmpty, frame, next, current, true_and] at whole ⊢
    simp only [takeBoundary_eq, eventsTaken_frame, boundaryLayout_frame, ScanOut.nextFrame, running, true_and]
      at whole ⊢
    exact whole

/-! ### The orders at a boundary (R17, R23, R24) -/

theorem boundaryLive_nextOrder {s : State} {n : Nat} {p : Pane} (hp : s.pane? n = some p) (hr : p.phase = .ready) :
    (boundaryLive s n).layout.nextOrder = insertTop p.cls n s.layout.nextOrder := by
  simp [boundaryLive, hp, hr]

/-- READY panes inserted one after another, each at the top of its tier. -/
theorem foldl_boundaryLive_nextOrder (isAlert : Nat → Bool) (ns : List Nat) (apart : ns.Nodup) (h0 : 0 ∉ ns)
    (s : State) (alerts normals : List Nat) (order : s.layout.nextOrder = alerts ++ 0 :: normals) (hA : 0 ∉ alerts)
    (ready : ∀ n ∈ ns, ∃ p, s.pane? n = some p ∧ p.phase = .ready ∧ isAlert n = (p.cls == .alert)) :
    (ns.foldl boundaryLive s).layout.nextOrder =
      (ns.filter isAlert).reverse ++ alerts ++ 0 :: ((ns.filter fun n => !isAlert n).reverse ++ normals) := by
  induction ns generalizing s alerts normals with
  | nil => simpa using order
  | cons n ns ih =>
    obtain ⟨hn, apart⟩ := List.nodup_cons.1 apart
    obtain ⟨hn0, h0⟩ := not_or.1 (List.mem_cons.not.1 h0)
    obtain ⟨p, hp, hr, hcls⟩ := ready n (by simp)
    have rest : ∀ k ∈ ns, ∃ p, (boundaryLive s n).pane? k = some p ∧ p.phase = .ready ∧ isAlert k = (p.cls == .alert) :=
      fun k hk => by
        simpa [boundaryLive_pane?, ne_of_mem_of_not_mem hk hn] using ready k (by simp [hk])
    have next := boundaryLive_nextOrder hp hr
    rw [order] at next
    rw [List.foldl_cons]
    cases hc : p.cls with
    | alert =>
      rw [hc] at next hcls
      rw [ih apart h0 _ (n :: alerts) normals next (by simp [hn0, hA]) rest]
      simp [hcls]
    | normal =>
      rw [hc] at next hcls
      rw [ih apart h0 _ alerts (n :: normals) (next.trans (insertNormal_tiers _ _ _ hA)) hA rest]
      simp [hcls]

/-- Settles O23: the ready panes are what `foldl_boundaryLive_nextOrder` inserts, and the passes around it leave the
pending order, which then is the current one. -/
theorem boundaryInsertsReadyPanesOnTop : Obligations.BoundaryInsertsReadyPanesOnTop := by
  intro s alerts normals running order hA readyApart h0 ready
  have passes := afterPasses_layout paneNumbers s
  rw [← boundaryLayout_eq, ← takeBoundary_layout] at passes
  obtain ⟨-, -, -, next, current, -⟩ := passes
  refine ⟨takeBoundary s, exec_frameBoundary running, ?_, current.trans next.symm⟩
  have stay : ∀ n ∈ s.layout.ready, ∃ p, (afterCloses paneNumbers s).pane? n = some p ∧ p.phase = .ready ∧
      (s.pane? n).any (fun p => p.cls == .alert) = (p.cls == .alert) := fun n hn => by
    obtain ⟨p, hp, hr⟩ := ready n hn
    exact ⟨p, by simp [afterCloses_pane?, hp, freed, hr], hr, by simp [hp]⟩
  rw [next, afterLives, (afterCloses_layout _ s).1]
  exact foldl_boundaryLive_nextOrder _ _ readyApart h0 _ _ _
    ((afterCloses_layout _ s).2.1.trans order) hA stay

end Sys2Proof.Proofs

/-! ## The layout that every step keeps: the quotas, pane 0, the orders and the ready list (R2, R3, R11, R17, R18) -/

namespace Sys2Proof.Proofs

open Sys2Proof.Machine Sys2Proof.Safety

/-! ### The invariant -/

/-- What every step keeps of the layout. -/
def LayoutKept (s : State) : Prop := OrdersKept s ∧ QuotaKept s

/-- The invariant speaks of the layout alone. -/
theorem layoutKept_congr {s t : State} (h : t.layout = s.layout) (kept : LayoutKept s) : LayoutKept t := by
  cases s
  cases t
  cases h
  exact kept

/-- A state change keeps the invariant. -/
def Keeps (f : State → State) : Prop := ∀ s, LayoutKept s → LayoutKept (f s)

theorem keeps_of_layout {f : State → State} (h : ∀ s, (f s).layout = s.layout) : Keeps f :=
  fun s => layoutKept_congr (h s)

theorem foldl_keeps {α : Type} {f : State → α → State} (h : ∀ x, Keeps fun s => f s x) (l : List α) :
    Keeps fun s => l.foldl f s := by
  induction l with
  | nil => exact fun s kept => kept
  | cons x l ih => exact fun s kept => ih _ (h x s kept)

/-- The phase of a pane is one. -/
theorem inPhase_iff {s : State} {n : Nat} {p : Pane} (hp : s.pane? n = some p) (phases : List PanePhase) :
    InPhase phases s n ↔ p.phase ∈ phases := by
  simp [InPhase, hp]

/-! ### Quotas (R3) -/

/-- A record holds a pane of the owner. -/
def ownedBy (o : Owner) (r : Option Pane) : Bool := r.any fun p => p.owner == o

theorem holds_eq (o : Owner) (s : State) : holds o s = s.layout.panes.countP (ownedBy o) := rfl

/-- How one record counts in the number of panes that an owner holds. -/
theorem countP_set_record {l : List (Option Pane)} {n : Nat} {r : Option Pane} (hr : l[n]? = some r) (o : Owner)
    (q : Option Pane) :
    (l.set n q).countP (ownedBy o) + (ownedBy o r).toNat = l.countP (ownedBy o) + (ownedBy o q).toNat := by
  obtain ⟨hn, rfl⟩ := List.getElem?_eq_some_iff.1 hr
  have counted := List.boole_getElem_le_countP (p := ownedBy o) hn
  rw [List.countP_set hn]
  cases hl : ownedBy o l[n] <;> cases hq : ownedBy o q <;>
    simp only [hl, if_true, Bool.false_eq_true, if_false, Bool.toNat_true, Bool.toNat_false] at counted ⊢ <;> omega

/-- A record that stays its owner's, or becomes FREE, breaks no quota. -/
theorem quotaKept_of_record {s t : State} {n : Nat} {r q : Option Pane} (kept : QuotaKept s)
    (hr : s.layout.panes[n]? = some r) (panes : t.layout.panes = s.layout.panes.set n q)
    (owner : ∀ o, ownedBy o q = true → ownedBy o r = true) : QuotaKept t := by
  have fewer : ∀ o, holds o t ≤ holds o s := fun o => by
    have count := countP_set_record hr o q
    rw [← panes] at count
    simp only [holds_eq]
    cases hq : ownedBy o q
    · simp [hq] at count; omega
    · simp [hq, owner o hq] at count; omega
  exact ⟨(fewer .tablet).trans kept.1, (fewer .vehicle).trans kept.2⟩

/-! ### Tiers (R17) -/

/-- An order keeps its tiers while its panes keep their classes. -/
theorem tiered_of_classes {s t : State} {order : List Nat} (tiers : Tiered s order)
    (same : ∀ n ∈ order, ∀ p, s.pane? n = some p → ∃ q, t.pane? n = some q ∧ q.cls = p.cls) : Tiered t order := by
  obtain ⟨alerts, normals, rfl, halerts, hnormals⟩ := tiers
  refine ⟨alerts, normals, rfl, fun n hn => ?_, fun n hn => ?_⟩
  · obtain ⟨p, hp, hc⟩ := halerts n hn
    obtain ⟨q, hq, hqc⟩ := same n (by simp [hn]) p hp
    exact ⟨q, hq, hqc.trans hc⟩
  · obtain ⟨h0, p, hp, hc⟩ := hnormals n hn
    obtain ⟨q, hq, hqc⟩ := same n (by simp [hn]) p hp
    exact ⟨h0, q, hq, hqc.trans hc⟩

/-- Another pane than pane 0 may leave an order. -/
theorem tiered_without {s : State} {order : List Nat} (tiers : Tiered s order) {n : Nat} (hn : n ≠ 0) :
    Tiered s (without n order) := by
  obtain ⟨alerts, normals, rfl, halerts, hnormals⟩ := tiers
  exact ⟨alerts.filter (· != n), normals.filter (· != n), by simp [without, hn.symm],
    fun k hk => halerts k (List.mem_filter.1 hk).1, fun k hk => hnormals k (List.mem_filter.1 hk).1⟩

theorem mem_without {n k : Nat} {l : List Nat} : k ∈ without n l ↔ k ∈ l ∧ k ≠ n := by simp [without]

theorem nodup_without {l : List Nat} (h : l.Nodup) (n : Nat) : (without n l).Nodup := h.filter _

/-! ### One record changed -/

/-- A list is the one before, with the record's pane in it or not as `inside` says. -/
inductive Follows (n : Nat) (inside : Prop) (l : List Nat) : List Nat → Prop
  | stays (h : n ∈ l ↔ inside) : Follows n inside l l
  | leaves (hn : n ≠ 0) (h : ¬inside) : Follows n inside l (without n l)

theorem Follows.nodup {n : Nat} {inside : Prop} {l k : List Nat} (h : Follows n inside l k) (apart : l.Nodup) :
    k.Nodup := by
  cases h with
  | stays => exact apart
  | leaves => exact nodup_without apart n

theorem Follows.mem_iff {n : Nat} {inside : Prop} {l k : List Nat} (h : Follows n inside l k) (j : Nat) :
    j ∈ k ↔ if j = n then inside else j ∈ l := by
  cases h with
  | stays h => by_cases hj : j = n <;> simp [hj, h]
  | leaves hn h => by_cases hj : j = n <;> simp [mem_without, hj, h]

theorem Follows.tiered {n : Nat} {inside : Prop} {l k : List Nat} {s t : State} (h : Follows n inside l k)
    (tiers : Tiered s l)
    (same : ∀ j ∈ k, ∀ p, s.pane? j = some p → ∃ q, t.pane? j = some q ∧ q.cls = p.cls) : Tiered t k := by
  cases h with
  | stays => exact tiered_of_classes tiers same
  | leaves hn => exact tiered_of_classes (tiered_without tiers hn) same

/-- The record is a pane in one of the phases given. -/
def recordIn (phases : List PanePhase) (r : Option Pane) : Prop := ∃ p, r = some p ∧ p.phase ∈ phases

/-- One record is replaced, by a pane of the same class if both are panes; the lists follow its phase. -/
theorem ordersKept_of_record {s t : State} {n : Nat} {r q : Option Pane} (kept : OrdersKept s)
    (hr : s.layout.panes[n]? = some r) (panes : t.layout.panes = s.layout.panes.set n q)
    (cls : ∀ p, r = some p → ∀ p', q = some p' → p'.cls = p.cls)
    (zero : n = 0 → ∃ p, q = some p ∧ p.phase = .live ∧ p.cls = .normal ∧ p.owner = .part)
    (current : Follows n (recordIn [.live, .closing] q) s.layout.current t.layout.current)
    (next : Follows n (recordIn [.live] q) s.layout.nextOrder t.layout.nextOrder)
    (readyApart : t.layout.ready.Nodup)
    (ready : ∀ k, k ∈ t.layout.ready ↔ if k = n then recordIn [.ready] q else k ∈ s.layout.ready) :
    OrdersKept t := by
  obtain ⟨eight, pane0, cApart, cMem, cTiers, nApart, nMem, nTiers, -, rMem⟩ := kept
  obtain ⟨hn, hget⟩ := List.getElem?_eq_some_iff.1 hr
  have record : ∀ k, t.pane? k = if k = n then q else s.pane? k := fun k => by
    by_cases hk : k = n
    · subst hk; simp [State.pane?, panes, hn]
    · simp [State.pane?, panes, hk, Ne.symm hk]
  have old : s.pane? n = r := by simp [State.pane?, hr]
  have phase : ∀ phases k, InPhase phases t k ↔ if k = n then recordIn phases q else InPhase phases s k :=
    fun phases k => by by_cases hk : k = n <;> simp [InPhase, recordIn, record, hk]
  have same : ∀ k, InPhase [.live, .closing] t k → ∀ p, s.pane? k = some p →
      ∃ p', t.pane? k = some p' ∧ p'.cls = p.cls := by
    intro k hk p hp
    by_cases hkn : k = n
    · subst hkn
      obtain ⟨p', hp', -⟩ := hk
      rw [record, if_pos rfl] at hp'
      exact ⟨p', by simp [record, hp'], cls p (old ▸ hp) p' hp'⟩
    · exact ⟨p, by simp [record, hkn, hp], rfl⟩
  have cMem' : ∀ k, k ∈ t.layout.current ↔ InPhase [.live, .closing] t k := fun k => by
    rw [current.mem_iff, phase, cMem]
  have nMem' : ∀ k, k ∈ t.layout.nextOrder ↔ InPhase [.live] t k := fun k => by
    rw [next.mem_iff, phase, nMem]
  refine ⟨by simp [panes, eight], ?_, current.nodup cApart, cMem',
    current.tiered cTiers fun k hk => same k ((cMem' k).1 hk),
    next.nodup nApart, nMem', next.tiered nTiers fun k hk => same k ?_, readyApart, fun k => ?_⟩
  · by_cases h0 : n = 0
    · obtain ⟨p, hq, h⟩ := zero h0
      exact ⟨p, by simp [record, h0, hq], h⟩
    · obtain ⟨p, hp, h⟩ := pane0
      exact ⟨p, by simp [record, Ne.symm h0, hp], h⟩
  · obtain ⟨p, hp, hphase⟩ := (nMem' k).1 hk
    exact ⟨p, hp, by simpa using .inl (by simpa using hphase)⟩
  · rw [ready, phase, rMem]

/-- The record of a pane. -/
theorem getElem?_of_pane? {s : State} {n : Nat} {p : Pane} (hp : s.pane? n = some p) :
    s.layout.panes[n]? = some (some p) :=
  Option.join_eq_some_iff.1 hp

theorem recordIn_none (phases : List PanePhase) : ¬recordIn phases none := by simp [recordIn]

theorem recordIn_some (phases : List PanePhase) (p : Pane) : recordIn phases (some p) ↔ p.phase ∈ phases := by
  simp [recordIn]

/-- A pane stays of its phase, class and owner. -/
theorem layoutKept_of_same {s t : State} {n : Nat} {p q : Pane} (kept : LayoutKept s) (hp : s.pane? n = some p)
    (layout : t.layout = { s.layout with panes := s.layout.panes.set n (some q) })
    (phase : q.phase = p.phase) (cls : q.cls = p.cls) (owner : q.owner = p.owner) : LayoutKept t := by
  obtain ⟨orders, quota⟩ := kept
  have hr := getElem?_of_pane? hp
  have panes := congrArg Layout.panes layout
  obtain ⟨-, ⟨p0, hp0, h0⟩, -, cMem, -, -, nMem, -, rApart, rMem⟩ := id orders
  have inside : ∀ phases, recordIn phases (some q) ↔ InPhase phases s n := fun phases => by
    simp [recordIn, inPhase_iff hp, phase]
  refine ⟨ordersKept_of_record orders hr panes ?_ ?_ ?_ ?_ ?_ ?_, quotaKept_of_record quota hr panes ?_⟩
  · rintro _ ⟨⟩ _ ⟨⟩; exact cls
  · rintro rfl
    obtain rfl : p0 = p := Option.some.inj (hp0.symm.trans hp)
    exact ⟨q, rfl, by rw [phase, cls, owner]; exact h0⟩
  · rw [layout]; exact .stays ((cMem n).trans (inside _).symm)
  · rw [layout]; exact .stays ((nMem n).trans (inside _).symm)
  · rw [layout]; exact rApart
  · intro k
    rw [layout, inside, ← rMem]
    by_cases hk : k = n <;> simp [hk]
  · simp [ownedBy, owner]

/-- Pane 0 is LIVE and the part's own. -/
theorem pane_zero_live {s : State} (orders : OrdersKept s) {n : Nat} {p : Pane} (hp : s.pane? n = some p)
    (h : p.phase ≠ .live ∨ p.owner ≠ .part) : n ≠ 0 := by
  rintro rfl
  obtain ⟨-, ⟨q, hq, hphase, -, howner⟩, -⟩ := orders
  obtain rfl : q = p := Option.some.inj (hq.symm.trans hp)
  simp [hphase, howner] at h

/-- A PREPARING or READY pane becomes FREE (R19, R29). -/
theorem layoutKept_of_freed {s t : State} {n : Nat} {p : Pane} (kept : LayoutKept s) (hp : s.pane? n = some p)
    (phase : p.phase = .preparing ∨ p.phase = .ready)
    (layout : t.layout =
      { s.layout with panes := s.layout.panes.set n none, ready := without n s.layout.ready }) : LayoutKept t := by
  obtain ⟨orders, quota⟩ := kept
  have hr := getElem?_of_pane? hp
  have panes := congrArg Layout.panes layout
  have hn : n ≠ 0 := pane_zero_live orders hp (.inl (by rcases phase with h | h <;> simp [h]))
  obtain ⟨-, -, -, cMem, -, -, nMem, -, rApart, rMem⟩ := id orders
  refine ⟨ordersKept_of_record orders hr panes ?_ (absurd · hn) ?_ ?_ ?_ ?_, quotaKept_of_record quota hr panes ?_⟩
  · rintro _ _ _ ⟨⟩
  · rw [layout]
    refine .stays ((cMem n).trans ?_)
    rw [inPhase_iff hp, iff_false_right (recordIn_none _)]
    rcases phase with h | h <;> simp [h]
  · rw [layout]
    refine .stays ((nMem n).trans ?_)
    rw [inPhase_iff hp, iff_false_right (recordIn_none _)]
    rcases phase with h | h <;> simp [h]
  · rw [layout]; exact nodup_without rApart n
  · intro k
    rw [layout]
    by_cases hk : k = n <;> simp [mem_without, hk, recordIn_none]
  · simp [ownedBy]

/-- A LIVE pane of a master becomes CLOSING (R20, R29). -/
theorem layoutKept_of_closing {s t : State} {n : Nat} {p q : Pane} (kept : LayoutKept s) (hp : s.pane? n = some p)
    (phase : p.phase = .live) (hn : n ≠ 0)
    (layout : t.layout =
      { s.layout with panes := s.layout.panes.set n (some q), nextOrder := without n s.layout.nextOrder })
    (closing : q.phase = .closing) (cls : q.cls = p.cls) (owner : q.owner = p.owner) : LayoutKept t := by
  obtain ⟨orders, quota⟩ := kept
  have hr := getElem?_of_pane? hp
  have panes := congrArg Layout.panes layout
  obtain ⟨-, -, -, cMem, -, -, -, -, rApart, rMem⟩ := id orders
  refine ⟨ordersKept_of_record orders hr panes ?_ (absurd · hn) ?_ ?_ ?_ ?_, quotaKept_of_record quota hr panes ?_⟩
  · rintro _ ⟨⟩ _ ⟨⟩; exact cls
  · rw [layout]
    exact .stays ((cMem n).trans (by simp [inPhase_iff hp, recordIn_some, phase, closing]))
  · rw [layout]
    exact .leaves hn (by simp [recordIn_some, closing])
  · rw [layout]; exact rApart
  · intro k
    have := rMem n
    rw [layout]
    by_cases hk : k = n
    · subst hk; simp [this, inPhase_iff hp, recordIn_some, phase, closing]
    · simp [hk]
  · simp [ownedBy, owner]

/-- A PREPARING pane becomes READY, last of the ready list (R11). -/
theorem layoutKept_of_ready {s t : State} {n : Nat} {p q : Pane} (kept : LayoutKept s) (hp : s.pane? n = some p)
    (phase : p.phase = .preparing)
    (layout : t.layout =
      { s.layout with panes := s.layout.panes.set n (some q), ready := s.layout.ready ++ [n] })
    (ready : q.phase = .ready) (cls : q.cls = p.cls) (owner : q.owner = p.owner) : LayoutKept t := by
  obtain ⟨orders, quota⟩ := kept
  have hr := getElem?_of_pane? hp
  have panes := congrArg Layout.panes layout
  have hn : n ≠ 0 := pane_zero_live orders hp (.inl (by simp [phase]))
  obtain ⟨-, -, -, cMem, -, -, nMem, -, rApart, rMem⟩ := id orders
  have fresh : n ∉ s.layout.ready := by simp [rMem, inPhase_iff hp, phase]
  refine ⟨ordersKept_of_record orders hr panes ?_ (absurd · hn) ?_ ?_ ?_ ?_, quotaKept_of_record quota hr panes ?_⟩
  · rintro _ ⟨⟩ _ ⟨⟩; exact cls
  · rw [layout]
    exact .stays ((cMem n).trans (by simp [inPhase_iff hp, recordIn_some, phase, ready]))
  · rw [layout]
    exact .stays ((nMem n).trans (by simp [inPhase_iff hp, recordIn_some, phase, ready]))
  · rw [layout]
    exact List.nodup_append.2 ⟨rApart, by simp, fun k hk j hj h => fresh (List.mem_singleton.1 hj ▸ h ▸ hk)⟩
  · intro k
    rw [layout]
    by_cases hk : k = n <;> simp [hk, recordIn_some, ready]
  · simp [ownedBy, owner]

/-- A FREE record is taken by a PREPARING pane of a master within its quota (R3, R9). -/
theorem layoutKept_of_claimed {s t : State} {m : Master} {n : Nat} {q : Pane} (kept : LayoutKept s) (hn : n ≠ 0)
    (free : s.layout.panes[n]? = some none)
    (layout : t.layout = { s.layout with panes := s.layout.panes.set n (some q) })
    (phase : q.phase = .preparing) (owner : q.owner = masterOwner m)
    (quota : holds (masterOwner m) s < quotaOf m) : LayoutKept t := by
  obtain ⟨orders, quotas⟩ := kept
  have panes : t.layout.panes = s.layout.panes.set n (some q) := congrArg Layout.panes layout
  have old : s.pane? n = none := by simp [State.pane?, free]
  have outside : ∀ phases, ¬InPhase phases s n := fun phases => by simp [InPhase, old]
  obtain ⟨-, -, -, cMem, -, -, nMem, -, rApart, rMem⟩ := id orders
  refine ⟨ordersKept_of_record orders free panes ?_ (absurd · hn) ?_ ?_ ?_ ?_, ?_⟩
  · rintro _ ⟨⟩
  · rw [layout]
    exact .stays ((cMem n).trans (by simp [outside, recordIn_some, phase]))
  · rw [layout]
    exact .stays ((nMem n).trans (by simp [outside, recordIn_some, phase]))
  · rw [layout]; exact rApart
  · intro k
    have := rMem n
    rw [layout]
    by_cases hk : k = n
    · subst hk; simp [this, outside, recordIn_some, phase]
    · simp [hk]
  · have count := fun o => countP_set_record free o (some q)
    rw [← panes] at count
    have tablet := count .tablet
    have vehicle := count .vehicle
    obtain ⟨h4, h3⟩ := quotas
    simp only [← holds_eq, ownedBy, owner, Option.any_none, Option.any_some, Bool.toNat_false] at tablet vehicle
    have other : (Owner.tablet == Owner.vehicle) = false ∧ (Owner.vehicle == Owner.tablet) = false := by decide
    cases m <;> simp [masterOwner, quotaOf, other] at tablet vehicle quota <;> exact ⟨by omega, by omega⟩

/-- The pending order gets another order of its panes (R18). -/
theorem layoutKept_of_reordered {s t : State} {order : List Nat} (kept : LayoutKept s)
    (layout : t.layout = { s.layout with nextOrder := order }) (same : order.Perm s.layout.nextOrder)
    (tiers : Tiered s order) : LayoutKept t := by
  obtain ⟨⟨eight, pane0, cApart, cMem, cTiers, nApart, nMem, -, rApart, rMem⟩, quota⟩ := kept
  have panes : ∀ k, t.pane? k = s.pane? k := pane?_congr (by rw [layout])
  have phase : ∀ phases k, InPhase phases t k ↔ InPhase phases s k := fun phases k => by simp [InPhase, panes]
  have classes : ∀ l, Tiered s l → Tiered t l := fun l h =>
    tiered_of_classes h fun k _ p hp => ⟨p, (panes k).trans hp, rfl⟩
  refine ⟨⟨?_, ?_, ?_, ?_, ?_, ?_, ?_, ?_, ?_, ?_⟩, ?_⟩
  · rw [layout]; exact eight
  · simpa only [panes] using pane0
  · rw [layout]; exact cApart
  · simpa only [phase, layout] using cMem
  · rw [layout]; exact classes _ cTiers
  · rw [layout]; exact same.nodup_iff.2 nApart
  · intro k
    rw [phase, ← nMem, layout]
    exact same.mem_iff
  · rw [layout]; exact classes _ tiers
  · rw [layout]; exact rApart
  · simpa only [phase, layout] using rMem
  · simpa only [QuotaKept, holds_eq, layout] using quota

end Sys2Proof.Proofs

/-! ## What the bodies of the commands leave of the layout -/

namespace Sys2Proof.Proofs

open Sys2Proof.Machine Sys2Proof.Safety

/-! ### Requests that leave the layout as it is -/

@[simp] theorem doFocus_layout (m : Master) (n : Nat) (s : State) : (doFocus m n s).layout = s.layout := by
  unfold doFocus
  split
  · simp
  · split
    · split <;> simp
    · simp

@[simp] theorem doKeyAck_layout (m : Master) (s : State) : (doKeyAck m s).layout = s.layout := by
  unfold doKeyAck
  simp only
  split <;> simp

@[simp] theorem doRepeatSet_layout (m : Master) (enabled delay period : Nat) (s : State) :
    (doRepeatSet m enabled delay period s).layout = s.layout := by
  unfold doRepeatSet
  simp only
  split
  · simp
  · split <;> simp

@[simp] theorem doWriteBegin_layout (n buffer : Nat) (rect : Rect) (s : State) :
    (doWriteBegin n buffer rect s).layout = s.layout := by
  unfold doWriteBegin
  simp only
  split <;> simp

@[simp] theorem doFillRect_layout (n buffer : Nat) (rect : Rect) (colour : Nat) (s : State) :
    (doFillRect n buffer rect colour s).layout = s.layout := by
  unfold doFillRect
  simp only
  split <;> simp

@[simp] theorem doTextPut_layout (n buffer row column : Nat) (cells : List TextCell) (s : State) :
    (doTextPut n buffer row column cells s).layout = s.layout := by
  unfold doTextPut
  simp only
  split <;> simp

@[simp] theorem doTextData_layout (n buffer row column : Nat) (attr : Byte) (codes : List Byte) (s : State) :
    (doTextData n buffer row column attr codes s).layout = s.layout := by
  unfold doTextData
  split <;> simp

@[simp] theorem doTextClear_layout (m : Master) (n buffer : Nat) (s : State) :
    (doTextClear m n buffer s).layout = s.layout := by
  unfold doTextClear
  split <;> simp

@[simp] theorem doInputAck_layout (m : Master) (n : Nat) (s : State) : (doInputAck m n s).layout = s.layout := by
  unfold doInputAck
  split <;> simp

@[simp] theorem doInputMode_layout (m : Master) (n mode sense time : Nat) (s : State) :
    (doInputMode m n mode sense time s).layout = s.layout := by
  unfold doInputMode
  simp only
  split <;> simp

@[simp] theorem doQueryInputs_layout (m : Master) (input : Option Nat) (s : State) :
    (doQueryInputs m input s).layout = s.layout := by
  unfold doQueryInputs
  simp only
  split
  · simp
  · split <;> simp

@[simp] theorem doLineSet_layout (m : Master) (n direction latch : Nat) (s : State) :
    (doLineSet m n direction latch s).layout = s.layout := by
  unfold doLineSet
  simp only
  split_ifs <;> simp

@[simp] theorem doQueryLight_layout (m : Master) (page : Option Nat) (s : State) :
    (doQueryLight m page s).layout = s.layout := by
  unfold doQueryLight
  simp only
  split
  · simp
  · split <;> simp

@[simp] theorem doDarkCab_layout (m : Master) (setting : Nat) (s : State) :
    (doDarkCab m setting s).layout = s.layout := by
  unfold doDarkCab
  cases m with
  | tablet => simp
  | vehicle => dsimp only; split <;> simp

@[simp] theorem doParkDelay_layout (m : Master) (delay : Nat) (s : State) :
    (doParkDelay m delay s).layout = s.layout := by
  cases m <;> simp [doParkDelay]

@[simp] theorem doWake_layout (m : Master) (s : State) : (doWake m s).layout = s.layout := by
  unfold doWake
  cases m with
  | tablet => simp
  | vehicle => dsimp only; split <;> simp

@[simp] theorem doScanSet_layout (m : Master) (press release : Nat) (s : State) :
    (doScanSet m press release s).layout = s.layout := by
  cases m <;> simp [doScanSet]

/-! ### Events that leave the layout as it is -/

theorem linkTakes_layout {hello : Bool} {s t : State} (h : linkTakes hello s = some t) :
    t.layout = s.layout := by
  unfold linkTakes at h
  split at h
  · cases h
  · split at h <;> cases h
    rfl
  · cases h; rfl
  · split at h <;> cases h
    simp

@[simp] theorem takeIntake_layout (hello : Bool) (intake : Intake) (s : State) :
    (takeIntake hello intake s).layout = s.layout := by
  unfold takeIntake
  cases h : linkTakes hello s with
  | none => rfl
  | some t =>
    rw [← linkTakes_layout h]
    cases intake <;> simp

@[simp] theorem restartScan_layout (s : State) : (restartScan s).layout = s.layout := by simp [restartScan]

@[simp] theorem restartConvert_layout (s : State) : (restartConvert s).layout = s.layout := by simp [restartConvert]

@[simp] theorem vehicleHeard_layout (s : State) : (vehicleHeard s).layout = s.layout := by
  unfold vehicleHeard
  simp only
  split <;> simp

@[simp] theorem takeFrame_layout (f : CanFrame) (s : State) : (takeFrame f s).layout = s.layout := by
  unfold takeFrame
  split_ifs <;> simp

@[simp] theorem vehicleSilenceExpires_layout (s : State) : (vehicleSilenceExpires s).layout = s.layout := by
  unfold vehicleSilenceExpires
  split <;> simp

@[simp] theorem vehicleFrameLeaves_layout (s : State) : (vehicleFrameLeaves s).layout = s.layout := by
  unfold vehicleFrameLeaves
  split <;> simp

@[simp] theorem dockPacketLeaves_layout (s : State) : (dockPacketLeaves s).layout = s.layout := by
  unfold dockPacketLeaves
  split <;> simp

@[simp] theorem sendExpires_layout (s : State) : (sendExpires s).layout = s.layout := by
  unfold sendExpires
  split <;> simp

@[simp] theorem takeChange_layout (s : State) (c : KeyChange) : (takeChange s c).layout = s.layout := by
  cases c <;> simp [takeChange]

@[simp] theorem takeScan_layout (raw : BitVec 128) (s : State) : (takeScan raw s).layout = s.layout := by
  unfold takeScan
  split
  · rfl
  · rw [foldl_same State.layout takeChange takeChange_layout]

@[simp] theorem takeCapture_layout (raw : BitVec 128) (s : State) : (takeCapture raw s).layout = s.layout := by
  unfold takeCapture
  split
  · rfl
  · rw [foldl_same State.layout (fun s c => capturedDown c s) fun t c => by simp]

@[simp] theorem takeWakeSample_layout (senses : BitVec 16) (s : State) :
    (takeWakeSample senses s).layout = s.layout := by
  unfold takeWakeSample
  split_ifs <;> simp

@[simp] theorem repeatExpires_layout (s : State) : (repeatExpires s).layout = s.layout := by
  unfold repeatExpires
  split
  · rfl
  · simp only
    split <;> simp

@[simp] theorem qualifiedEdge_layout (n : Nat) (level : Bool) (i : DiscreteInput) (s : State) :
    (qualifiedEdge n level i s).layout = s.layout := by
  unfold qualifiedEdge handEdge
  simp only [List.foldl_cons, List.foldl_nil]
  split_ifs <;> simp

@[simp] theorem sampleInput_layout (s : State) (sample : Bool × Nat) :
    (sampleInput s sample).layout = s.layout := by
  unfold sampleInput
  split
  · split_ifs <;> simp
  · rfl

@[simp] theorem takeSample_layout (pins : InputLevels) (s : State) : (takeSample pins s).layout = s.layout := by
  rw [takeSample, foldl_same State.layout sampleInput sampleInput_layout]
  simp

@[simp] theorem countdownExpires_layout (s : State) : (countdownExpires s).layout = s.layout := by
  unfold countdownExpires
  split <;> simp

@[simp] theorem scanCompletes_layout (ambient supply panelTemp : Nat) (s : State) :
    (scanCompletes ambient supply panelTemp s).layout = s.layout := by
  unfold scanCompletes
  split <;> simp

end Sys2Proof.Proofs

/-! ## The frame boundary keeps the layout (R17, R22 to R24) -/

namespace Sys2Proof.Proofs

open Sys2Proof.Machine Sys2Proof.Safety

/-! ### One record at a boundary -/

/-- A pane after a boundary is of the class and the owner that it was. -/
theorem boundaryPane_same {s : State} {n : Nat} {p q : Pane} (h : boundaryPane s n p = some q) :
    q.cls = p.cls ∧ q.owner = p.owner := by
  cases hp : p.phase <;> simp only [boundaryPane, hp] at h
  case preparing => simp [← Option.some.inj h]
  case ready => split at h <;> simp [← Option.some.inj h]
  case live => simp [← Option.some.inj h]
  case closing => cases h

/-- The phase of a pane after a boundary, if the ready list holds it exactly when it is READY (R22, R23). -/
theorem boundaryPane_phase {s : State} {n : Nat} {p : Pane} (ready : n ∈ s.layout.ready ↔ p.phase = .ready)
    (phases : List PanePhase) :
    (∃ q, boundaryPane s n p = some q ∧ q.phase ∈ phases) ↔
      (p.phase = .preparing ∧ .preparing ∈ phases) ∨ (p.phase ∈ [.ready, .live] ∧ .live ∈ phases) := by
  cases hp : p.phase <;> simp [boundaryPane, hp, ready]

/-- The boundary makes no owner hold more panes. -/
theorem holds_boundary_le {s t : State} (o : Owner)
    (panes : t.layout.panes = s.layout.panes.zipIdx.map fun (r, n) => r.bind (boundaryPane s n)) :
    holds o t ≤ holds o s := by
  have numbered : s.layout.panes = s.layout.panes.zipIdx.map Prod.fst := by simp
  rw [holds_eq, holds_eq, panes, List.countP_map]
  conv_rhs => rw [numbered, List.countP_map]
  refine List.countP_mono_left fun (r, n) _ h => ?_
  simp only [Function.comp_apply, ownedBy] at h ⊢
  cases r with
  | none => simp at h
  | some p =>
    cases hq : boundaryPane s n p with
    | none => simp [hq] at h
    | some q => simpa [hq, (boundaryPane_same hq).2] using h

/-! ### The table and the orders at a boundary -/

theorem ready_phase {s : State} (orders : OrdersKept s) {n : Nat} (h : n ∈ s.layout.ready) :
    ∃ p, s.pane? n = some p ∧ p.phase = .ready := by
  obtain ⟨-, -, -, -, -, -, -, -, -, rMem⟩ := orders
  simpa [InPhase] using (rMem n).1 h

theorem ready_lt {s : State} (orders : OrdersKept s) (n : Nat) (h : n ∈ s.layout.ready) : n < 8 := by
  obtain ⟨p, hp, -⟩ := ready_phase orders h
  exact orders.1 ▸ lt_length_of_pane? hp

theorem takeBoundary_panes {s : State} (orders : OrdersKept s) :
    (takeBoundary s).layout.panes = s.layout.panes.zipIdx.map fun (r, n) => r.bind (boundaryPane s n) :=
  (congrArg Layout.panes (takeBoundary_layout s)).trans (boundaryLayout_panes orders.1 (ready_lt orders))

theorem takeBoundary_pane? {s : State} (orders : OrdersKept s) (n : Nat) :
    (takeBoundary s).pane? n = (s.pane? n).bind (boundaryPane s n) := by
  have record := takeBoundary_panes orders
  rw [State.pane?, State.pane?, record, List.getElem?_map, List.getElem?_zipIdx]
  cases s.layout.panes[n]? <;> simp

/-- Which panes a boundary leaves in which states. -/
theorem inPhase_takeBoundary {s : State} (orders : OrdersKept s) (phases : List PanePhase) (n : Nat) :
    InPhase phases (takeBoundary s) n ↔
      (InPhase [.preparing] s n ∧ .preparing ∈ phases) ∨ (InPhase [.ready, .live] s n ∧ .live ∈ phases) := by
  unfold InPhase
  rw [takeBoundary_pane? orders]
  obtain ⟨-, -, -, -, -, -, -, -, -, rMem⟩ := orders
  cases hp : s.pane? n with
  | none => simp
  | some p =>
    have := boundaryPane_phase (s := s) (n := n) (p := p) (by simp [rMem, inPhase_iff hp]) phases
    simpa using this

/-- The panes that are LIVE after a boundary: those of the ready list and those of the pending order. -/
theorem live_takeBoundary {s : State} (orders : OrdersKept s) {phases : List PanePhase} (live : .live ∈ phases)
    (preparing : .preparing ∉ phases) (n : Nat) :
    InPhase phases (takeBoundary s) n ↔ n ∈ s.layout.ready ++ s.layout.nextOrder := by
  rw [inPhase_takeBoundary orders, List.mem_append]
  obtain ⟨-, -, -, -, -, -, nMem, -, -, rMem⟩ := orders
  rw [rMem, nMem]
  cases hp : s.pane? n <;> simp [InPhase, hp, live, preparing]

/-- A pane that is LIVE after a boundary is of the class that it was. -/
theorem takeBoundary_cls {s : State} (orders : OrdersKept s) {n : Nat} {p : Pane} (hp : s.pane? n = some p)
    (h : n ∈ s.layout.ready ++ s.layout.nextOrder) : ∃ q, (takeBoundary s).pane? n = some q ∧ q.cls = p.cls := by
  obtain ⟨q, hq, -⟩ := (live_takeBoundary orders (phases := [.live]) (by simp) (by simp) n).2 h
  refine ⟨q, hq, (boundaryPane_same (s := s) (n := n) ?_).1⟩
  simpa [takeBoundary_pane? orders, hp] using hq

/-- The pending order after a boundary has the panes of the ready list and its own, in their tiers (O23). -/
theorem takeBoundary_nextOrder {s : State} (running : s.scanOut.running = true) (orders : OrdersKept s) :
    (takeBoundary s).layout.nextOrder.Perm (s.layout.ready ++ s.layout.nextOrder) ∧
      Tiered (takeBoundary s) (takeBoundary s).layout.nextOrder ∧
      (takeBoundary s).layout.current = (takeBoundary s).layout.nextOrder := by
  obtain ⟨-, ⟨p0, hp0, live0, cls0, -⟩, -, -, -, -, -, ⟨alerts, normals, order, hAlerts, hNormals⟩, rApart, -⟩ :=
    id orders
  have zeroAlerts : 0 ∉ alerts := fun h => by
    obtain ⟨p, hp, hc⟩ := hAlerts 0 h
    obtain rfl : p0 = p := Option.some.inj (hp0.symm.trans hp)
    simp [cls0] at hc
  have zeroReady : 0 ∉ s.layout.ready := fun h => by
    obtain ⟨p, hp, hr⟩ := ready_phase orders h
    obtain rfl : p0 = p := Option.some.inj (hp0.symm.trans hp)
    simp [live0] at hr
  obtain ⟨t, ht, newOrder, current⟩ := boundaryInsertsReadyPanesOnTop s alerts normals running order zeroAlerts rApart
    zeroReady fun n hn => ready_phase orders hn
  obtain rfl : takeBoundary s = t := by simpa [exec_frameBoundary running] using ht
  have readyClass : ∀ {n} b, n ∈ s.layout.ready → ((s.pane? n).any fun p => p.cls == .alert) = b →
      ∃ p, (takeBoundary s).pane? n = some p ∧ (p.cls == .alert) = b := fun b hn hb => by
    obtain ⟨p, hp, -⟩ := ready_phase orders hn
    obtain ⟨q, hq, hc⟩ := takeBoundary_cls orders hp (by simp [hn])
    exact ⟨q, hq, by simpa [hp, hc] using hb⟩
  have oldClass : ∀ {n c}, n ∈ s.layout.nextOrder → (∃ p, s.pane? n = some p ∧ p.cls = c) →
      ∃ p, (takeBoundary s).pane? n = some p ∧ p.cls = c := fun hn ⟨p, hp, hc⟩ => by
    obtain ⟨q, hq, hqc⟩ := takeBoundary_cls orders hp (by simp [hn])
    exact ⟨q, hq, hqc.trans hc⟩
  refine ⟨?_, ⟨_, _, newOrder, ?_, ?_⟩, current⟩
  · rw [newOrder, order, List.perm_iff_count]
    intro n
    have halves :=
      (List.filter_append_perm (fun k => (s.pane? k).any fun p => p.cls == .alert) s.layout.ready).count_eq n
    simp only [List.count_append, List.count_reverse, List.count_cons] at halves ⊢
    omega
  · simp only [List.mem_append, List.mem_reverse, List.mem_filter]
    rintro n (⟨hn, ha⟩ | hn)
    · simpa using readyClass true hn ha
    · exact oldClass (by simp [order, hn]) (hAlerts n hn)
  · simp only [List.mem_append, List.mem_reverse, List.mem_filter]
    rintro n (⟨hn, ha⟩ | hn)
    · refine ⟨fun h => zeroReady (h ▸ hn), ?_⟩
      obtain ⟨p, hp, hc⟩ := readyClass false hn (by simpa using ha)
      exact ⟨p, hp, by cases h : p.cls <;> simp_all⟩
    · exact ⟨(hNormals n hn).1, oldClass (by simp [order, hn]) (hNormals n hn).2⟩

/-- A boundary keeps the layout. -/
theorem takeBoundary_keeps {s : State} (running : s.scanOut.running = true) (kept : LayoutKept s) :
    LayoutKept (takeBoundary s) := by
  obtain ⟨orders, tablet, vehicle⟩ := kept
  obtain ⟨perm, tiers, current⟩ := takeBoundary_nextOrder running orders
  have panes := takeBoundary_panes orders
  obtain ⟨eight, ⟨p0, hp0, live0, cls0, owner0⟩, -, -, -, nApart, nMem, -, rApart, rMem⟩ := id orders
  have apart : (s.layout.ready ++ s.layout.nextOrder).Nodup := List.nodup_append.2 ⟨rApart, nApart, by
    rintro n hr _ hn rfl
    obtain ⟨p, hp, hphase⟩ := ready_phase orders hr
    simp [nMem, inPhase_iff hp, hphase] at hn⟩
  have members : ∀ phases, .live ∈ phases → .preparing ∉ phases → ∀ n,
      n ∈ (takeBoundary s).layout.nextOrder ↔ InPhase phases (takeBoundary s) n := fun phases hl hp n =>
    perm.mem_iff.trans (live_takeBoundary orders hl hp n).symm
  have readyEmpty : (takeBoundary s).layout.ready = [] := by
    rw [takeBoundary_layout, boundaryLayout_eq]
    simp
  refine ⟨⟨by simp [panes, eight], ?_, ?_, ?_, ?_, perm.nodup_iff.2 apart, members _ (by simp) (by simp), tiers,
    by simp [readyEmpty], fun n => by simp [readyEmpty, inPhase_takeBoundary orders]⟩,
    (holds_boundary_le _ panes).trans tablet, (holds_boundary_le _ panes).trans vehicle⟩
  · obtain ⟨q, hq, hphase⟩ := (live_takeBoundary orders (phases := [.live]) (by simp) (by simp) 0).2
      (List.mem_append_right _ ((nMem 0).2 ((inPhase_iff hp0 _).2 (by simp [live0]))))
    obtain ⟨hcls, howner⟩ : q.cls = p0.cls ∧ q.owner = p0.owner :=
      boundaryPane_same (s := s) (n := 0) (by simpa [takeBoundary_pane? orders, hp0] using hq)
    exact ⟨q, hq, by simpa using hphase, hcls.trans cls0, howner.trans owner0⟩
  · rw [current]; exact perm.nodup_iff.2 apart
  · rw [current]; exact members _ (by simp) (by simp)
  · rw [current]; exact tiers

end Sys2Proof.Proofs

/-! ## Every command keeps the layout (O59) -/

namespace Sys2Proof.Proofs

open Sys2Proof.Machine Sys2Proof.Safety

/-! ### Fills and grants -/

theorem fillDone_keeps : Keeps fillDone := by
  intro s kept
  unfold fillDone
  split
  · next e rest hfills =>
    cases hp : s.pane? e.pane with
    | none => exact layoutKept_congr rfl kept
    | some p =>
      dsimp only
      split
      · next hphase => exact layoutKept_of_ready kept hp hphase rfl rfl rfl rfl
      · exact layoutKept_congr rfl kept
  · exact kept

theorem finishWork_keeps (w : Writer) : Keeps (finishWork w) := by
  cases w with
  | fill => exact fillDone_keeps
  | drain =>
    refine keeps_of_layout fun s => ?_
    simp only [finishWork, drainDone]
    split <;> simp
  | text source => exact keeps_of_layout fun s => by cases source <;> rfl

theorem grantWrite_keeps (w : Writer) : Keeps (grantWrite w) := by
  intro s kept
  unfold grantWrite
  dsimp only
  split
  · split
    · exact layoutKept_congr (by simp) kept
    · exact finishWork_keeps w _ (layoutKept_congr (by simp) kept)
  · exact kept

theorem idle_keeps : Keeps idle := by
  intro s kept
  rw [idle_eq]
  split
  · cases s.nextWriter with
    | none => exact layoutKept_congr (by simp) kept
    | some w => exact layoutKept_congr (by simp) (grantWrite_keeps w s kept)
  · exact kept

theorem completeWork_keeps {w : Writer} {s t : State} (kept : LayoutKept s) (h : completeWork w s = .next t) :
    LayoutKept t := by
  obtain ⟨-, rfl⟩ | ⟨-, cells, -, rfl⟩ := completeWork_next h
  · exact kept
  · exact finishWork_keeps w _ (layoutKept_congr rfl kept)

/-! ### Panes that go (R19, R20, R29, R161) -/

@[simp] theorem freePane_layout (n : Nat) (p : Pane) (s : State) :
    (freePane n p s).layout =
      { s.layout with panes := s.layout.panes.set n none, ready := without n s.layout.ready } := by
  unfold freePane
  dsimp only
  split <;> simp

@[simp] theorem closePane_layout (n : Nat) (p : Pane) (s : State) :
    (closePane n p s).layout =
      { s.layout with
        panes := s.layout.panes.set n (some { p with phase := .closing, staged := PendingPart.absent })
        nextOrder := without n s.layout.nextOrder } := rfl

theorem freePane_keeps {n : Nat} {p : Pane} {s : State} (kept : LayoutKept s) (hp : s.pane? n = some p)
    (phase : p.phase = .preparing ∨ p.phase = .ready) : LayoutKept (freePane n p s) :=
  layoutKept_of_freed kept hp phase (freePane_layout n p s)

theorem closePane_keeps {n : Nat} {p : Pane} {s : State} (kept : LayoutKept s) (hp : s.pane? n = some p)
    (phase : p.phase = .live) (hn : n ≠ 0) : LayoutKept (closePane n p s) :=
  layoutKept_of_closing kept hp phase hn (closePane_layout n p s) rfl rfl rfl

theorem departPane_keeps (n : Nat) : Keeps fun s => departPane s n := by
  intro s kept
  change LayoutKept (departPane s n)
  unfold departPane
  cases hp : s.pane? n with
  | none => exact kept
  | some p =>
    by_cases howner : p.owner = .tablet
    · dsimp only
      rw [if_pos howner]
      cases hphase : p.phase
      case preparing => exact freePane_keeps kept hp (.inl hphase)
      case ready => exact freePane_keeps kept hp (.inr hphase)
      case live => exact closePane_keeps kept hp hphase (pane_zero_live kept.1 hp (.inr (by simp [howner])))
      case closing => exact kept
    · dsimp only
      rwa [if_neg howner]

theorem departPanes_keeps : Keeps departPanes := fun s kept =>
  foldl_keeps departPane_keeps paneNumbers _ (layoutKept_congr (by simp) kept)

/-- What a departure does to the layout is what it does to the panes. -/
theorem departure_layout (s : State) : (departure s).layout = (departPanes (portDeparture s)).layout := by
  have closings := fun l t => foldl_same State.layout takeClosing (fun u n => by simp) l t
  simp [departure, closings]

theorem departure_keeps : Keeps departure := fun s kept =>
  layoutKept_congr (departure_layout s) (departPanes_keeps _ (layoutKept_congr (by simp) kept))

theorem helloArrives_keeps (grace : Nat) : Keeps (helloArrives grace) := by
  intro s kept
  unfold helloArrives
  split
  · exact layoutKept_congr (by simp) kept
  · split
    · exact layoutKept_congr (by simp) (departure_keeps s kept)
    · exact kept
  · exact kept
  · exact kept

theorem helloTaken_keeps (grace : Nat) : Keeps (helloTaken grace) := by
  intro s kept
  unfold helloTaken
  split
  · exact layoutKept_congr (by simp) (departure_keeps s kept)
  · exact kept

theorem takePacket_keeps (bytes : List Byte) : Keeps (takePacket bytes) := by
  intro s kept
  unfold takePacket
  split
  · exact kept
  · split
    · split
      · exact layoutKept_congr (by simp) kept
      · exact helloArrives_keeps _ s kept
    · exact layoutKept_congr (by simp) kept

theorem graceExpires_keeps : Keeps graceExpires := by
  intro s kept
  unfold graceExpires
  split
  · exact departure_keeps s kept
  · exact kept

theorem restartDock_keeps : Keeps restartDock := by
  intro s kept
  unfold restartDock
  split
  · exact departure_keeps s kept
  · exact kept

theorem restartUnit_keeps (unit : Nat) (m : Master) (units : Nat) {body : State → State} (h : Keeps body) :
    Keeps (restartUnit unit m units body) := by
  intro s kept
  unfold restartUnit
  split
  · cases m with
    | tablet => exact layoutKept_congr (by simp) kept
    | vehicle =>
      dsimp only
      split
      · exact layoutKept_congr (by simp) kept
      · split
        · split <;> exact layoutKept_congr (by simp) (h s kept)
        · exact kept
  · exact kept

/-! ### The pane requests -/

theorem reply_keeps {m : Master} {r : Request} {result : Result} {values : List Byte} {s : State}
    (kept : LayoutKept s) : LayoutKept (reply m r result values s) := layoutKept_congr (by simp) kept

/-- A CLAIM that passes the checks of R8 takes a FREE record, not record 0, within the quota. -/
theorem claimCheck_ok_imp {m : Master} {ops : ClaimOps} {s : State} {n : Nat} {run : Run}
    (h : s.claimCheck m ops = .ok (n, run)) :
    1 ≤ n ∧ s.layout.panes[n]? = some none ∧ holds (masterOwner m) s < quotaOf m := by
  unfold State.claimCheck at h
  split at h
  · cases h
  · split at h
    · cases h
    · split at h
      · cases h
      · next quota =>
        rw [paneQuota_eq, panesOf_eq_holds] at quota
        split at h
        · cases h
        · cases h
        · next found =>
          cases h
          have member := List.mem_of_find?_eq_some found
          have free := List.find?_some found
          exact ⟨by simp at member; omega, by simpa using free, by omega⟩

theorem doClaim_keeps (m : Master) (ops : ClaimOps) : Keeps (doClaim m ops) := by
  intro s kept
  unfold doClaim
  cases check : s.claimCheck m ops with
  | error r => exact reply_keeps kept
  | ok found =>
    obtain ⟨n, run⟩ := found
    obtain ⟨h1, free, quota⟩ := claimCheck_ok_imp check
    exact reply_keeps (layoutKept_of_claimed kept (by omega) free rfl rfl rfl quota)

theorem doRelease_keeps (m : Master) (n : Nat) : Keeps (doRelease m n) := by
  intro s kept
  unfold doRelease
  cases check : s.paneCheck m n with
  | error r => exact reply_keeps kept
  | ok p =>
    obtain ⟨hp, hn, hclosing, -⟩ := owned_of_paneCheck_ok check
    dsimp only
    split
    · next hlive => exact layoutKept_congr (by simp) (closePane_keeps kept hp hlive hn)
    · next hlive =>
      refine layoutKept_congr (by simp) (freePane_keeps kept hp ?_)
      cases h : p.phase <;> simp_all

/-- What is staged for a pane changes nothing that the invariant speaks of. -/
theorem stage_keeps {n : Nat} {p : Pane} {part : PendingPart} {s : State} (kept : LayoutKept s)
    (hp : s.pane? n = some p) : LayoutKept (stage n p part s) :=
  layoutKept_of_same kept hp rfl rfl rfl rfl

theorem doMove_keeps (m : Master) (n : Nat) (w : Window) : Keeps (doMove m n w) := by
  intro s kept
  unfold doMove
  cases check : s.paneCheck m n with
  | error r => exact reply_keeps kept
  | ok p =>
    dsimp only
    split
    · exact reply_keeps kept
    · exact reply_keeps (stage_keeps kept (owned_of_paneCheck_ok check).1)

theorem doScroll_keeps (m : Master) (n x y : Nat) : Keeps (doScroll m n x y) := by
  intro s kept
  unfold doScroll
  cases check : s.paneCheck m n with
  | error r => exact reply_keeps kept
  | ok p => exact reply_keeps (stage_keeps kept (owned_of_paneCheck_ok check).1)

/-- SHOW and HIDE act on the record that the number names. -/
theorem pane?_of_visibilityCheck_ok {m : Master} {n : Nat} {p : Pane} {s : State}
    (h : s.visibilityCheck m n = .ok p) : s.pane? n = some p := by
  unfold State.visibilityCheck at h
  split at h
  · cases h
  · split at h
    · cases m with
      | tablet => cases h
      | vehicle => cases h; assumption
    · exact (owned_of_paneCheck_ok h).1

theorem doVisible_keeps (m : Master) (r : Request) (n : Nat) (shown : Bool) : Keeps (doVisible m r n shown) := by
  intro s kept
  unfold doVisible
  cases check : s.visibilityCheck m n with
  | error r => exact reply_keeps kept
  | ok p =>
    dsimp only
    split
    · exact reply_keeps kept
    · exact reply_keeps (stage_keeps kept (pane?_of_visibilityCheck_ok check))

theorem doFlip_keeps (m : Master) (n : Nat) : Keeps (doFlip m n) := by
  intro s kept
  unfold doFlip
  cases check : s.paneCheck m n with
  | error r => exact reply_keeps kept
  | ok p =>
    dsimp only
    split
    · exact reply_keeps kept
    · split
      · exact reply_keeps kept
      · exact reply_keeps (stage_keeps kept (owned_of_paneCheck_ok check).1)

/-- RAISE and LOWER keep the layout, if the order that they make has the same panes in their tiers. -/
theorem doReorder_keeps (m : Master) (r : Request) (n : Nat) (reorder : List Nat → List Nat)
    (good : ∀ s p, LayoutKept s → s.pane? n = some p → n ≠ 0 → p.cls = .normal → p.phase = .live →
      (reorder s.layout.nextOrder).Perm s.layout.nextOrder ∧ Tiered s (reorder s.layout.nextOrder)) :
    Keeps (doReorder m r n reorder) := by
  intro s kept
  unfold doReorder
  cases check : s.paneCheck m n with
  | error r => exact reply_keeps kept
  | ok p =>
    dsimp only
    split
    · exact reply_keeps kept
    · next hcls =>
      split
      · next hlive =>
        obtain ⟨hp, hn, -⟩ := owned_of_paneCheck_ok check
        obtain ⟨same, tiers⟩ := good s p kept hp hn (by cases h : p.cls <;> simp_all) hlive
        exact layoutKept_of_reordered kept (by simp) same tiers
      · exact reply_keeps kept

/-- A LIVE NORMAL pane in a pending order with its tiers: what is above it and below it, and its tier. -/
theorem normal_in_tier {s : State} {n : Nat} {p : Pane} (kept : LayoutKept s) (hp : s.pane? n = some p) (hn : n ≠ 0)
    (hcls : p.cls = .normal) (hlive : p.phase = .live) :
    ∃ alerts normals, s.layout.nextOrder = alerts ++ 0 :: normals ∧ 0 ∉ alerts ∧ n ∉ alerts ∧ n ∈ normals ∧
      normals.Nodup ∧ ∀ order, order.Perm normals → Tiered s (alerts ++ 0 :: order) := by
  obtain ⟨-, -, -, -, -, nApart, nMem, ⟨alerts, normals, order, hAlerts, hNormals⟩, -, -⟩ := kept.1
  have inOrder : n ∈ s.layout.nextOrder := (nMem n).2 ((inPhase_iff hp _).2 (by simp [hlive]))
  have notAlert : n ∉ alerts := fun h => by
    obtain ⟨q, hq, hc⟩ := hAlerts n h
    obtain rfl : p = q := Option.some.inj (hp.symm.trans hq)
    simp [hcls] at hc
  rw [order] at nApart inOrder
  obtain ⟨-, rest, disjoint⟩ := List.nodup_append.1 nApart
  refine ⟨alerts, normals, order, fun h => disjoint 0 h 0 (by simp) rfl, notAlert, ?_, (List.nodup_cons.1 rest).2,
    fun l hl => ⟨alerts, l, rfl, hAlerts, fun k hk => hNormals k (hl.mem_iff.1 hk)⟩⟩
  simpa [notAlert, hn] using inOrder

/-- Taken out of its tier and put back in, on top or at the bottom. -/
theorem moved_perm {n : Nat} {l : List Nat} (hn : n ∈ l) (apart : l.Nodup) :
    (n :: l.filter (· != n)).Perm l ∧ (l.filter (· != n) ++ [n]).Perm l := by
  have top : (n :: l.filter (· != n)).Perm l := by
    rw [← apart.erase_eq_filter]
    exact (List.perm_cons_erase hn).symm
  exact ⟨top, List.perm_append_singleton n _ |>.trans top⟩

theorem raise_keeps (m : Master) (n : Nat) :
    Keeps (doReorder m (.raise n) n fun o => insertNormal n (without n o)) :=
  doReorder_keeps m _ n _ fun s p kept hp hn hcls hlive => by
    obtain ⟨alerts, normals, order, h0, hA, hN, apart, tiers⟩ := normal_in_tier kept hp hn hcls hlive
    have moved := (moved_perm hN apart).1
    rw [order, without_tiers hn hA, insertNormal_tiers _ _ _ h0]
    exact ⟨(moved.cons 0).append_left alerts, tiers _ moved⟩

theorem lower_keeps (m : Master) (n : Nat) :
    Keeps (doReorder m (.lower n) n fun o => without n o ++ [n]) :=
  doReorder_keeps m _ n _ fun s p kept hp hn hcls hlive => by
    obtain ⟨alerts, normals, order, h0, hA, hN, apart, tiers⟩ := normal_in_tier kept hp hn hcls hlive
    have moved := (moved_perm hN apart).2
    rw [order, without_tiers hn hA, List.append_assoc, List.cons_append]
    exact ⟨(moved.cons 0).append_left alerts, tiers _ moved⟩

/-! ### Every command -/

/-- The pane table after full reset: pane 0 alone (R2, R31). -/
theorem pane?_afterReset {s : State} (h : s.layout = Layout.afterReset) (n : Nat) :
    s.pane? n = if n = 0 then some statusPane else none := by
  rw [State.pane?, h]
  cases n with
  | zero => rfl
  | succ n =>
    simp only [Layout.afterReset, List.getElem?_cons_succ, List.getElem?_replicate]
    split <;> rfl

/-- The layout after full reset (R2). -/
theorem layoutKept_afterReset {s : State} (h : s.layout = Layout.afterReset) : LayoutKept s := by
  have record := pane?_afterReset h
  have phase : ∀ phases n, InPhase phases s n ↔ n = 0 ∧ .live ∈ phases := fun phases n => by
    by_cases hn : n = 0 <;> simp [InPhase, record, hn, statusPane]
  have tiers : Tiered s [0] := ⟨[], [], rfl, by simp, by simp⟩
  have current : s.layout.current = [0] := by rw [h]; rfl
  have next : s.layout.nextOrder = [0] := by rw [h]; rfl
  have ready : s.layout.ready = [] := by rw [h]; rfl
  refine ⟨⟨by rw [h]; rfl, ⟨statusPane, by simp [record], rfl, rfl, rfl⟩, ?_, ?_, ?_, ?_, ?_, ?_, ?_, ?_⟩, ?_⟩
  · simp [current]
  · simp [current, phase]
  · rwa [current]
  · simp [next]
  · simp [next, phase]
  · rwa [next]
  · simp [ready]
  · simp [ready, phase]
  · simp only [QuotaKept, holds, h]
    decide

theorem taking_keeps {m : Master} {r : Request} {body : State → State} (h : Keeps body) {s t : State}
    (kept : LayoutKept s) (next : taking m r body s = .next t) : LayoutKept t := by
  by_cases turn : Turn m r s
  · rw [taking_of_turn turn] at next
    cases next
    exact h _ (layoutKept_congr (by simp) kept)
  · rw [taking_of_not_turn turn] at next
    cases next
    exact kept

theorem whenRunning_keeps {body : State → State} (h : Keeps body) {s t : State} (kept : LayoutKept s)
    (next : whenRunning body s = .next t) : LayoutKept t := by
  unfold whenRunning at next
  split at next <;> cases next
  · exact h s kept
  · exact kept

theorem exec_keeps {c : Instr} {s t : State} (kept : LayoutKept s) (next : exec c s = .next t) : LayoutKept t := by
  cases c
  case fullReset => cases next; exact layoutKept_afterReset rfl
  case resetRelease => cases next; exact layoutKept_afterReset rfl
  case dockLinkPacketReceived => exact whenRunning_keeps (takePacket_keeps _) kept next
  case hello =>
    change execHello _ s = _ at next
    unfold execHello at next
    split at next
    · exact taking_keeps (helloTaken_keeps _) kept next
    · exact whenRunning_keeps (helloArrives_keeps _) kept next
  case claim => exact taking_keeps (doClaim_keeps _ _) kept next
  case release => exact taking_keeps (doRelease_keeps _ _) kept next
  case move => exact taking_keeps (doMove_keeps _ _ _) kept next
  case scroll => exact taking_keeps (doScroll_keeps _ _ _ _) kept next
  case raise => exact taking_keeps (raise_keeps _ _) kept next
  case lower => exact taking_keeps (lower_keeps _ _) kept next
  case showPane => exact taking_keeps (doVisible_keeps _ _ _ _) kept next
  case hidePane => exact taking_keeps (doVisible_keeps _ _ _ _) kept next
  case flip => exact taking_keeps (doFlip_keeps _ _) kept next
  case restartDockLink => cases next; exact restartUnit_keeps 0 _ _ restartDock_keeps s kept
  case restartScanner =>
    cases next; exact restartUnit_keeps 1 _ _ (keeps_of_layout restartScan_layout) s kept
  case restartConverter =>
    cases next; exact restartUnit_keeps 2 _ _ (keeps_of_layout restartConvert_layout) s kept
  case graceTimerExpiry => exact whenRunning_keeps graceExpires_keeps kept next
  case frameBoundary =>
    change whenRunning takeBoundary s = _ at next
    unfold whenRunning at next
    split at next <;> cases next
    · exact takeBoundary_keeps ‹_› kept
    · exact kept
  case fillCompletion | drainComplete | memoryWritesComplete => exact completeWork_keeps kept next
  case refusedPacket | focus | keyAck | repeatSet | writeBegin | fillRect | textPut | textDataFrame | textClear |
      inputAck | inputMode | queryInputs | lineSet | queryLines | queryLight | darkCab | parkDelay | wake | scanSet =>
    exact taking_keeps (keeps_of_layout fun u => by simp) kept next
  case keepalive | writeData | vehicleFrameReceived | vehicleSilenceExpiry | vehicleFrameSent | dockPacketSent |
      sendTimerExpiry | silenceTimerExpiry | scanEvent | captureScan | wakeSample | repeatExpiry | inputSample |
      countdownExpiry | converterScanStart | scanCompletion | linkLedToggle =>
    exact whenRunning_keeps (keeps_of_layout fun u => by simp) kept next

/-- Settles O59: `exec_keeps` for each command, `idle_keeps` for a step without one. -/
theorem stepsKeepTheLayout : Obligations.StepsKeepTheLayout := by
  intro s t orders quota next
  unfold step at next
  split at next
  · cases next
    exact idle_keeps s ⟨orders, quota⟩
  · have kept : ∀ rest, LayoutKept { s with pending := rest } := fun _ => layoutKept_congr (s := s) rfl ⟨orders, quota⟩
    exact exec_keeps (kept _) next

end Sys2Proof.Proofs

/-! ## Completions of memory work: that they complete (O3), and what they write (O21, O28) -/

namespace Sys2Proof.Proofs

open Sys2Proof.Machine Sys2Proof.Safety

/-! ### Every command completes (R7, R32, R33) -/

theorem bufferInMemory_iff (p : Pane) (b : Nat) :
    p.bufferInMemory b = true ↔ p.bufferBase b + p.sizeX * p.sizeY * 2 ≤ 2097152 := covers_iff _ _

theorem takesWrites_iff (p : Pane) (b : Nat) :
    p.takesWrites b = true ↔ (p.phase = .ready ∨ p.phase = .live) ∧ b < p.buffers := by
  simp [Pane.takesWrites]

theorem inMemory_iff (e : FillEntry) : e.inMemory = true ↔ (e.run.start + e.run.length) * 4096 ≤ 2097152 := by
  simp [FillEntry.inMemory, covers_iff, blockBytes, Nat.add_mul]

theorem landJob_some {s : State} (inMemory : InMemory s) (w : ActiveWrite) : ∃ cells, landJob s w = some cells := by
  unfold landJob
  split
  · next p hp =>
    split
    · next takes =>
      rw [if_pos ((bufferInMemory_iff p _).2 (inMemory.1 _ p hp _ ((takesWrites_iff p _).1 takes).2))]
      exact ⟨_, rfl⟩
    · exact ⟨_, rfl⟩
  · exact ⟨_, rfl⟩

theorem landDrain_some {s : State} (inMemory : InMemory s) (start : Nat) (bytes : List Byte) :
    ∃ cells, landDrain s start bytes = some cells := by
  unfold landDrain
  split
  · split
    · next p hp =>
      split
      · next takes =>
        rw [if_pos ((bufferInMemory_iff p _).2 (inMemory.1 _ p hp _ ((takesWrites_iff p _).1 takes).2))]
        exact ⟨_, rfl⟩
      · exact ⟨_, rfl⟩
    · exact ⟨_, rfl⟩
  · exact ⟨_, rfl⟩

theorem landWrite_some {s : State} (inMemory : InMemory s) (w : Option ActiveWrite) :
    ∃ cells, w.elim (some s.mem.cells) (landJob s) = some cells := by
  cases w with
  | none => exact ⟨_, rfl⟩
  | some a => exact landJob_some inMemory a

/-- What a client has left of its work can be written, if all that is to be written lies in the memory. -/
theorem landLeft_some {s : State} (inMemory : InMemory s) (w : Writer) : ∃ cells, s.landLeft w = some cells := by
  cases w with
  | fill =>
    cases hf : s.mem.fills with
    | nil => exact ⟨s.mem.cells, by simp [State.landLeft, hf]⟩
    | cons e rest =>
      have := (inMemory_iff e).2 (inMemory.2.1 e (by simp [hf])).2
      simp [State.landLeft, hf, this]
  | drain =>
    unfold State.landLeft
    dsimp only
    split
    · exact landDrain_some inMemory _ _
    · exact ⟨_, rfl⟩
  | text source =>
    cases source with
    | tablet => exact landWrite_some inMemory s.mem.tabletWrite
    | vehicle => exact landWrite_some inMemory s.mem.vehicleWrite
    | statusRow =>
      cases hr : s.mem.rowWrites with
      | nil => exact ⟨s.mem.cells, by simp [State.landLeft, hr]⟩
      | cons w rest =>
        have := inMemory.2.2 w (by simp [hr])
        have covered : Memory.covers (statusRowBase + 2 * w.column) (2 * w.cells.length) = true := by
          rw [covers_iff, statusRowBase]
          omega
        simp [State.landLeft, hr, covered]

theorem completeWork_completes {s : State} (inMemory : InMemory s) (w : Writer) : ∃ t, completeWork w s = .next t := by
  obtain ⟨cells, hcells⟩ := landLeft_some inMemory w
  unfold completeWork
  rw [hcells]
  split <;> exact ⟨_, rfl⟩

theorem taking_completes (m : Master) (r : Request) (body : State → State) (s : State) :
    ∃ t, taking m r body s = .next t := by
  unfold taking
  split <;> exact ⟨_, rfl⟩

theorem whenRunning_completes (body : State → State) (s : State) : ∃ t, whenRunning body s = .next t := by
  unfold whenRunning
  split <;> exact ⟨_, rfl⟩

/-- Settles O3: requests and events always answer a next state, the three completions by `completeWork_completes`. -/
theorem everyCommandCompletes : Obligations.EveryCommandCompletes := by
  intro c s premise
  cases c
  case fullReset | resetRelease | restartDockLink | restartScanner | restartConverter => exact ⟨_, rfl⟩
  case fillCompletion => exact completeWork_completes (premise.resolve_right fun h => h.1 rfl) .fill
  case drainComplete => exact completeWork_completes (premise.resolve_right fun h => h.2.1 rfl) .drain
  case memoryWritesComplete source =>
    exact completeWork_completes (premise.resolve_right fun h => h.2.2 source rfl) (.text source)
  case hello grace =>
    change ∃ t, execHello grace s = .next t
    unfold execHello
    split
    · exact taking_completes ..
    · exact whenRunning_completes ..
  case dockLinkPacketReceived | keepalive | writeData | vehicleFrameReceived | vehicleSilenceExpiry |
      vehicleFrameSent | dockPacketSent | sendTimerExpiry | silenceTimerExpiry | graceTimerExpiry | frameBoundary |
      scanEvent | captureScan | wakeSample | repeatExpiry | inputSample | countdownExpiry | converterScanStart |
      scanCompletion | linkLedToggle => exact whenRunning_completes ..
  all_goals exact taking_completes ..

/-! ### What a completed fill writes (R11, R38, R39) -/

/-- A completion command over work that can be written. -/
theorem completeWork_of_landLeft {w : Writer} {s : State} (running : s.scanOut.running = true) {cells : List Host.Cell}
    (h : s.landLeft w = some cells) :
    completeWork w s = .next (finishWork w { s with mem := s.servedIfLeft w { s.mem with cells := cells } }) := by
  simp [completeWork, running, h]

/-- What a span written whole makes of the bytes, where it lies in the memory. -/
theorem bytesBecome_land {s t : State} {sp : Span} {f : Nat → Option Byte} (wf : MemoryKept s)
    (cells : t.mem.cells = sp.land s.mem.cells) (inside : ∀ a, sp.base ≤ a → a < sp.base + sp.len → a < 2097152)
    (bytes : ∀ a, f a = if sp.base ≤ a ∧ a < sp.base + sp.len then some (sp.byteAt a) else none) :
    BytesBecome f s t := by
  intro a
  have limit := inside a
  rw [cells, Span.land, read_update _ _ _ _ _ wf, bytes]
  by_cases h : sp.base ≤ a ∧ a < sp.base + sp.len
  · rw [if_pos h, if_pos ⟨h.1, h.2, limit h.1 h.2⟩]
  · rw [if_neg h, if_neg fun h' => h ⟨h'.1, h'.2.1⟩, Option.getD_none]

/-- The end of a fill of a PREPARING pane: the entry leaves the list and the pane is READY (R11, R39). -/
theorem fillDone_of_preparing {e : FillEntry} {rest : List FillEntry} {p : Pane} {s : State}
    (fills : s.mem.fills = e :: rest) (hp : s.pane? e.pane = some p) (phase : p.phase = .preparing) :
    fillDone s =
      { s with
        layout := { s.layout with
          panes := s.layout.panes.set e.pane (some { p with phase := .ready }), ready := s.layout.ready ++ [e.pane] }
        mem := { s.mem with fills := rest } } := by
  simp only [fillDone, fills, hp, phase, if_true]
  rfl

/-- The turn at the completion of a fill. -/
theorem servedIfLeft_fill {s : State} {e : FillEntry} {rest : List FillEntry} {p : Pane} (m : SurfaceMemory)
    (fills : s.mem.fills = e :: rest) (hp : s.pane? e.pane = some p) (phase : p.phase = .preparing)
    (inside : (e.run.start + e.run.length) * 4096 ≤ 2097152) :
    s.servedIfLeft .fill m =
      { m with turn := if e.blocksDone < e.run.length ∧ e.bytesDone < 4096 then .drain else m.turn } := by
  have waits : s.waits .fill = true ↔ e.blocksDone < e.run.length ∧ e.bytesDone < 4096 := by
    rw [waits_iff_hasWork]
    simp [HasWork, fills, hp, phase, inside]
  rw [State.servedIfLeft]
  by_cases h : e.blocksDone < e.run.length ∧ e.bytesDone < 4096
  · rw [if_pos (waits.2 h), if_pos h]
    rfl
  · rw [if_neg (mt waits.1 h), if_neg h]

/-- The addresses that a fill has left. -/
theorem mem_left_iff (e : FillEntry) (a : Nat) :
    (e.left.base ≤ a ∧ a < e.left.base + e.left.len) ↔
      (e.run.start + e.blocksDone) * 4096 + e.bytesDone ≤ a ∧ a < (e.run.start + e.run.length) * 4096 := by
  simp only [FillEntry.left, blockBytes]
  omega

/-- Settles O21: the rest of the run is one span, and `fillDone` ends the fill. -/
theorem fillCompletionMakesThePaneReady : Obligations.FillCompletionMakesThePaneReady := by
  intro e rest p s running fills hp phase inside wf
  have landed : s.landLeft .fill = some (e.left.land s.mem.cells) := by
    simp [State.landLeft, fills, (inMemory_iff e).2 inside, hp, phase]
  have completed := completeWork_of_landLeft running landed
  rw [servedIfLeft_fill _ fills hp phase inside] at completed
  refine ⟨_, completed.trans (congrArg _ (fillDone_of_preparing (p := p) fills hp phase)), rfl,
    bytesBecome_land (sp := e.left) wf rfl (fun a below above => ?_) fun a => ?_⟩
  · have := (mem_left_iff e a).1 ⟨below, above⟩
    omega
  · simp only [mem_left_iff]
    cases hpat : e.pattern <;> simp [FillEntry.left, FillPattern.byteAt, hpat]

/-! ### What a completed write of the text writer writes (R28, R42, R47 to R49) -/

/-- The source of the text writer that a master is (R50). -/
def sourceOf : Master → WriteSource
  | .tablet => .tablet
  | .vehicle => .vehicle

/-- The state once a master's write is finished: `done` of its `total` bytes had been written before (R42, R50). -/
def writeFinished (m : Master) (done total : Nat) (cells : List Host.Cell) (s : State) : State :=
  let passed (after : WriteSource) : ArbiterClient × WriteSource :=
    if done < total then (.fill, after) else (s.mem.turn, s.mem.textTurn)
  { s with mem :=
      match m with
      | .tablet =>
        { s.mem with
          cells := cells, tabletWrite := none, turn := (passed .vehicle).1, textTurn := (passed .vehicle).2 }
      | .vehicle =>
        { s.mem with
          cells := cells, vehicleWrite := none, turn := (passed .statusRow).1, textTurn := (passed .statusRow).2 } }

/-- A master's source waits while bytes of its write are left. -/
theorem waits_sourceOf {m : Master} {s : State} {w : ActiveWrite} {p : Pane} (hw : s.mem.writeOf m = some w)
    (hp : s.pane? w.job.pane = some p) (writable : Writable p w.job.buffer) :
    s.waits (.text (sourceOf m)) = true ↔ w.done < jobBytes p w.job := by
  rw [waits_iff_hasWork]
  cases m <;> simp only [SurfaceMemory.writeOf] at hw <;> simp [sourceOf, HasWork, WriteLeft, hw, hp, writable]

theorem landLeft_sourceOf {m : Master} {s : State} {w : ActiveWrite} (hw : s.mem.writeOf m = some w) :
    s.landLeft (.text (sourceOf m)) = landJob s w := by
  cases m <;> simp only [SurfaceMemory.writeOf] at hw <;> simp [sourceOf, State.landLeft, hw]

theorem finishWork_sourceOf {m : Master} {s : State} {done total : Nat} (cells : List Host.Cell)
    (waits : s.waits (.text (sourceOf m)) = true ↔ done < total) :
    finishWork (.text (sourceOf m))
        { s with mem := s.servedIfLeft (.text (sourceOf m)) { s.mem with cells := cells } } =
      writeFinished m done total cells s := by
  by_cases h : done < total
  · cases m <;> simp [State.servedIfLeft, waits.2 h, writeFinished, h] <;> rfl
  · cases m <;> simp [State.servedIfLeft, mt waits.1 h, writeFinished, h] <;> rfl

/-- A write with one span lands its bytes behind the `done` ones in front. -/
theorem landJob_of_span {s : State} {w : ActiveWrite} {p : Pane} {sp : Span} (hp : s.pane? w.job.pane = some p)
    (writable : Writable p w.job.buffer) (span : w.job.spans p = [sp]) :
    landJob s w = some (Span.land s.mem.cells { sp with base := sp.base + w.done, len := sp.len - w.done }) := by
  obtain ⟨phase, buffer, inside⟩ := writable
  simp [landJob, hp, (takesWrites_iff p _).2 ⟨phase, buffer⟩, (bufferInMemory_iff p _).2 inside, ActiveWrite.spans,
    span, spansLeft]

/-- The completion of a write with one span, whole. -/
theorem write_completes {m : Master} {s : State} {w : ActiveWrite} {p : Pane} {sp : Span} {f : Nat → Option Byte}
    (running : s.scanOut.running = true) (wf : MemoryKept s) (hw : s.mem.writeOf m = some w)
    (hp : s.pane? w.job.pane = some p) (writable : Writable p w.job.buffer) (span : w.job.spans p = [sp])
    (inside : sp.base + sp.len ≤ 2097152)
    {total : Nat} (hTotal : jobBytes p w.job = total)
    (bytes : ∀ a, f a = if sp.base + w.done ≤ a ∧ a < sp.base + sp.len then some (sp.byteAt a) else none) :
    ∃ t, exec (.memoryWritesComplete (sourceOf m)) s = .next t ∧ t.mem.writeOf m = none ∧
      t = writeFinished m w.done total t.mem.cells s ∧ BytesBecome f s t := by
  have completed := completeWork_of_landLeft running
    ((landLeft_sourceOf hw).trans (landJob_of_span hp writable span))
  rw [finishWork_sourceOf _ (hTotal ▸ waits_sourceOf hw hp writable)] at completed
  refine ⟨_, completed, by cases m <;> rfl, by cases m <;> rfl,
    bytesBecome_land (sp := { sp with base := sp.base + w.done, len := sp.len - w.done }) wf (by cases m <;> rfl)
      (fun a below above => ?_) fun a => (bytes a).trans ?_⟩
  · dsimp only at below above
    omega
  · have : sp.base + w.done ≤ a → (a < sp.base + sp.len ↔ a < sp.base + w.done + (sp.len - w.done)) := by omega
    by_cases h : sp.base + w.done ≤ a <;> simp [h, this]

/-- A byte of the cells put from an address on (R49). -/
theorem cellByte_eq {cells : List TextCell} {k : Nat} (h : k < 2 * cells.length) :
    some (cellByte cells k) = (cells[k / 2]?).map fun c => if k % 2 = 0 then c.code else c.attr := by
  have : k / 2 < cells.length := by omega
  simp [cellByte, this]

/-- TEXT PUT on a READY or LIVE pane (R47). -/
theorem textPut_completes {m : Master} {n b row column done : Nat} {cells : List TextCell} {p : Pane} {s : State}
    (running : s.scanOut.running = true) (wf : MemoryKept s)
    (hw : s.mem.writeOf m = some { job := .textPut n b row column cells, done := done }) (hp : s.pane? n = some p)
    (writable : Writable p b) (hrow : row < p.sizeY) (hcolumn : column < p.sizeX) :
    ∃ t, exec (.memoryWritesComplete (sourceOf m)) s = .next t ∧ t.mem.writeOf m = none ∧
      t = writeFinished m done (2 * min cells.length (p.sizeX - column)) t.mem.cells s ∧
      BytesBecome (fun a =>
        let first := p.bufferBase b + (row * p.sizeX + column) * 2
        if first + done ≤ a ∧ a < first + 2 * min cells.length (p.sizeX - column) then
          (cells[(a - first) / 2]?).map fun c => if (a - first) % 2 = 0 then c.code else c.attr
        else none) s t := by
  refine write_completes running wf hw hp writable (if_pos hrow) ?_ (if_pos hrow) fun a => ?_
  · have rows := Nat.mul_le_mul_right p.sizeX hrow
    have := writable.2.2
    rw [Nat.succ_mul, Nat.mul_comm p.sizeY] at rows
    dsimp only
    omega
  · dsimp only
    split
    · rw [cellByte_eq]
      omega
    · rfl

/-- TEXT CLEAR on a READY or LIVE pane (R48). -/
theorem textClear_completes {m : Master} {n b done : Nat} {p : Pane} {s : State}
    (running : s.scanOut.running = true) (wf : MemoryKept s)
    (hw : s.mem.writeOf m = some { job := .textClear n b, done := done }) (hp : s.pane? n = some p)
    (writable : Writable p b) :
    ∃ t, exec (.memoryWritesComplete (sourceOf m)) s = .next t ∧ t.mem.writeOf m = none ∧
      t = writeFinished m done (p.sizeX * p.sizeY * 2) t.mem.cells s ∧
      BytesBecome (fun a =>
        if p.bufferBase b + done ≤ a ∧ a < p.bufferBase b + p.sizeX * p.sizeY * 2 then
          some (if a % 2 = 0 then 0x20 else 0x0F)
        else none) s t :=
  write_completes running wf hw hp writable rfl writable.2.2 rfl fun _ => rfl

/-- The bytes of a status row write. -/
def rowWriteSpan (w : RowWrite) : Span :=
  { base := statusRowBase + 2 * w.column, len := 2 * w.cells.length
    byteAt := fun a => cellByte w.cells (a - (statusRowBase + 2 * w.column)) }

/-- The status row's write in front, on its row (R28, R47). -/
theorem rowWrite_completes {w : RowWrite} {rest : List RowWrite} {s : State} (running : s.scanOut.running = true)
    (hr : s.mem.rowWrites = w :: rest) (row : w.column + w.cells.length ≤ 100) (wf : MemoryKept s) :
    ∃ t, exec (.memoryWritesComplete .statusRow) s = .next t ∧
      t = { s with mem := { s.mem with
          cells := t.mem.cells, rowWrites := rest, turn := if w.cells = [] then s.mem.turn else .fill
          textTurn := if w.cells = [] then s.mem.textTurn else .tablet } } ∧
      BytesBecome (fun a =>
        let first := 1966080 + 2 * w.column
        if first ≤ a ∧ a < first + 2 * w.cells.length then
          (w.cells[(a - first) / 2]?).map fun c => if (a - first) % 2 = 0 then c.code else c.attr
        else none) s t := by
  have covered : Memory.covers (statusRowBase + 2 * w.column) (2 * w.cells.length) = true := by
    rw [covers_iff, statusRowBase]
    omega
  have landed : s.landLeft (.text .statusRow) =
      some (putCells s.mem.cells (statusRowBase + 2 * w.column) w.cells) := by
    simp [State.landLeft, hr, covered]
  have waits : s.waits (.text .statusRow) = true ↔ w.cells ≠ [] := by
    rw [waits_iff_hasWork]
    have : 1966080 + 2 * (w.column + w.cells.length) ≤ 2097152 := by omega
    simp [HasWork, hr, this]
  refine ⟨_, completeWork_of_landLeft running landed, ?_,
    bytesBecome_land (sp := rowWriteSpan w) wf ?_ (fun a _ above => ?_) fun a => ?_⟩
  · by_cases h : w.cells = []
    · simp [State.servedIfLeft, mt waits.1 (not_not.2 h), h, finishWork, writeDoneOf, hr]
    · simp [State.servedIfLeft, waits.2 h, h, finishWork, writeDoneOf, hr, served, nextSource]
  · simp [putCells, Span.land, rowWriteSpan]
  · simp only [rowWriteSpan, statusRowBase] at above
    omega
  · change _ = if 1966080 + 2 * w.column ≤ a ∧ a < 1966080 + 2 * w.column + 2 * w.cells.length then
      some (cellByte w.cells (a - (1966080 + 2 * w.column))) else none
    dsimp only
    by_cases h : 1966080 + 2 * w.column ≤ a ∧ a < 1966080 + 2 * w.column + 2 * w.cells.length
    · rw [if_pos h, if_pos h, cellByte_eq (by omega)]
    · rw [if_neg h, if_neg h]

/-- Settles O28: the write of each master, and the status row's. -/
theorem textWritesWriteTheirCells : Obligations.TextWritesWriteTheirCells := by
  refine ⟨fun m source n b row column done cells p s hsource running hp phase hb inside wf => ?_,
    fun w rest s running hr row wf => rowWrite_completes running hr row wf⟩
  obtain rfl : source = sourceOf m := by
    rcases hsource with ⟨rfl, rfl⟩ | ⟨rfl, rfl⟩ <;> rfl
  exact ⟨fun hw hrow hcolumn => textPut_completes running wf hw hp ⟨phase, hb, inside⟩ hrow hcolumn,
    fun hw => textClear_completes running wf hw hp ⟨phase, hb, inside⟩⟩

end Sys2Proof.Proofs

/-! ## A step without a command (O1), and the part right after reset (O6, O9) -/

namespace Sys2Proof.Proofs

open Sys2Proof.Machine Sys2Proof.Safety

/-! ### A step without a command (R50, R52) -/

@[simp] theorem handTablet_timers (msg : Message) (s : State) :
    (handTablet msg s).dock.grace = s.dock.grace ∧ (handTablet msg s).dock.silence = s.dock.silence ∧
    (handTablet msg s).dock.graceTimer = s.dock.graceTimer ∧ (handTablet msg s).dock.send = s.dock.send := by
  unfold handTablet
  split <;> simp

@[simp] theorem finishWork_timers (w : Writer) (s : State) :
    (finishWork w s).dock.grace = s.dock.grace ∧ (finishWork w s).dock.silence = s.dock.silence ∧
    (finishWork w s).dock.graceTimer = s.dock.graceTimer ∧ (finishWork w s).dock.send = s.dock.send := by
  cases w with
  | fill => unfold finishWork fillDone; dsimp only; (repeat' split) <;> simp
  | drain => unfold finishWork drainDone finishStream writeDone; dsimp only; (repeat' split) <;> simp
  | text source => cases source <;> simp [finishWork, writeDoneOf]

@[simp] theorem advanceWork_timers (upTo : Nat) (w : Writer) (s : State) :
    (advanceWork upTo w s).dock.grace = s.dock.grace ∧ (advanceWork upTo w s).dock.silence = s.dock.silence ∧
    (advanceWork upTo w s).dock.graceTimer = s.dock.graceTimer ∧
    (advanceWork upTo w s).dock.send = s.dock.send := by
  unfold advanceWork
  split
  case h_2 => split <;> simp
  all_goals simp

@[simp] theorem grantWrite_timers (w : Writer) (s : State) :
    (grantWrite w s).dock.grace = s.dock.grace ∧ (grantWrite w s).dock.silence = s.dock.silence ∧
    (grantWrite w s).dock.graceTimer = s.dock.graceTimer ∧ (grantWrite w s).dock.send = s.dock.send := by
  unfold grantWrite
  dsimp only
  split
  · split <;> simp
  · simp

/-- What a step without a command may change. -/
theorem idle_only (s : State) :
    idle s = { s with
      scanOut := (idle s).scanOut, mem := (idle s).mem
      layout := { s.layout with panes := (idle s).layout.panes, ready := (idle s).layout.ready }
      dock := { s.dock with
        bufferA := (idle s).dock.bufferA, bufferB := (idle s).dock.bufferB, outbound := (idle s).dock.outbound
        stream := (idle s).dock.stream } } := by
  have frame := idle_frame s
  have timers : (idle s).dock.grace = s.dock.grace ∧ (idle s).dock.silence = s.dock.silence ∧
      (idle s).dock.graceTimer = s.dock.graceTimer ∧ (idle s).dock.send = s.dock.send := by
    rw [idle_eq]
    split
    · cases s.nextWriter <;> simp
    · simp
  generalize idle s = t at frame timers ⊢
  obtain ⟨⟨⟩, _, _, _, _, _, _, _, _, _, _, ⟨⟩, _, _, _, _⟩ := s
  obtain ⟨⟨⟩, _, _, _, _, _, _, _, _, _, _, ⟨⟩, _, _, _, _⟩ := t
  simp only at frame timers ⊢
  simp only [frame, timers]

/-- The position after a step without a command (R52). -/
theorem idle_scanOut {s : State} (running : s.scanOut.running = true) : (idle s).scanOut = s.scanOut.advance := by
  rw [idle_eq, if_pos running]
  cases s.nextWriter <;> simp [frameGoesOn, running]

/-- The next position, in numbers (R52). -/
theorem advance_eq (o : ScanOut) :
    o.advance =
      if 45 ≤ o.line ∧ o.column + 1 < 800 then { o with column := o.column + 1 }
      else if o.line + 1 < 525 then { o with line := o.line + 1, column := 0 }
      else o := rfl

/-- Settles O1: a command is run by definition; without one, `idle_only` and the position by `advance_eq`. -/
theorem stepTakesFrontCommand : Obligations.StepTakesFrontCommand := by
  refine ⟨fun c rest s => rfl, fun s hpending => ⟨fun held => ?_, fun running => ?_⟩⟩
  · simp [step, hpending, idle, held]
  · have position := idle_scanOut running
    refine ⟨idle s, by simp [step, hpending], idle_only s, ?_, ?_, ?_, ?_⟩ <;> rw [position, advance_eq] <;>
      intros
    · rw [if_neg (by omega), if_pos (by omega)]
    · rw [if_pos (by omega)]
    · rw [if_neg (by omega), if_pos (by omega)]
    · rw [if_neg (by omega), if_neg (by omega)]

/-! ### The status row right after reset (R26, R27, R31) -/

/-- The two bytes of a cell put from an address on read as the cell. -/
theorem read_putCells {m : List Host.Cell} {base k : Nat} {cells : List TextCell} {c : TextCell}
    (inside : base + 2 * cells.length ≤ 2097152) (hc : cells[k]? = some c) :
    ([Memory.read (putCells m base cells) (base + 2 * k), Memory.read (putCells m base cells) (base + 2 * k + 1)] :
      List Byte) = [c.code, c.attr] := by
  have hk : k < cells.length := (List.getElem?_eq_some_iff.1 hc).1
  rw [putCells, read_update_inside _ _ _ _ _ ⟨by omega, by omega, Nat.lt_of_lt_of_le (by omega) inside⟩,
    read_update_inside _ _ _ _ _ ⟨by omega, by omega, Nat.lt_of_lt_of_le (by omega) inside⟩]
  have code : base + 2 * k - base = 2 * k := by omega
  have attr : base + 2 * k + 1 - base = 2 * k + 1 := by omega
  have half : (2 * k + 1) / 2 = k := by omega
  have odd : (2 * k + 1) % 2 = 1 := by omega
  simp [code, attr, half, odd, cellByte, hc]

/-- The row's cells are those of Safety's table. -/
theorem resetRow_cells (bay : Bool) :
    (rowCells (resetRowText (linkAfterReset bay))).map (fun c => [c.code, c.attr]) = resetRow bay := by
  cases bay <;> rfl

theorem resetRow_length (bay : Bool) : (rowCells (resetRowText (linkAfterReset bay))).length = 100 := by
  cases bay <;> rfl

/-- Settles O6: the layout by definition, the cells of the row by `read_putCells`. -/
theorem releaseSetsTheLayout : Obligations.ReleaseSetsTheLayout := by
  intro ids1 ids0 pins s
  refine ⟨releasedState ids1 ids0 pins (cutAll s), rfl, rfl, fun k hk => ?_⟩
  have length := resetRow_length pins.bay
  obtain ⟨c, hc⟩ : ∃ c, (rowCells (resetRowText (linkAfterReset pins.bay)))[k]? = some c :=
    ⟨_, List.getElem?_eq_getElem (by omega)⟩
  rw [← resetRow_cells, List.getD_eq_getElem?_getD, List.getElem?_map, hc]
  exact read_putCells (base := 1966080) (by omega) hc

/-! ### The invariants right after reset -/

theorem pane?_reset (n : Nat) : State.reset.pane? n = if n = 0 then some statusPane else none := pane?_afterReset rfl n

/-- Pane 0 is the only record that is not FREE right after reset. -/
theorem eq_of_pane?_reset {n : Nat} {p : Pane} (h : State.reset.pane? n = some p) : n = 0 ∧ p = statusPane := by
  rw [pane?_reset] at h
  split at h
  · exact ⟨‹_›, (Option.some.inj h).symm⟩
  · cases h

theorem allocationKept_reset : AllocationKept State.reset := by
  refine ⟨fun o => by cases o <;> (unfold RunsInOrder; decide), fun n p hp => ?_, fun o r hr => ?_,
    fun n k p q hp hq ne => ?_, fun n p hp phase => ?_, by decide, fun e he => ?_, fun w hw => ?_⟩
  · obtain ⟨-, rfl⟩ := eq_of_pane?_reset hp
    exact ⟨by decide, by decide⟩
  · cases o with
    | part =>
      obtain rfl : r = statusPane.run := List.mem_singleton.1 hr
      exact ⟨0, statusPane, rfl, rfl, rfl⟩
    | tablet => cases hr
    | vehicle => cases hr
  · exact absurd ((eq_of_pane?_reset hp).1.trans (eq_of_pane?_reset hq).1.symm) ne
  · obtain ⟨-, rfl⟩ := eq_of_pane?_reset hp
    cases phase
  · cases he
  · cases hw

theorem focusKept_reset : FocusKept State.reset := by
  refine ⟨fun n h => (nomatch h), by decide, fun h => (nomatch h), by decide, fun n h => (nomatch h), fun _ => rfl,
    fun n h => (nomatch h), fun n p hp alert => ?_⟩
  obtain ⟨-, rfl⟩ := eq_of_pane?_reset hp
  cases alert

/-- Settles O9: the layout by `layoutKept_afterReset`, the invariants with quantifiers by lemma, the rest by
evaluation. -/
theorem resetMeetsTheInvariants : Obligations.ResetMeetsTheInvariants := by
  obtain ⟨orders, quota⟩ := layoutKept_afterReset (s := State.reset) rfl
  refine ⟨writeResetRow_wf [] _ ⟨List.Pairwise.nil, by simp⟩, ?_, ?_, ?_, quota, orders, ?_, allocationKept_reset, ?_,
    focusKept_reset, fun st h => (nomatch h), fun name start bytes h => (by cases name <;> cases h)⟩
  · unfold QueuesKept; decide
  · unfold KeysKept; decide
  · unfold DutyKept; decide
  · exact ⟨by decide, rfl, rfl, List.length_replicate, rfl, rfl⟩
  · unfold HeldKept; decide

end Sys2Proof.Proofs

/-! ## RELEASE: a pane not yet LIVE is freed (O19), a LIVE one closes (O20) -/

namespace Sys2Proof.Proofs

open Sys2Proof.Machine Sys2Proof.Safety

/-! ### The write stream of a pane that goes (R21, R168) -/

/-- The state once an open stream into pane `n` has ended with WRITE DONE PANE_GONE. -/
def streamGone (n : Nat) (s : State) : State :=
  match s.dock.stream with
  | some st =>
    if st.pane = n ∧ st.ended = false then
      handed .tablet (.notice (.writeDone n st.buffer .paneGone (st.total - st.received)))
        { s with dock := { s.dock with stream := none } }
    else s
  | none => s

theorem streamPaneGone_eq (n : Nat) (s : State) : streamPaneGone n s = streamGone n s := by
  unfold streamPaneGone streamGone
  cases s.dock.stream with
  | none => rfl
  | some st =>
    by_cases h : st.pane = n ∧ st.ended = false
    · simp [h.1, h.2, writeDone, handTablet_eq_handed]
    · have stillOpen : ¬(st.pane = n ∧ ¬st.ended = true) := by simpa using h
      simp only [if_neg h, if_neg stillOpen]

theorem streamGone_of_none {n : Nat} {s : State} (h : s.dock.stream = none) : streamGone n s = s := by
  simp [streamGone, h]

theorem streamGone_of_some {n : Nat} {st : Stream} {s : State} (h : s.dock.stream = some st) :
    streamGone n s = if st.pane = n ∧ st.ended = false then
      handed .tablet (.notice (.writeDone n st.buffer .paneGone (st.total - st.received)))
        { s with dock := { s.dock with stream := none } }
      else s := by
  simp [streamGone, h]

@[simp] theorem taken_stream (m : Master) (s : State) : (taken m s).dock.stream = s.dock.stream := by cases m <;> rfl

/-- The request's leaving its queue does not disturb the end of the stream. -/
theorem streamGone_taken (m : Master) (n : Nat) (s : State) : streamGone n (taken m s) = taken m (streamGone n s) := by
  cases h : s.dock.stream with
  | none => rw [streamGone_of_none h, streamGone_of_none ((taken_stream m s).trans h)]
  | some st =>
    rw [streamGone_of_some h, streamGone_of_some ((taken_stream m s).trans h)]
    split
    · cases m <;> rfl
    · rfl

/-- Nor do the layout and the allocation lists. -/
theorem streamGone_relaid (n : Nat) (l : Layout) (a : Allocator) (s : State) :
    streamGone n (relaid l a s) = relaid l a (streamGone n s) := by
  cases h : s.dock.stream with
  | none => rw [streamGone_of_none h, streamGone_of_none (s := relaid l a s) h]
  | some st =>
    rw [streamGone_of_some h, streamGone_of_some (s := relaid l a s) h]
    split <;> rfl

/-! ### A pane that is freed at once (R19, R37, R40) -/

@[simp] theorem taken_mem (m : Master) (s : State) : (taken m s).mem = s.mem := by cases m <;> rfl

theorem abortFill_taken (m : Master) (n : Nat) (s : State) : abortFill n (taken m s) = taken m (abortFill n s) := by
  unfold abortFill abortFills
  rw [taken_mem]
  cases s.mem.fills with
  | nil => cases m <;> rfl
  | cons e rest =>
    dsimp only
    split <;> cases m <;> rfl

theorem freePane_taken (m : Master) (n : Nat) (p : Pane) (s : State) :
    freePane n p (taken m s) = taken m (freePane n p s) := by
  unfold freePane
  dsimp only
  rw [abortFill_taken]
  split <;> cases m <;> rfl

/-- The state without the fills of pane `n`. -/
def fillsWithout (n : Nat) (s : State) : State :=
  { s with mem := { s.mem with fills := s.mem.fills.filter (·.pane != n) } }

/-- The fill of a pane is aborted in the list, and cut off if it is the one in progress (R40). -/
theorem abortFill_cases (n : Nat) (s : State) :
    abortFill n s = fillsWithout n s ∨
      ∃ e ∈ s.mem.fills, e.pane = n ∧ abortFill n s = fillsWithout n (cutFill e s) := by
  unfold abortFill abortFills
  dsimp only
  split
  · next e rest hf =>
    split
    · next hn => exact .inr ⟨e, by simp [hf], by simpa using hn, rfl⟩
    · exact .inl rfl
  · exact .inl rfl

/-- What an aborted fill leaves but bytes, the list's entries and the free values used. -/
theorem abortFill_eq (n : Nat) (s : State) :
    abortFill n s = { s with
      mem := { s.mem with cells := (abortFill n s).mem.cells, fills := s.mem.fills.filter (·.pane != n) }
      freeCount := (abortFill n s).freeCount } := by
  obtain h | ⟨e, -, -, h⟩ := abortFill_cases n s <;> rw [h] <;> rfl

/-- What is freed with a pane, but for the bytes of an aborted fill. -/
theorem freePane_eq (n : Nat) (p : Pane) (s : State) :
    freePane n p s = { s with
      layout := { s.layout with panes := s.layout.panes.set n none, ready := s.layout.ready.filter (· != n) }
      alloc := s.alloc.setRuns p.owner ((s.alloc.runs p.owner).erase p.run)
      mem := { s.mem with
        cells := (freePane n p s).mem.cells
        fills := if p.phase = .preparing then s.mem.fills.filter (·.pane != n) else s.mem.fills }
      freeCount := (freePane n p s).freeCount } := by
  unfold freePane
  dsimp only
  split
  · rw [abortFill_eq]
    rfl
  · rfl

theorem freePane_cells (n : Nat) (p : Pane) (s : State) :
    (freePane n p s).mem.cells = if p.phase = .preparing then (abortFill n s).mem.cells else s.mem.cells := by
  unfold freePane
  dsimp only
  split <;> rfl

/-- A fill that is cut off changes bytes of its run only (R39, R40). -/
theorem read_cutFill {e : FillEntry} {s : State} (wf : MemoryKept s) {x : Nat}
    (changed : Memory.read (cutFill e s).mem.cells x ≠ Memory.read s.mem.cells x) :
    e.run.start * 4096 ≤ x ∧ x < (e.run.start + e.run.length) * 4096 := by
  by_contra outside
  refine changed ?_
  have addresses := mem_left_iff e x
  simp only [cutFill, Span.landSome, useFree_mem]
  rw [read_update _ _ _ _ _ wf, if_neg]
  rintro ⟨below, above, -⟩
  have := addresses.1 ⟨below, above⟩
  rw [Nat.add_mul] at this
  omega

/-- An aborted fill changes bytes of its run only (R40). -/
theorem read_abortFill {n : Nat} {s : State} {run : Run} (wf : MemoryKept s)
    (hrun : ∀ e ∈ s.mem.fills, e.pane = n → e.run = run) {x : Nat}
    (changed : Memory.read (abortFill n s).mem.cells x ≠ Memory.read s.mem.cells x) :
    run.start * 4096 ≤ x ∧ x < (run.start + run.length) * 4096 := by
  obtain h | ⟨e, he, hn, h⟩ := abortFill_cases n s <;> rw [h] at changed
  · exact absurd rfl changed
  · rw [← hrun e he hn]
    exact read_cutFill wf changed

/-- Settles O19: what is freed by `freePane_eq`, the bytes by `read_abortFill`; the request's leaving its queue commutes
with both. -/
theorem releaseFreesAPaneNotYetLive : Obligations.ReleaseFreesAPaneNotYetLive := by
  intro m n p s turn owned notLive wf hrun
  refine ⟨freePane n p s, streamGone n (freePane n p s), ?_, ?_, freePane_eq n p s, fun x changed => ?_⟩
  · rw [exec_release, taking_of_turn turn]
    simp only [doRelease, taken_paneCheck, paneCheck_ok_of_owned owned, if_neg notLive, freePane_taken,
      streamPaneGone_eq, streamGone_taken, reply_taken, requestCode]
  · have dock : (freePane n p s).dock.stream = s.dock.stream := by simp
    rw [← dock]
    rfl
  · rw [freePane_cells] at changed
    split at changed
    · exact ⟨‹_›, read_abortFill wf hrun changed⟩
    · exact absurd rfl changed

/-! ### A LIVE pane that closes (R20, R21, R88, R118) -/

/-- Messages are only added to the two outbound queues. -/
def Grows (s t : State) : Prop := s.dock.outbound <+: t.dock.outbound ∧ s.vehicle.outbound <+: t.vehicle.outbound

theorem Grows.of_eq {s t : State} (dock : t.dock.outbound = s.dock.outbound)
    (vehicle : t.vehicle.outbound = s.vehicle.outbound) : Grows s t :=
  ⟨dock ▸ List.prefix_rfl, vehicle ▸ List.prefix_rfl⟩

theorem Grows.trans {s t u : State} (h : Grows s t) (h' : Grows t u) : Grows s u :=
  ⟨h.1.trans h'.1, h.2.trans h'.2⟩

theorem handed_grows (m : Master) (msg : Message) (s : State) : Grows s (handed m msg s) := by
  cases m with
  | tablet =>
    refine ⟨?_, List.prefix_rfl⟩
    simp only [handed, dockOutbound]
    split
    · exact List.prefix_append _ _
    · exact List.prefix_rfl
  | vehicle =>
    refine ⟨List.prefix_rfl, ?_⟩
    simp only [handed, vehicleOutbound]
    split
    · exact List.prefix_append _ _
    · exact List.prefix_rfl

theorem told_grows (o : Option Owner) (x : Notice) (s : State) : Grows s (told o x s) := by
  rcases o with _ | o
  · exact .of_eq rfl rfl
  · cases o
    · exact handed_grows _ _ _
    · exact handed_grows _ _ _
    · exact .of_eq rfl rfl

theorem focusMoved_grows (v : Option Nat) (s : State) : Grows s (focusMoved v s) := by
  unfold focusMoved
  split
  · exact .of_eq rfl rfl
  · exact (told_grows _ _ { s with router := { s.router with focus := v } }).trans (told_grows _ _ _)

theorem paneLost_grows (n : Nat) (s : State) : Grows s (paneLost n s) := by
  unfold paneLost
  split
  · exact focusMoved_grows _ s
  · exact .of_eq rfl rfl

theorem savedDropped_grows (n : Nat) (s : State) : Grows s (savedDropped n s) := by
  unfold savedDropped
  split <;> exact .of_eq rfl rfl

theorem alertClosed_grows (n : Nat) (s : State) : Grows s (alertClosed n s) := by
  unfold alertClosed
  refine .trans ?_ (savedDropped_grows n _)
  split
  · exact .of_eq rfl rfl
  · split
    · exact focusMoved_grows _ { s with
        alerts := { s.alerts with
          stack := s.alerts.stack.filter (· != n), unreported := s.alerts.unreported.filter (· != n) }
        router := { s.router with hold := false } }
    · split
      · exact focusMoved_grows _ { s with alerts := { s.alerts with
          stack := s.alerts.stack.filter (· != n), unreported := s.alerts.unreported.filter (· != n) } }
      · exact .of_eq rfl rfl

/-- The alert focus (R113). -/
theorem alertFocus_eq (s : State) : s.alertFocus = alertValue s := by
  unfold State.alertFocus alertValue
  cases s.alerts.stack with
  | nil => simp
  | cons top rest =>
    cases hp : s.pane? top with
    | none => simp [hp]
    | some p => simp [hp, and_comm]

/-- The focus that a hold gives back (R115). -/
theorem returnFocus_eq (s : State) :
    s.returnFocus = if s.alerts.saved.any s.eligible then s.alerts.saved else s.ring.head? := by
  unfold State.returnFocus
  cases s.alerts.saved <;> simp

@[simp] theorem focusMoved_alerts (v : Option Nat) (s : State) : (focusMoved v s).alerts = s.alerts := by
  rw [← setFocus_eq_focusMoved]
  simp

/-- The end of a hold (R113, R115). -/
theorem holdEnds_eq {s : State} (empty : s.alerts.stack = []) (size : Nat) : holdEnds size s = holdOver size s := by
  simp only [holdEnds, holdOver, returnFocus_eq, setFocus_eq_focusMoved, alertField, rewriteField_eq_rowTold,
    setAlertLed, switched, focusMoved_alerts, empty, List.length_nil]

/-- A new top of the stack (R113). -/
theorem topChanged_eq (size : Nat) (s : State) :
    topChanged size s =
      rowTold .alert (alertText size) (alertText s.alerts.stack.length) (focusMoved (alertValue s) s) := by
  simp only [topChanged, alertField, rewriteField_eq_rowTold, setFocus_eq_focusMoved, alertFocus_eq, focusMoved_alerts]

/-- The Alert Controller's part of a pane that closes (R118). -/
theorem alertPaneClosing_eq (n : Nat) (s : State) : alertPaneClosing n s = alertClosed n s := by
  unfold alertPaneClosing alertClosed
  simp only [dropSaved_eq, List.contains_iff_mem, ite_not]
  congr 1
  by_cases member : n ∈ s.alerts.stack
  · simp only [if_pos member]
    by_cases empty : s.alerts.stack.filter (· != n) = []
    · simp only [if_pos empty]
      exact holdEnds_eq empty _
    · simp only [if_neg empty]
      by_cases top : s.alerts.stack.head? = some n
      · simp only [if_pos top]
        exact topChanged_eq _ _
      · simp only [if_neg top]
        exact rewriteField_eq_rowTold _ _ _ _
  · simp only [if_neg member]

theorem takeClosing_eq (s : State) (n : Nat) : takeClosing s n = alertClosed n (paneLost n s) := by
  rw [takeClosing, routerPaneLost_eq, alertPaneClosing_eq]

theorem answered_relaid (m : Master) (code : Nat) (result : Result) (values : List Byte) (l : Layout) (a : Allocator)
    (s : State) : answered m code result values (relaid l a s) = relaid l a (answered m code result values s) := by
  cases m <;> rfl

/-- Closing a pane changes the layout alone. -/
theorem closePane_eq_relaid (n : Nat) (p : Pane) (s : State) :
    closePane n p s = relaid (closePane n p s).layout s.alloc s := rfl

@[simp] theorem streamGone_frame (n : Nat) (s : State) :
    (streamGone n s).layout = s.layout ∧ (streamGone n s).alloc = s.alloc ∧ (streamGone n s).mem = s.mem ∧
    (streamGone n s).scanner = s.scanner ∧ (streamGone n s).park = s.park ∧ (streamGone n s).inputs = s.inputs ∧
    (streamGone n s).scanOut = s.scanOut := by
  rw [← streamPaneGone_eq]
  simp

@[simp] theorem answered_frame (m : Master) (code : Nat) (result : Result) (values : List Byte) (s : State) :
    (answered m code result values s).layout = s.layout ∧ (answered m code result values s).alloc = s.alloc ∧
    (answered m code result values s).mem = s.mem ∧ (answered m code result values s).scanner = s.scanner ∧
    (answered m code result values s).park = s.park ∧ (answered m code result values s).inputs = s.inputs ∧
    (answered m code result values s).scanOut = s.scanOut ∧
    (answered m code result values s).dock.stream = s.dock.stream := by
  cases m <;> simp [answered, handed, taken]

/-- Settles O20: the reply is made over the closed layout, and what follows is `takeClosing_eq`, which only adds
messages. -/
theorem releaseClosesALivePane : Obligations.ReleaseClosesALivePane := by
  intro m n p s turn owned live
  let made : State := answered m 0x11 .ok [] (streamGone n s)
  let closed : State := relaid (closePane n p s).layout s.alloc made
  have body : doRelease m n (taken m s) = takeClosing closed n := by
    have closePane_taken : closePane n p (taken m s) = taken m (closePane n p s) := by cases m <;> rfl
    simp only [doRelease, taken_paneCheck, paneCheck_ok_of_owned owned, if_pos live, closePane_taken,
      streamPaneGone_eq, streamGone_taken, reply_taken, requestCode]
    rw [closePane_eq_relaid, streamGone_relaid, answered_relaid]
  have layout : (takeClosing closed n).layout = (closePane n p s).layout := by simp [closed, relaid]
  have same : closed = { made with layout := closed.layout } := by simp [closed, relaid, made]
  have grows : Grows made (takeClosing closed n) := by
    rw [takeClosing_eq]
    exact (paneLost_grows n closed).trans (alertClosed_grows n _)
  have frame : closed.alloc = s.alloc ∧ closed.mem = s.mem ∧ closed.scanner = s.scanner ∧ closed.park = s.park ∧
      closed.inputs = s.inputs ∧ closed.scanOut = s.scanOut := by simp [closed, relaid, made]
  obtain ⟨alloc, mem, scanner, park, inputs, scanOut⟩ := frame
  refine ⟨takeClosing closed n, ?_, layout.trans rfl, ?_⟩
  · rw [exec_release, taking_of_turn turn, body]
  · simp only [takeClosing_frame, alloc, mem, scanner, park, inputs, scanOut, true_and]
    have stream : closed.dock.stream = (streamGone n s).dock.stream := by simp [closed, relaid, made]
    refine ⟨grows.1, grows.2, stream, rfl, rfl, ?_⟩
    exact (takeClosing_eq closed n).trans (congrArg (fun u => alertClosed n (paneLost n u)) same)

end Sys2Proof.Proofs

/-! ## Waiting requests (O4), first fit (O13), the write requests (O24 to O26) and the release of full reset (O8) -/

namespace Sys2Proof.Proofs

open Sys2Proof.Machine Sys2Proof.Safety

/-! ### Requests that wait (R42, R165, R170) -/

/-- A unit of RESTART changes nothing while the request may not be taken. -/
theorem restartUnit_of_not_turn {m : Master} {units : Nat} {s : State} (h : ¬Turn m (.restart units) s) (unit : Nat)
    (body : State → State) : restartUnit unit m units body s = s :=
  if_neg (mt (canTake_iff_turn _ _ _).1 h)

/-- Settles O4: every command of a request is `taking`, but for HELLO's arrival and the units of RESTART. -/
theorem waitingRequestChangesNothing : Obligations.WaitingRequestChangesNothing := by
  intro c m r s hc waits link
  cases c
  case hello grace =>
    obtain ⟨rfl, rfl⟩ : m = .tablet ∧ r = .hello grace := by cases hc; exact ⟨rfl, rfl⟩
    exact (if_pos (link.resolve_left fun h => h grace rfl)).trans (taking_of_not_turn waits _)
  case restartDockLink | restartScanner | restartConverter =>
    cases hc
    exact congrArg _ (restartUnit_of_not_turn waits _ _)
  case fullReset | resetRelease | dockLinkPacketReceived | keepalive | writeData | vehicleFrameReceived |
      vehicleSilenceExpiry | vehicleFrameSent | dockPacketSent | sendTimerExpiry | silenceTimerExpiry |
      graceTimerExpiry | drainComplete | fillCompletion | frameBoundary | scanEvent | captureScan | wakeSample |
      repeatExpiry | inputSample | countdownExpiry | converterScanStart | scanCompletion | linkLedToggle |
      memoryWritesComplete => cases hc
  all_goals
    cases hc
    exact taking_of_not_turn waits _

/-! ### First fit (R36) -/

/-- A run is found exactly at the lowest free blocks. -/
theorem findRun_eq_some_iff {o : Owner} {n : Nat} {s : State} (order : RunsInOrder o s) (r : Run) :
    s.findRun o n = some r ↔ r.length = n ∧ FreeBlocks o n r.start s ∧ ∀ b < r.start, ¬FreeBlocks o n b s := by
  have fit := (firstFit_spec n (regionBounds o).2 (s.alloc.runs o) (regionBounds o).1 order.1
    fun q hq => ⟨(order.2 q hq).1, (order.2 q hq).2.2⟩).1 r.start
  obtain ⟨start, length⟩ := r
  simp only [State.findRun, Option.map_eq_some_iff, Run.mk.injEq, freeBlocks_iff_gapFrom]
  constructor
  · rintro ⟨a, found, rfl, rfl⟩
    exact ⟨rfl, fit.1 found⟩
  · rintro ⟨rfl, lowest⟩
    exact ⟨start, fit.2 lowest, rfl, rfl⟩

/-- Settles O13: `findRun_eq_some_iff`, and `findRun_of_full` for a full region. -/
theorem firstFitFindsTheLowestGap : Obligations.FirstFitFindsTheLowestGap := by
  intro o n s _ order
  refine ⟨findRun_eq_some_iff order, fun none a free => ?_, findRun_of_full order⟩
  classical
  have exists_free : ∃ a, FreeBlocks o n a s := ⟨a, free⟩
  have found := findRun_of_lowest order (Nat.find_spec exists_free) fun b hb => Nat.find_min exists_free hb
  simp [none] at found

/-! ### The checks of R41 -/

@[simp] theorem taken_writeCheck (m k : Master) (s : State) (n : Nat) (kind : PaneKind) (ok : Pane → Bool) :
    (taken m s).writeCheck k n kind ok = s.writeCheck k n kind ok := by
  simp [State.writeCheck]

section
variable {m : Master} {n : Nat} {p : Pane} {s : State} {kind : PaneKind} {ok : Pane → Bool}

/-- Step 2 of R41. -/
theorem writeCheck_badKind (owned : Owned m n p s) (hkind : p.kind ≠ kind) :
    s.writeCheck m n kind ok = .error .badKind := by
  simp [State.writeCheck, paneCheck_ok_of_owned owned, hkind]

/-- Step 3 of R41. -/
theorem writeCheck_badValue (owned : Owned m n p s) (hkind : p.kind = kind) (values : ok p = false) :
    s.writeCheck m n kind ok = .error .badValue := by
  simp [State.writeCheck, paneCheck_ok_of_owned owned, hkind, values]

/-- Step 4 of R41. -/
theorem writeCheck_paneBusy (owned : Owned m n p s) (hkind : p.kind = kind) (values : ok p = true)
    (phase : p.phase = .preparing) : s.writeCheck m n kind ok = .error .paneBusy := by
  simp [State.writeCheck, paneCheck_ok_of_owned owned, hkind, values, phase]

/-- A request that passes every step of R41. -/
theorem writeCheck_ok (owned : Owned m n p s) (hkind : p.kind = kind) (values : ok p = true)
    (phase : p.phase ≠ .preparing) : s.writeCheck m n kind ok = .ok p := by
  simp [State.writeCheck, paneCheck_ok_of_owned owned, hkind, values, phase]

end

/-- The value check of WRITE BEGIN. -/
def writeBeginOk (b : Nat) (rect : Rect) (p : Pane) : Bool :=
  b < p.buffers && 1 ≤ rect.w && rect.w ≤ 2048 && 1 ≤ rect.h && rect.h ≤ 2048

/-- The value check of FILL RECT. -/
def fillRectOk (b : Nat) (rect : Rect) (p : Pane) : Bool := b < p.buffers && 1 ≤ rect.w && 1 ≤ rect.h

/-- The value check of TEXT CLEAR. -/
def textClearOk (b : Nat) (p : Pane) : Bool := b < p.buffers

section
variable {m : Master} {n b row column : Nat} {rect : Rect} {colour : Nat} {cells : List TextCell} {attr : Byte}
  {codes : List Byte} {result : Result} {s : State}

theorem writeBegin_refused (h : s.writeCheck .tablet n .pixel (writeBeginOk b rect) = .error result) :
    RefusedWith (.writeBegin n b rect) 0x30 result s :=
  refusedWith_of_taking rfl (exec_writeBegin ..) (by
    unfold writeBeginOk at h
    simp only [doWriteBegin, taken_writeCheck, h]) rfl

theorem fillRect_refused (h : s.writeCheck .tablet n .pixel (fillRectOk b rect) = .error result) :
    RefusedWith (.fillRect n b rect colour) 0x32 result s :=
  refusedWith_of_taking rfl (exec_fillRect ..) (by
    unfold fillRectOk at h
    simp only [doFillRect, taken_writeCheck, h]) rfl

theorem textPut_refused (h : s.writeCheck .tablet n .text (textPutOk b row column) = .error result) :
    RefusedWith (.textPut n b row column cells) 0x33 result s :=
  refusedWith_of_taking rfl (exec_textPut ..) (by simp only [doTextPut, taken_writeCheck, h]) rfl

theorem textDataFrame_refused (h : s.writeCheck .vehicle n .text (textPutOk b row column) = .error result) :
    RefusedWith (.textDataFrame n b row column attr codes) 0x33 result s :=
  refusedWith_of_taking rfl (exec_textDataFrame ..) (by simp only [doTextData, taken_writeCheck, h]) rfl

theorem textClear_refused (h : s.writeCheck m n .text (textClearOk b) = .error result) :
    RefusedWith (.textClear m n b) 0x34 result s :=
  refusedWith_of_taking rfl (exec_textClear ..) (by
    unfold textClearOk at h
    simp only [doTextClear, taken_writeCheck, h]) rfl

end

/-- Settles O24: each command is refused as the check of R41 answers, step by step. -/
theorem writeRequestsRefusedInOrder : Obligations.WriteRequestsRefusedInOrder := by
  intro m n b rect colour row column cells attr codes p s owned
  have textValues : p.buffers ≤ b ∨ p.sizeY ≤ row ∨ p.sizeX ≤ column → textPutOk b row column p = false := by
    simp only [textPutOk, Bool.and_eq_false_iff, decide_eq_false_iff_not, not_lt, or_assoc]
    exact id
  have textFits : b < p.buffers → row < p.sizeY → column < p.sizeX → textPutOk b row column p = true :=
    fun hb hrow hcolumn => by simp [textPutOk, hb, hrow, hcolumn]
  refine ⟨?_, ?_, fun hkind => textClear_refused (writeCheck_badKind owned (by simp [hkind])), fun hkind =>
    ⟨fun hb => textClear_refused (writeCheck_badValue owned hkind (by simpa [textClearOk] using hb)),
      fun hb phase => textClear_refused (writeCheck_paneBusy owned hkind (by simpa [textClearOk] using hb) phase)⟩⟩
  · rintro rfl
    refine ⟨fun hkind => ?_, fun hkind => ⟨fun bad => ?_, fun bad => ?_, fun hb hw hh phase => ⟨?_, fun hw' hh' => ?_⟩⟩,
      fun hkind => ?_, fun hkind => ⟨fun bad => ?_, fun hb hrow hcolumn phase => ?_⟩⟩
    · have bad : p.kind ≠ .pixel := by simp [hkind]
      exact ⟨writeBegin_refused (writeCheck_badKind owned bad), fillRect_refused (writeCheck_badKind owned bad)⟩
    · refine writeBegin_refused (writeCheck_badValue owned hkind ?_)
      simp only [writeBeginOk, Bool.and_eq_false_iff, decide_eq_false_iff_not]
      omega
    · refine fillRect_refused (writeCheck_badValue owned hkind ?_)
      simp only [fillRectOk, Bool.and_eq_false_iff, decide_eq_false_iff_not]
      omega
    · exact fillRect_refused (writeCheck_paneBusy owned hkind (by simp [fillRectOk, hb, hw, hh]) phase)
    · exact writeBegin_refused
        (writeCheck_paneBusy owned hkind (by simp [writeBeginOk, hb, hw, hh, hw', hh']) phase)
    · exact textPut_refused (writeCheck_badKind owned (by simp [hkind]))
    · exact textPut_refused (writeCheck_badValue owned hkind (textValues bad))
    · exact textPut_refused (writeCheck_paneBusy owned hkind (textFits hb hrow hcolumn) phase)
  · rintro rfl
    refine ⟨fun hkind => ?_, fun hkind => ⟨fun bad => ?_, fun hb hrow hcolumn phase => ?_⟩⟩
    · exact textDataFrame_refused (writeCheck_badKind owned (by simp [hkind]))
    · exact textDataFrame_refused (writeCheck_badValue owned hkind (textValues bad))
    · exact textDataFrame_refused (writeCheck_paneBusy owned hkind (textFits hb hrow hcolumn) phase)

/-! ### Writes that begin (R42, R46 to R48, R171) -/

/-- A master's write replaced and nothing else. -/
def withWrite (m : Master) (w : Option ActiveWrite) (s : State) : State := { s with mem := s.mem.setWrite m w }

theorem withWrite_taken (m k : Master) (w : Option ActiveWrite) (s : State) :
    withWrite k w (taken m s) = taken m (withWrite k w s) := by cases m <;> rfl

/-- No write of a master is under way when its request is taken. -/
theorem writeOf_of_turn {m : Master} {r : Request} {s : State} (turn : Turn m r s) : s.mem.writeOf m = none := by
  cases m with
  | tablet => exact turn.2.2.2.2
  | vehicle => exact turn.2.2

theorem withWrite_none {m : Master} {s : State} (h : s.mem.writeOf m = none) : withWrite m none s = s := by
  obtain ⟨_, _, ⟨⟩⟩ := s
  cases m <;> cases h <;> rfl

/-- A write that begins becomes the master's; one without a byte to write leaves none under way. -/
theorem startWrite_taken {m : Master} {r : Request} {p : Pane} {job : WriteJob} {s : State} {busy : Prop}
    [Decidable busy] (turn : Turn m r s) (hbusy : job.writes p = true ↔ busy) :
    startWrite m p job (taken m s) =
      taken m (withWrite m (if busy then some { job := job, done := 0 } else none) s) := by
  unfold startWrite
  by_cases h : busy
  · rw [if_pos (hbusy.2 h), if_pos h, ← withWrite_taken]
    rfl
  · rw [if_neg (mt hbusy.1 h), if_neg h, withWrite_none (writeOf_of_turn turn)]

theorem fillRect_writes_iff {n b : Nat} {rect : Rect} {colour : Nat} {p : Pane} (hw : 1 ≤ rect.w) (hh : 1 ≤ rect.h) :
    (WriteJob.fillRect n b rect colour).writes p = true ↔ rect.x < p.sizeX ∧ rect.y < p.sizeY := by
  simp only [WriteJob.writes, WriteJob.spans, List.any_map, List.any_eq_true, List.mem_range, Function.comp_apply,
    bne_iff_ne, exists_and_right]
  constructor
  · rintro ⟨⟨j, hj⟩, hlen⟩
    omega
  · rintro ⟨hx, hy⟩
    exact ⟨⟨0, by omega⟩, by omega⟩

theorem textPut_writes_iff {n b row column : Nat} {cells : List TextCell} {p : Pane} (hrow : row < p.sizeY)
    (hcolumn : column < p.sizeX) : (WriteJob.textPut n b row column cells).writes p = true ↔ cells ≠ [] := by
  have : 2 * min cells.length (p.sizeX - column) ≠ 0 ↔ cells.length ≠ 0 := by omega
  simpa [WriteJob.writes, WriteJob.spans, hrow] using this

theorem textClear_writes_iff {n b : Nat} {p : Pane} (hX : 1 ≤ p.sizeX) (hY : 1 ≤ p.sizeY) :
    (WriteJob.textClear n b).writes p = true ↔ True := by
  have hX : p.sizeX ≠ 0 := by omega
  have hY : p.sizeY ≠ 0 := by omega
  simp [WriteJob.writes, WriteJob.spans, surfaceBytes, hX, hY]

/-- Settles O25: the checks of R41 pass, and the write begins by `startWrite_taken`. -/
theorem acceptedWritesBegin : Obligations.AcceptedWritesBegin := by
  intro m n b row column rect colour cells attr codes p s owned phase hb
  have textFits : row < p.sizeY → column < p.sizeX → textPutOk b row column p = true :=
    fun hrow hcolumn => by simp [textPutOk, hb, hrow, hcolumn]
  refine ⟨?_, ?_, ?_, ?_⟩
  · rintro rfl hkind hw hh turn
    have passes := writeCheck_ok (ok := fillRectOk b rect) owned hkind (by simp [fillRectOk, hb, hw, hh]) phase
    unfold fillRectOk at passes
    rw [exec_fillRect, taking_of_turn turn]
    simp only [doFillRect, taken_writeCheck, passes, startWrite_taken turn (fillRect_writes_iff hw hh), reply_taken,
      requestCode]
    rfl
  · rintro rfl hkind hrow hcolumn turn
    have passes := writeCheck_ok owned hkind (textFits hrow hcolumn) phase
    rw [exec_textPut, taking_of_turn turn]
    simp only [doTextPut, taken_writeCheck, passes, startWrite_taken turn (textPut_writes_iff hrow hcolumn),
      reply_taken, requestCode]
    rfl
  · rintro rfl hkind hrow hcolumn turn
    have passes := writeCheck_ok owned hkind (textFits hrow hcolumn) phase
    have busy : (WriteJob.textPut n b row column (frameCells attr codes)).writes p = true ↔ codes ≠ [] :=
      (textPut_writes_iff hrow hcolumn).trans (by simp [frameCells])
    rw [exec_textDataFrame, taking_of_turn turn]
    simp only [doTextData, taken_writeCheck, passes, startWrite_taken turn busy]
    rfl
  · intro hkind hX hY turn
    have passes := writeCheck_ok (ok := textClearOk b) owned hkind (by simp [textClearOk, hb]) phase
    unfold textClearOk at passes
    rw [exec_textClear, taking_of_turn turn]
    simp only [doTextClear, taken_writeCheck, passes, startWrite_taken turn (textClear_writes_iff hX hY), reply_taken,
      requestCode]
    cases m <;> rfl

/-! ### WRITE BEGIN (R44, R167, R168) -/

/-- The state once an open stream that has not ended is ended INCOMPLETE (R168). -/
def streamCut (s : State) : State :=
  match s.dock.stream with
  | some st =>
    if st.ended then s
    else handed .tablet (.notice (.writeDone st.pane st.buffer .incomplete (st.total - st.received))) s
  | none => s

/-- The stream that WRITE BEGIN opens (R44, R167). -/
def openedStream (n b : Nat) (rect : Rect) : Stream :=
  { pane := n, buffer := b, rect := rect, total := rect.w * rect.h * 2, nextExpected := 0, received := 0, missing := 0
    ended := false }

theorem streamCut_taken (s : State) : streamCut (taken .tablet s) = taken .tablet (streamCut s) := by
  unfold streamCut
  rw [taken_stream]
  split
  · split <;> rfl
  · rfl

/-- WRITE BEGIN ends an open stream and opens its own. -/
theorem openStream_eq (n b : Nat) (rect : Rect) (s : State) :
    openStream n b rect s =
      { streamCut s with dock := { (streamCut s).dock with stream := some (openedStream n b rect) } } := by
  unfold openStream streamCut
  cases s.dock.stream with
  | none => rfl
  | some st =>
    dsimp only
    rw [writeDone, handTablet_eq_handed]
    rfl

theorem openStream_taken (n b : Nat) (rect : Rect) (s : State) :
    openStream n b rect (taken .tablet s) =
      taken .tablet
        { streamCut s with dock := { (streamCut s).dock with stream := some (openedStream n b rect) } } := by
  rw [openStream_eq, streamCut_taken]
  rfl

/-- Settles O26. -/
theorem writeBeginOpensAStream : Obligations.WriteBeginOpensAStream := by
  intro n b rect p s turn owned hkind phase hb hw hw' hh hh'
  have passes := writeCheck_ok (ok := writeBeginOk b rect) owned hkind (by simp [writeBeginOk, hb, hw, hh, hw', hh'])
    phase
  unfold writeBeginOk at passes
  rw [exec_writeBegin, taking_of_turn turn]
  simp only [doWriteBegin, taken_writeCheck, passes, openStream_taken, reply_taken, requestCode]
  rfl

/-! ### The release of full reset (R51) -/

/-- Settles O8: each block by definition, for both levels of the pins that it depends on. -/
theorem releaseSetsTheOtherBlocks : Obligations.ReleaseSetsTheOtherBlocks := by
  intro ids1 ids0 pins s
  refine ⟨releasedState ids1 ids0 pins (cutAll s), rfl, rfl, rfl, rfl, rfl, rfl, rfl, rfl, rfl, rfl, ?_, ?_, ?_, rfl,
    rfl, rfl, rfl⟩
  · simp only [releasedState, resetState, LineBlock.afterReset, linkAfterReset, ledToggleMs]
    cases pins.bay <;> rfl
  · rfl
  · cases ids1 <;> cases ids0 <;> rfl

end Sys2Proof.Proofs

/-! ## The bytes of the arbiter's clients: landed one after another, in strictly rising addresses (R39, R42 to R50) -/

namespace Sys2Proof.Proofs

open Sys2Proof.Machine Sys2Proof.Safety

/-! ### Bytes landed one after another -/

/-- Bytes put into memory one after another. -/
def landBytes (m : List Host.Cell) (l : List (Nat × Byte)) : List Host.Cell :=
  l.foldl (fun m c => Memory.update m c.1 1 fun _ => some c.2) m

/-- What a byte still to be written puts into memory. -/
def byteOf (x : Placed) : Nat × Byte := (x.address, x.value)

theorem landBytes_append (m : List Host.Cell) (l k : List (Nat × Byte)) :
    landBytes m (l ++ k) = landBytes (landBytes m l) k := List.foldl_append

theorem landBytes_wf (l : List (Nat × Byte)) (m : List Host.Cell) (wf : Memory.wf m) : Memory.wf (landBytes m l) :=
  fold_wf _ (fun _ _ h => update_wf _ _ _ _ h) l m wf

/-- An access lands its bytes one after another. -/
theorem landBytes_placed (m : List Host.Cell) (l : List Placed) :
    landBytes m (l.map byteOf) = l.foldl Placed.land m := List.foldl_map

/-- A range written at once is its bytes landed in ascending order. -/
theorem update_eq_landBytes (f : Nat → Byte) (len base : Nat) (m : List Host.Cell) (wf : Memory.wf m) :
    Memory.update m base len (fun a => some (f a)) = landBytes m ((List.range' base len).map fun a => (a, f a)) := by
  induction len generalizing base m with
  | zero =>
    refine wf_ext (update_wf _ _ _ _ wf) wf fun a => ?_
    rw [read_update _ _ _ _ _ wf, if_neg (by omega)]
    rfl
  | succ len ih =>
    have first : Memory.wf (Memory.update m base 1 fun _ => some (f base)) := update_wf _ _ _ _ wf
    rw [List.range'_succ, List.map_cons, landBytes, List.foldl_cons, ← landBytes, ← ih (base + 1) _ first]
    refine wf_ext (update_wf _ _ _ _ wf) (update_wf _ _ _ _ first) fun a => ?_
    rw [read_update _ _ _ _ _ wf, read_update _ _ _ _ _ first, read_update _ _ _ _ _ wf]
    by_cases h : a = base
    · subst h
      by_cases inside : a < memoryBytes <;> simp [inside]
    · have bounds : (base ≤ a ∧ a < base + (len + 1) ∧ a < memoryBytes) ↔
          base + 1 ≤ a ∧ a < base + 1 + len ∧ a < memoryBytes := by omega
      have other : ¬(base ≤ a ∧ a < base + 1 ∧ a < memoryBytes) := by omega
      simp only [bounds, other, if_false, Option.getD_some]

theorem land_eq_landBytes (m : List Host.Cell) (sp : Span) (wf : Memory.wf m) : sp.land m = landBytes m sp.bytes :=
  update_eq_landBytes sp.byteAt sp.len sp.base m wf

/-- Spans written one after another are their bytes landed one after another. -/
theorem foldl_land_eq_landBytes (l : List Span) (m : List Host.Cell) (wf : Memory.wf m) :
    l.foldl Span.land m = landBytes m (l.flatMap Span.bytes) := by
  induction l generalizing m with
  | nil => rfl
  | cons sp l ih =>
    rw [List.foldl_cons, ih _ (land_wf m sp wf), land_eq_landBytes m sp wf, List.flatMap_cons, landBytes_append]

/-- The bytes of a buffer that have a target, as the drain places them. -/
theorem streamPlaced_cons (p : Pane) (st : Stream) (k : Nat) (b : Byte) (rest : List Byte) :
    st.placed p k (b :: rest) =
      ((st.target p k).map fun a => ({ number := k, address := a, value := b } : Placed)).toList ++
        st.placed p (k + 1) rest := by
  simp only [Stream.placed, List.zipIdx_cons, List.filterMap_cons]
  cases st.target p k <;> rfl

/-- The drain of a buffer lands its bytes with a target one after another (R45). -/
theorem drainBytes_eq_landBytes (p : Pane) (st : Stream) (k : Nat) (bytes : List Byte) (m : List Host.Cell) :
    drainBytes p st k bytes m = landBytes m ((st.placed p k bytes).map byteOf) := by
  induction bytes generalizing k m with
  | nil => rfl
  | cons b rest ih =>
    rw [drainBytes, ih, streamPlaced_cons, List.map_append, landBytes_append]
    cases st.target p k <;> rfl

/-- Cells put from an address on are their bytes landed one after another. -/
theorem putCells_eq_landBytes (m : List Host.Cell) (base : Nat) (cells : List TextCell) (wf : Memory.wf m) :
    putCells m base cells =
      landBytes m ((List.range (2 * cells.length)).map fun k => (base + k, cellByte cells k)) := by
  rw [putCells, update_eq_landBytes (fun a => cellByte cells (a - base)) _ _ _ wf, List.range'_eq_map_range,
    List.map_map]
  refine congrArg _ (List.map_congr_left fun k _ => ?_)
  simp only [Function.comp_apply, Nat.add_sub_cancel_left]

/-! ### The bytes of a write by number (R46 to R48) -/

/-- The byte with a number of a write of the text writer: where it goes and what it is. -/
def jobByte (p : Pane) (job : WriteJob) (k : Nat) : Nat × Byte :=
  match job with
  | .fillRect _ b rect colour =>
    let w := min rect.w (p.sizeX - rect.x)
    let a := p.bufferBase b + ((rect.y + k / (2 * w)) * p.sizeX + rect.x) * 2 + k % (2 * w)
    (a, if a % 2 = 0 then byte colour else byte (colour / 256))
  | .textPut _ b row column cells => (p.bufferBase b + (row * p.sizeX + column) * 2 + k, cellByte cells k)
  | .textClear _ b =>
    let a := p.bufferBase b + k
    (a, if a % 2 = 0 then blankCell.code else blankCell.attr)

/-- Rows of one length laid end to end. -/
theorem flatMap_range_rows {α : Type} (f : Nat → Nat → α) (c h : Nat) :
    ((List.range h).flatMap fun j => (List.range c).map (f j)) =
      (List.range (c * h)).map fun k => f (k / c) (k % c) := by
  induction h with
  | zero => simp
  | succ h ih =>
    rw [List.range_succ, List.flatMap_append, ih, Nat.mul_succ, List.range_add, List.map_append]
    refine congrArg _ ?_
    rw [List.flatMap_singleton, List.map_map]
    refine List.map_congr_left fun i hi => ?_
    have hi := List.mem_range.1 hi
    rw [Function.comp_apply, Nat.mul_add_div (by omega), Nat.mul_add_mod, Nat.div_eq_of_lt hi, Nat.mod_eq_of_lt hi,
      Nat.add_zero]

theorem spanBytes_eq (sp : Span) :
    sp.bytes = (List.range sp.len).map fun i => (sp.base + i, sp.byteAt (sp.base + i)) := by
  rw [Span.bytes, List.range'_eq_map_range, List.map_map]
  rfl

/-- All the bytes of a write, in their order. -/
theorem job_bytes (p : Pane) (job : WriteJob) :
    (job.spans p).flatMap Span.bytes = (List.range (jobBytes p job)).map (jobByte p job) := by
  cases job with
  | fillRect n b rect colour =>
    simp only [WriteJob.spans, List.flatMap_map, spanBytes_eq, jobBytes]
    exact flatMap_range_rows _ _ _
  | textPut n b row column cells =>
    by_cases hrow : row < p.sizeY
    · simp [WriteJob.spans, jobBytes, hrow, spanBytes_eq, jobByte]
    · simp [WriteJob.spans, jobBytes, hrow]
  | textClear n b => simp [WriteJob.spans, jobBytes, spanBytes_eq, surfaceBytes, jobByte]

/-- The byte with a number of a write, as it is placed. -/
def jobPlaced (p : Pane) (job : WriteJob) (k : Nat) : Placed :=
  { number := k, address := (jobByte p job k).1, value := (jobByte p job k).2 }

/-- What a write under way has left: its bytes from number `done` on. -/
theorem activePlaced_eq (p : Pane) (w : ActiveWrite) :
    w.placed p = (List.range' w.done (jobBytes p w.job - w.done)).map (jobPlaced p w.job) := by
  rw [ActiveWrite.placed, ActiveWrite.spans, spansLeft_bytes, job_bytes, ← List.map_drop, List.range_eq_range',
    List.drop_range', Nat.zero_add, Nat.mul_one]
  refine List.ext_getElem (by simp) fun i h1 h2 => ?_
  simp [jobPlaced]

/-- A point of the surface lies in the buffer. -/
theorem point_in_buffer {x y X Y : Nat} (hx : x < X) (hy : y < Y) : y * X + x + 1 ≤ X * Y := by
  have rows := Nat.mul_le_mul_right X hy
  rw [Nat.succ_mul, Nat.mul_comm Y] at rows
  omega

/-- Points in the order of their rows have addresses in that order. -/
theorem point_lt_of_row_lt {x x' y y' X : Nat} (hx : x < X) (hy : y < y') : y * X + x + 1 ≤ y' * X + x' := by
  have rows := Nat.mul_le_mul_right X hy
  rw [Nat.succ_mul] at rows
  omega

/-- The bytes of a write go to rising addresses. -/
theorem jobByte_lt {p : Pane} {job : WriteJob} {k l : Nat} (hkl : k < l) (hl : l < jobBytes p job) :
    (jobByte p job k).1 < (jobByte p job l).1 := by
  cases job with
  | fillRect n b rect colour =>
    simp only [jobByte, jobBytes] at hl ⊢
    generalize hw : min rect.w (p.sizeX - rect.x) = w at hl ⊢
    have hpos : 0 < 2 * w := Nat.pos_of_ne_zero fun h => by simp [h] at hl
    have column := Nat.mod_lt k hpos
    have rows := Nat.div_le_div_right (c := 2 * w) hkl.le
    by_cases same : k / (2 * w) = l / (2 * w)
    · have hk := Nat.div_add_mod k (2 * w)
      have hl' := Nat.div_add_mod l (2 * w)
      rw [same] at hk ⊢
      omega
    · have := point_lt_of_row_lt (x := rect.x + (k % (2 * w)) / 2) (x' := rect.x) (X := p.sizeX)
        (y := rect.y + k / (2 * w)) (y' := rect.y + l / (2 * w)) (by omega) (by omega)
      omega
  | textPut n b row column cells => simp only [jobByte]; omega
  | textClear n b => simp only [jobByte]; omega

/-- The bytes of a write lie in its buffer. -/
theorem jobByte_inside {p : Pane} {job : WriteJob} {k : Nat} (hk : k < jobBytes p job) :
    p.bufferBase job.buffer ≤ (jobByte p job k).1 ∧
      (jobByte p job k).1 < p.bufferBase job.buffer + p.sizeX * p.sizeY * 2 := by
  cases job with
  | fillRect n b rect colour =>
    simp only [jobByte, jobBytes, WriteJob.buffer] at hk ⊢
    generalize hw : min rect.w (p.sizeX - rect.x) = w at hk ⊢
    have hpos : 0 < 2 * w := Nat.pos_of_ne_zero fun h => by simp [h] at hk
    have column := Nat.mod_lt k hpos
    have row := Nat.div_lt_of_lt_mul hk
    generalize k / (2 * w) = j at row ⊢
    generalize k % (2 * w) = i at column ⊢
    have := point_in_buffer (x := rect.x + i / 2) (y := rect.y + j) (X := p.sizeX) (Y := p.sizeY) (by omega) (by omega)
    omega
  | textPut n b row column cells =>
    simp only [jobByte, jobBytes, WriteJob.buffer] at hk ⊢
    split at hk
    · have := point_in_buffer (x := column + k / 2) (y := row) (X := p.sizeX) (Y := p.sizeY) (by omega) ‹_›
      omega
    · omega
  | textClear n b =>
    simp only [jobByte, jobBytes, WriteJob.buffer] at hk ⊢
    omega

/-! ### The targets of a stream (R44) -/

theorem target_eq_some {p : Pane} {st : Stream} {k a : Nat} (h : st.target p k = some a) :
    st.rect.x + k / 2 % st.rect.w < p.sizeX ∧ st.rect.y + k / 2 / st.rect.w < p.sizeY ∧
      a = p.bufferBase st.buffer +
        ((st.rect.y + k / 2 / st.rect.w) * p.sizeX + (st.rect.x + k / 2 % st.rect.w)) * 2 + k % 2 := by
  simp only [Stream.target, Option.ite_none_right_eq_some, Option.some.injEq] at h
  exact ⟨h.1.1, h.1.2, h.2.symm⟩

/-- The bytes of a stream go to rising addresses. -/
theorem target_lt {p : Pane} {st : Stream} {k l a b : Nat} (hkl : k < l) (ha : st.target p k = some a)
    (hb : st.target p l = some b) : a < b := by
  obtain ⟨hx, -, rfl⟩ := target_eq_some ha
  obtain ⟨-, -, rfl⟩ := target_eq_some hb
  have rows := Nat.div_le_div_right (c := st.rect.w) (show k / 2 ≤ l / 2 by omega)
  have hk := Nat.div_add_mod (k / 2) st.rect.w
  have hl := Nat.div_add_mod (l / 2) st.rect.w
  by_cases same : k / 2 / st.rect.w = l / 2 / st.rect.w
  · rw [same] at hk ⊢
    omega
  · have := point_lt_of_row_lt (x' := st.rect.x + l / 2 % st.rect.w) (y := st.rect.y + k / 2 / st.rect.w)
      (y' := st.rect.y + l / 2 / st.rect.w) hx (by omega)
    omega

/-- The targets of a stream lie in its buffer. -/
theorem target_inside {p : Pane} {st : Stream} {k a : Nat} (h : st.target p k = some a) :
    a < p.bufferBase st.buffer + p.sizeX * p.sizeY * 2 := by
  obtain ⟨hx, hy, rfl⟩ := target_eq_some h
  have := point_in_buffer hx hy
  omega

/-- The bytes with a target of a buffer, one by one. -/
theorem mem_streamPlaced {p : Pane} {st : Stream} {start : Nat} {bytes : List Byte} {x : Placed} :
    x ∈ st.placed p start bytes ↔
      ∃ k, ∃ h : k < bytes.length, st.target p (start + k) = some x.address ∧ x.number = start + k ∧
        x.value = bytes[k] := by
  simp only [Stream.placed, List.mem_filterMap, Option.map_eq_some_iff, Prod.exists,
    List.mk_mem_zipIdx_iff_le_and_getElem?_sub]
  constructor
  · rintro ⟨b, k, ⟨hk, hb⟩, a, ha, rfl⟩
    obtain ⟨hlen, rfl⟩ := List.getElem?_eq_some_iff.1 hb
    exact ⟨k - start, hlen, by rwa [Nat.add_sub_cancel' hk], by dsimp only; omega, rfl⟩
  · rintro ⟨k, hk, ha, hn, hv⟩
    refine ⟨bytes[k], start + k, ⟨by omega, by simp [hk]⟩, x.address, ha, ?_⟩
    rw [← hn, ← hv]

theorem streamPlaced_rising (p : Pane) (st : Stream) (start : Nat) (bytes : List Byte) :
    (st.placed p start bytes).Pairwise fun x y => x.number < y.number ∧ x.address < y.address := by
  induction bytes generalizing start with
  | nil => exact List.Pairwise.nil
  | cons b rest ih =>
    rw [streamPlaced_cons]
    cases ha : st.target p start with
    | none => exact ih (start + 1)
    | some a =>
      refine List.pairwise_cons.2 ⟨fun y hy => ?_, ih (start + 1)⟩
      obtain ⟨k, -, target, number, -⟩ := mem_streamPlaced.1 hy
      refine ⟨?_, target_lt (k := start) ?_ ha target⟩
      · dsimp only; omega
      · omega

/-! ### What a client has left -/

/-- A byte of the block that a fill is at. -/
def fillPlaced (e : FillEntry) (k : Nat) : Placed :=
  { number := k, address := (e.run.start + e.blocksDone) * 4096 + k
    value := e.pattern.byteAt ((e.run.start + e.blocksDone) * 4096 + k) }

/-- A byte of a status row write. -/
def rowPlaced (r : RowWrite) (k : Nat) : Placed :=
  { number := k, address := statusRowBase + 2 * r.column + k, value := cellByte r.cells k }

section
variable {s : State} {p : Pane}

theorem work_fill {e : FillEntry} {rest : List FillEntry} (fills : s.mem.fills = e :: rest)
    (hp : s.pane? e.pane = some p) (phase : p.phase = .preparing)
    (inside : (e.run.start + e.run.length) * 4096 ≤ 2097152) (blocks : e.blocksDone < e.run.length) :
    s.work .fill = (List.range' e.bytesDone (4096 - e.bytesDone)).map (fillPlaced e) := by
  simp only [State.work, fills, hp, Option.any_some, phase, beq_self_eq_true, (inMemory_iff e).2 inside, Bool.and_self,
    if_true, FillEntry.placed, if_pos blocks]
  rfl

theorem work_drain {name : BufferName} {start : Nat} {bytes : List Byte} {st : Stream}
    (oldest : s.dock.oldest = some name) (content : (s.dock.rx name).content = some (start, bytes))
    (stream : s.dock.stream = some st) (hp : s.pane? st.pane = some p) (writable : Writable p st.buffer) :
    s.work .drain = st.placed p start bytes := by
  simp only [State.work, oldest, Option.bind_some, content, stream, hp, (canWrite_iff _ _).2 writable, if_true]

theorem work_write {m : Master} {a : ActiveWrite} (active : s.mem.writeOf m = some a)
    (hp : s.pane? a.job.pane = some p) (writable : Writable p a.job.buffer) :
    s.work (.text (sourceOf m)) = a.placed p := by
  have left : s.writeLeft a = a.placed p := by simp [State.writeLeft, hp, (canWrite_iff _ _).2 writable]
  cases m <;> simp only [SurfaceMemory.writeOf] at active <;> simp [sourceOf, State.work, active, left]

theorem work_row {r : RowWrite} {rest : List RowWrite} (rows : s.mem.rowWrites = r :: rest)
    (inside : 1966080 + 2 * (r.column + r.cells.length) ≤ 2097152) :
    s.work (.text .statusRow) = (List.range' 0 (2 * r.cells.length)).map (rowPlaced r) := by
  have covered : Memory.covers (statusRowBase + 2 * r.column) (2 * r.cells.length) = true := by
    rw [covers_iff, statusRowBase]
    omega
  simp only [State.work, rows, covered, if_true, RowWrite.placed, List.range_eq_range']
  rfl

end

/-- Who has work left and what it is, in the model's terms. -/
inductive Working : Writer → State → Prop
  | fill {s : State} {e : FillEntry} {rest : List FillEntry} {p : Pane} (fills : s.mem.fills = e :: rest)
      (hp : s.pane? e.pane = some p) (phase : p.phase = .preparing)
      (inside : (e.run.start + e.run.length) * 4096 ≤ 2097152) (blocks : e.blocksDone < e.run.length)
      (bytes : e.bytesDone < 4096) : Working .fill s
  | drain {s : State} {name : BufferName} {start : Nat} {bytes : List Byte} {st : Stream} {p : Pane}
      (oldest : s.dock.oldest = some name) (content : (s.dock.rx name).content = some (start, bytes))
      (stream : s.dock.stream = some st) (hp : s.pane? st.pane = some p) (writable : Writable p st.buffer) :
      Working .drain s
  | write {s : State} {m : Master} {a : ActiveWrite} {p : Pane} (active : s.mem.writeOf m = some a)
      (hp : s.pane? a.job.pane = some p) (writable : Writable p a.job.buffer) : Working (.text (sourceOf m)) s
  | row {s : State} {r : RowWrite} {rest : List RowWrite} (rows : s.mem.rowWrites = r :: rest)
      (inside : 1966080 + 2 * (r.column + r.cells.length) ≤ 2097152) : Working (.text .statusRow) s

theorem working_of_hasWork {w : Writer} {s : State} (h : HasWork w s) : Working w s := by
  cases w with
  | fill =>
    obtain ⟨e, rest, p, fills, hp, phase, inside, blocks, bytes⟩ := h
    exact .fill fills hp phase inside blocks bytes
  | drain =>
    obtain ⟨name, start, bytes, st, p, -, oldest, content, stream, hp, writable, -⟩ := h
    exact .drain oldest content stream hp writable
  | text source =>
    cases source with
    | tablet =>
      obtain ⟨a, p, active, hp, writable, -⟩ := h
      exact .write (m := .tablet) active hp writable
    | vehicle =>
      obtain ⟨a, p, active, hp, writable, -⟩ := h
      exact .write (m := .vehicle) active hp writable
    | statusRow =>
      obtain ⟨r, rest, rows, -, inside⟩ := h
      exact .row rows inside

theorem work_ne_nil_iff (w : Writer) (s : State) : s.work w ≠ [] ↔ HasWork w s := by
  rw [← waits_iff_hasWork]
  simp [State.waits]

/-- Numbered bytes rise if their addresses do. -/
theorem range'_rising {f : Nat → Placed} {n len : Nat}
    (rise : ∀ k l, n ≤ k → k < l → l < n + len → (f k).address < (f l).address) :
    ((List.range' n len).map f).Pairwise fun x y => x.address < y.address := by
  rw [List.pairwise_map]
  refine (List.pairwise_lt_range' (step := 1) (by omega)).imp_of_mem fun {k l} hk hl hkl => ?_
  exact rise k l (List.mem_range'_1.1 hk).1 hkl (List.mem_range'_1.1 hl).2

/-- A client's bytes go to rising addresses. -/
theorem work_rising (w : Writer) (s : State) : (s.work w).Pairwise fun x y => x.address < y.address := by
  by_cases h : HasWork w s
  · cases working_of_hasWork h with
    | fill fills hp phase inside blocks bytes =>
      rw [work_fill fills hp phase inside blocks]
      exact range'_rising fun k l _ hkl _ => by simp only [fillPlaced]; omega
    | drain oldest content stream hp writable =>
      rw [work_drain oldest content stream hp writable]
      exact (streamPlaced_rising _ _ _ _).imp And.right
    | write active hp writable =>
      rw [work_write active hp writable, activePlaced_eq]
      exact range'_rising fun k l hk hkl hl => jobByte_lt hkl (by omega)
    | row rows inside =>
      rw [work_row rows inside]
      exact range'_rising fun k l _ hkl _ => by simp only [rowPlaced]; omega
  · rw [not_not.1 (mt (work_ne_nil_iff w s).1 h)]
    exact List.Pairwise.nil

/-- A client's bytes lie in the memory (R32). -/
theorem work_inside (w : Writer) (s : State) : ∀ x ∈ s.work w, x.address < memoryBytes := by
  intro x hx
  cases working_of_hasWork ((work_ne_nil_iff w s).1 (List.ne_nil_of_mem hx)) with
  | fill fills hp phase inside blocks bytes =>
    rw [work_fill fills hp phase inside blocks] at hx
    obtain ⟨k, hk, rfl⟩ := List.mem_map.1 hx
    have := (List.mem_range'_1.1 hk).2
    simp only [fillPlaced, memoryBytes]
    omega
  | drain oldest content stream hp writable =>
    rw [work_drain oldest content stream hp writable] at hx
    obtain ⟨k, -, target, -⟩ := mem_streamPlaced.1 hx
    exact Nat.lt_of_lt_of_le (target_inside target) writable.2.2
  | write active hp writable =>
    rw [work_write active hp writable, activePlaced_eq] at hx
    obtain ⟨k, hk, rfl⟩ := List.mem_map.1 hx
    have := List.mem_range'_1.1 hk
    exact Nat.lt_of_lt_of_le (jobByte_inside (by omega)).2 writable.2.2
  | row rows inside =>
    rw [work_row rows inside] at hx
    obtain ⟨k, hk, rfl⟩ := List.mem_map.1 hx
    have := (List.mem_range'_1.1 hk).2
    simp only [rowPlaced, statusRowBase, memoryBytes]
    omega

/-! ### What a completion lands -/

/-- What the completion of a client's work still has to write: for the fill the rest of its run, for the others their
work. -/
def remaining (s : State) : Writer → List (Nat × Byte)
  | .fill =>
    match s.mem.fills with
    | e :: _ => if (s.pane? e.pane).any (·.phase == .preparing) && e.inMemory then e.left.bytes else []
    | [] => []
  | .drain => (s.work .drain).map byteOf
  | .text source => (s.work (.text source)).map byteOf

theorem remaining_fill {s : State} {e : FillEntry} {rest : List FillEntry} {p : Pane}
    (fills : s.mem.fills = e :: rest) (hp : s.pane? e.pane = some p) (phase : p.phase = .preparing)
    (inside : (e.run.start + e.run.length) * 4096 ≤ 2097152) : remaining s .fill = e.left.bytes := by
  simp [remaining, fills, hp, phase, (inMemory_iff e).2 inside]

theorem activePlaced_bytes (p : Pane) (a : ActiveWrite) : (a.placed p).map byteOf = (a.spans p).flatMap Span.bytes := by
  rw [ActiveWrite.placed, List.map_map]
  exact List.zipIdx_map_fst _ _

theorem landJob_eq_landBytes {s : State} {a : ActiveWrite} {p : Pane} (wf : MemoryKept s)
    (hp : s.pane? a.job.pane = some p) (writable : Writable p a.job.buffer) :
    landJob s a = some (landBytes s.mem.cells ((a.placed p).map byteOf)) := by
  obtain ⟨phase, buffer, inside⟩ := writable
  rw [activePlaced_bytes, ← foldl_land_eq_landBytes _ _ wf]
  simp [landJob, hp, (takesWrites_iff p _).2 ⟨phase, buffer⟩, (bufferInMemory_iff p _).2 inside]

theorem landDrain_eq_landBytes {s : State} {st : Stream} {p : Pane} (start : Nat) (bytes : List Byte)
    (stream : s.dock.stream = some st) (hp : s.pane? st.pane = some p) (writable : Writable p st.buffer) :
    landDrain s start bytes = some (landBytes s.mem.cells ((st.placed p start bytes).map byteOf)) := by
  obtain ⟨phase, buffer, inside⟩ := writable
  simp [landDrain, stream, hp, (takesWrites_iff p _).2 ⟨phase, buffer⟩, (bufferInMemory_iff p _).2 inside,
    drainBytes_eq_landBytes]

/-- A completion lands what remains. -/
theorem landLeft_eq_landBytes {w : Writer} {s : State} (wf : MemoryKept s) (working : Working w s) :
    s.landLeft w = some (landBytes s.mem.cells (remaining s w)) := by
  cases working with
  | @fill _ e rest p fills hp phase inside blocks bytes =>
    rw [remaining_fill fills hp phase inside, ← land_eq_landBytes _ _ wf]
    simp [State.landLeft, fills, hp, phase, (inMemory_iff e).2 inside]
  | drain oldest content stream hp writable =>
    rw [remaining, work_drain oldest content stream hp writable, ← landDrain_eq_landBytes _ _ stream hp writable]
    simp [State.landLeft, oldest, content]
  | write active hp writable =>
    rw [remaining, work_write active hp writable, ← landJob_eq_landBytes wf hp writable]
    exact landLeft_sourceOf active
  | @row _ r rest rows inside =>
    have covered : Memory.covers (statusRowBase + 2 * r.column) (2 * r.cells.length) = true := by
      rw [covers_iff, statusRowBase]
      omega
    rw [remaining, work_row rows inside, List.map_map, ← List.range_eq_range']
    simp only [State.landLeft, rows, covered, if_true]
    exact congrArg some (putCells_eq_landBytes _ _ _ wf)

end Sys2Proof.Proofs

/-! ## The completions of FILL RECT (O27) and of the drain (O29) -/

namespace Sys2Proof.Proofs

open Sys2Proof.Machine Sys2Proof.Safety

/-- Placed bytes once landed: each stands at its address, and no other byte changes. -/
theorem read_landed {m : List Host.Cell} {l : List Placed} (wf : Memory.wf m)
    (rising : l.Pairwise fun x y => x.address < y.address) (inside : ∀ x ∈ l, x.address < memoryBytes) :
    (∀ x ∈ l, Memory.read (landBytes m (l.map byteOf)) x.address = x.value) ∧
      ∀ a, (∀ x ∈ l, x.address ≠ a) → Memory.read (landBytes m (l.map byteOf)) a = Memory.read m a := by
  rw [landBytes_placed]
  exact ⟨read_access l m wf (rising.imp Nat.ne_of_lt) inside, fun a => read_access_other l m a wf⟩

/-- A write's bytes once landed, by their numbers. -/
theorem read_write_landed {m : List Host.Cell} {p : Pane} {job : WriteJob} (done : Nat) (wf : Memory.wf m)
    (writable : Writable p job.buffer) :
    let cells := landBytes m ((ActiveWrite.placed p { job := job, done := done }).map byteOf)
    (∀ k, done ≤ k → k < jobBytes p job → Memory.read cells (jobByte p job k).1 = (jobByte p job k).2) ∧
      ∀ a, (∀ k, done ≤ k → k < jobBytes p job → (jobByte p job k).1 ≠ a) → Memory.read cells a = Memory.read m a := by
  have numbers : ∀ x, x ∈ ActiveWrite.placed p { job := job, done := done } ↔
      ∃ k, (done ≤ k ∧ k < jobBytes p job) ∧ jobPlaced p job k = x := fun x => by
    rw [activePlaced_eq, List.mem_map]
    refine exists_congr fun k => and_congr_left fun _ => ?_
    rw [List.mem_range'_1]
    dsimp only
    omega
  obtain ⟨written, others⟩ := read_landed (l := ActiveWrite.placed p { job := job, done := done }) wf
    (by
      rw [activePlaced_eq]
      exact range'_rising fun k l hk hkl hl => jobByte_lt hkl (by dsimp only at hk hl ⊢; omega))
    fun x hx => by
      obtain ⟨k, ⟨-, hk⟩, rfl⟩ := (numbers x).1 hx
      exact Nat.lt_of_lt_of_le (jobByte_inside hk).2 writable.2.2
  exact ⟨fun k h1 h2 => written _ ((numbers _).2 ⟨k, ⟨h1, h2⟩, rfl⟩), fun a apart => others a fun x hx => by
    obtain ⟨k, ⟨h1, h2⟩, rfl⟩ := (numbers x).1 hx
    exact apart k h1 h2⟩

/-! ### FILL RECT (R46) -/

/-- The width of a rectangle clipped to a surface. -/
def clippedWidth (p : Pane) (rect : Rect) : Nat := min rect.w (p.sizeX - rect.x)

/-- The height of a rectangle clipped to a surface. -/
def clippedHeight (p : Pane) (rect : Rect) : Nat := min rect.h (p.sizeY - rect.y)

/-- The address of a point of a clipped rectangle (R35). -/
def spotOf (p : Pane) (b : Nat) (rect : Rect) (i j : Nat) : Nat :=
  p.bufferBase b + ((rect.y + j) * p.sizeX + rect.x + i) * 2

section
variable {p : Pane} {n b : Nat} {rect : Rect} {colour : Nat}

theorem bufferBase_even (p : Pane) (b : Nat) : p.bufferBase b % 2 = 0 := by
  simp only [Pane.bufferBase, blockBytes]
  omega

/-- A byte of a FILL RECT, by the row and the column of its number. -/
theorem jobByte_fillRect {i j : Nat} (hi : i < 2 * clippedWidth p rect) :
    jobByte p (.fillRect n b rect colour) (2 * clippedWidth p rect * j + i) =
      (spotOf p b rect (i / 2) j + i % 2, if i % 2 = 0 then byte colour else byte (colour / 256)) := by
  have even := bufferBase_even p b
  have row : (2 * clippedWidth p rect * j + i) / (2 * clippedWidth p rect) = j := by
    rw [Nat.mul_add_div (by omega), Nat.div_eq_of_lt hi, Nat.add_zero]
  have column : (2 * clippedWidth p rect * j + i) % (2 * clippedWidth p rect) = i := by
    rw [Nat.mul_add_mod, Nat.mod_eq_of_lt hi]
  unfold jobByte
  dsimp only
  rw [← clippedWidth, row, column, spotOf]
  have address : p.bufferBase b + ((rect.y + j) * p.sizeX + rect.x) * 2 + i =
      p.bufferBase b + ((rect.y + j) * p.sizeX + rect.x + i / 2) * 2 + i % 2 := by omega
  have parity : (p.bufferBase b + ((rect.y + j) * p.sizeX + rect.x) * 2 + i) % 2 = i % 2 := by omega
  rw [parity, address]

/-- The two bytes of a point, by their numbers. -/
theorem fillRect_point {i : Nat} (j : Nat) (hi : i < clippedWidth p rect) :
    jobByte p (.fillRect n b rect colour) (2 * (j * clippedWidth p rect + i)) = (spotOf p b rect i j, byte colour) ∧
      jobByte p (.fillRect n b rect colour) (2 * (j * clippedWidth p rect + i) + 1) =
        (spotOf p b rect i j + 1, byte (colour / 256)) := by
  have number : 2 * (j * clippedWidth p rect + i) = 2 * clippedWidth p rect * j + 2 * i := by ring
  have half : (2 * i + 1) / 2 = i := by omega
  have odd : (2 * i + 1) % 2 = 1 := by omega
  rw [number, Nat.add_assoc, jobByte_fillRect (by omega), jobByte_fillRect (by omega)]
  simp [half, odd]

/-- Each number of a FILL RECT's bytes is one of a point's two. -/
theorem fillRect_number {k : Nat} (hk : k < jobBytes p (.fillRect n b rect colour)) :
    ∃ i j, i < clippedWidth p rect ∧ j < clippedHeight p rect ∧
      (k = 2 * (j * clippedWidth p rect + i) ∨ k = 2 * (j * clippedWidth p rect + i) + 1) := by
  replace hk : k < 2 * clippedWidth p rect * clippedHeight p rect := hk
  generalize clippedWidth p rect = w at hk ⊢
  have hpos : 0 < 2 * w := Nat.pos_of_ne_zero fun e => by simp [e] at hk
  have column := Nat.mod_lt k hpos
  have whole := Nat.div_add_mod k (2 * w)
  refine ⟨k % (2 * w) / 2, k / (2 * w), by omega, Nat.div_lt_of_lt_mul hk, ?_⟩
  have row : 2 * (k / (2 * w) * w + k % (2 * w) / 2) = 2 * w * (k / (2 * w)) + 2 * (k % (2 * w) / 2) := by ring
  omega

/-- A number of a point's bytes is one of the write's. -/
theorem fillRect_number_lt {i j : Nat} (hi : i < clippedWidth p rect) (hj : j < clippedHeight p rect) :
    2 * (j * clippedWidth p rect + i) + 1 < jobBytes p (.fillRect n b rect colour) := by
  have point := point_in_buffer hi hj
  have total : jobBytes p (.fillRect n b rect colour) = 2 * (clippedWidth p rect * clippedHeight p rect) :=
    Nat.mul_assoc 2 (clippedWidth p rect) (clippedHeight p rect)
  omega

end

/-- Settles O27: the completion lands what is left, whose numbers are those of the points, and ends the write. -/
theorem fillRectWritesItsPoints : Obligations.FillRectWritesItsPoints := by
  intro n b done rect colour p s running active hp phase hb inside wf w h left spot
  have writable : Writable p b := ⟨phase, hb, inside⟩
  have completed := completeWork_of_landLeft running
    ((landLeft_sourceOf (m := .tablet) active).trans (landJob_eq_landBytes wf hp writable))
  rw [finishWork_sourceOf (m := .tablet) _ (waits_sourceOf active hp writable)] at completed
  obtain ⟨written, others⟩ :=
    read_write_landed (job := .fillRect n b rect colour) done wf writable
  refine ⟨_, completed, rfl, fun more => ?_, fun whole => ?_, fun i j hi hj => ?_,
    fun a apart => others a fun k hd hk => ?_⟩
  · simp only [writeFinished, if_pos (show done < jobBytes p (.fillRect n b rect colour) from more), and_self]
  · simp only [writeFinished, if_neg (show ¬done < jobBytes p (.fillRect n b rect colour) from whole), and_self]
  · obtain ⟨low, high⟩ := fillRect_point (n := n) (b := b) (colour := colour) j hi
    have last := fillRect_number_lt (n := n) (b := b) (colour := colour) hi hj
    have lowWritten := fun hd => written (2 * (j * clippedWidth p rect + i)) hd (by omega)
    have highWritten := fun hd => written (2 * (j * clippedWidth p rect + i) + 1) hd last
    rw [low] at lowWritten
    rw [high] at highWritten
    exact ⟨lowWritten, highWritten⟩
  · obtain ⟨i, j, hi, hj, rfl | rfl⟩ := fillRect_number hk
    · rw [(fillRect_point j hi).1]
      exact ((apart i j hi hj).1 hd).symm
    · rw [(fillRect_point j hi).2]
      exact ((apart i j hi hj).2 hd).symm

/-! ### The drain (R44, R45, R166, R167) -/

/-- The Dock Link Port once a buffer is drained, and its stream if that has ended and no buffer holds bytes of it. -/
def drainedPort (name : BufferName) (st : Stream) (s : State) : DockPort :=
  if st.ended = true ∧ s.dock.rx name.other = .empty then
    (handed .tablet
      (.notice (.writeDone st.pane st.buffer (if st.missing = 0 then .complete else .damaged) st.missing))
      { s with dock := { s.dock.setRx name .empty with stream := none } }).dock
  else s.dock.setRx name .empty

@[simp] theorem rx_setRx (d : DockPort) (name : BufferName) (b : RxBuffer) : (d.setRx name b).rx name = b := by
  cases name <;> rfl

/-- The end of the drain of a buffer changes the port alone. -/
theorem drainDone_eq {name : BufferName} {st : Stream} {s : State} (m : SurfaceMemory)
    (oldest : s.dock.oldest = some name) (stream : s.dock.stream = some st) :
    drainDone { s with mem := m } = { s with mem := m, dock := drainedPort name st s } := by
  have still : (s.dock.setRx name .empty).stream = some st := by cases name <;> exact stream
  have others : (({ s with mem := m, dock := s.dock.setRx name .empty } : State).buffersEmpty = true) ↔
      s.dock.rx name.other = .empty := by
    cases name <;> simp [State.buffersEmpty, DockPort.setRx, BufferName.other, DockPort.rx]
  simp only [drainDone, oldest, finishStream, still, Bool.and_eq_true, others, writeDone, handTablet_eq_handed,
    drainedPort]
  split <;> rfl

/-- The arbiter's turn once the drain has been served, if it had work left. -/
theorem servedIfLeft_drain (s : State) (m : SurfaceMemory) :
    s.servedIfLeft .drain m = { m with turn := if s.waits .drain then .text else m.turn } := by
  unfold State.servedIfLeft
  split <;> rfl

/-- The drain waits while a byte of its buffer has a target. -/
theorem drain_waits_iff {name : BufferName} {start : Nat} {bytes : List Byte} {st : Stream} {p : Pane} {s : State}
    (oldest : s.dock.oldest = some name) (content : (s.dock.rx name).content = some (start, bytes))
    (stream : s.dock.stream = some st) (hp : s.pane? st.pane = some p) (writable : Writable p st.buffer) :
    s.waits .drain = true ↔ ∃ k < bytes.length,
      st.rect.x + (start + k) / 2 % st.rect.w < p.sizeX ∧ st.rect.y + (start + k) / 2 / st.rect.w < p.sizeY := by
  rw [waits_iff_hasWork, ← work_ne_nil_iff, work_drain oldest content stream hp writable]
  constructor
  · intro h
    obtain ⟨x, hx⟩ := List.exists_mem_of_ne_nil _ h
    obtain ⟨k, hk, target, -⟩ := mem_streamPlaced.1 hx
    obtain ⟨hx, hy, -⟩ := target_eq_some target
    exact ⟨k, hk, hx, hy⟩
  · rintro ⟨k, hk, inside⟩
    obtain ⟨a, target⟩ : ∃ a, st.target p (start + k) = some a := ⟨_, if_pos inside⟩
    have placed : ({ number := start + k, address := a, value := bytes[k] } : Placed) ∈ st.placed p start bytes :=
      mem_streamPlaced.2 ⟨k, hk, target, rfl, rfl⟩
    exact List.ne_nil_of_mem placed

/-- Settles O29: the completion lands the buffer's bytes with a target, and `drainDone_eq` ends the drain. -/
theorem drainWritesTheStreamBytes : Obligations.DrainWritesTheStreamBytes := by
  intro name start bytes st p s running oldest content stream hp phase hb limit wf target inside port
  have writable : Writable p st.buffer := ⟨phase, hb, limit⟩
  have waits := drain_waits_iff oldest content stream hp writable
  have landed := landLeft_eq_landBytes wf (.drain oldest content stream hp writable)
  rw [remaining, work_drain oldest content stream hp writable] at landed
  have completed := completeWork_of_landLeft running landed
  rw [servedIfLeft_drain, finishWork, drainDone_eq _ oldest stream] at completed
  have emptied : port = s.dock.setRx name .empty := by cases name <;> rfl
  obtain ⟨written, others⟩ := read_landed (l := st.placed p start bytes) wf
    ((streamPlaced_rising p st start bytes).imp And.right) fun x hx => by
      obtain ⟨k, -, hk, -⟩ := mem_streamPlaced.1 hx
      exact Nat.lt_of_lt_of_le (target_inside hk) limit
  refine ⟨_, completed, ?_, rfl, fun some => if_pos (waits.2 some), fun none => if_neg fun h => ?_, fun going => ?_,
    fun ended empty => ?_, fun k hk hin => ?_, fun a apart => others a fun x hx => ?_⟩
  · dsimp only [drainedPort]
    split <;> cases name <;> rfl
  · obtain ⟨k, hk, hin⟩ := waits.1 h
    exact none k hk hin
  · rw [emptied]
    exact if_neg fun h => going.elim (by simp [h.1]) fun other => other h.2
  · rw [emptied]
    exact if_pos ⟨ended, empty⟩
  · exact written { number := start + k, address := target (start + k), value := bytes[k] }
      (mem_streamPlaced.2 ⟨k, hk, if_pos hin, rfl, rfl⟩)
  · obtain ⟨k, hk, hx, -⟩ := mem_streamPlaced.1 hx
    obtain ⟨hX, hY, address⟩ := target_eq_some hx
    rw [address]
    exact (apart k hk ⟨hX, hY⟩).symm

end Sys2Proof.Proofs

/-! ## One grant of the arbiter (R50): what it writes, what it leaves, and that it does not change what a completion
makes -/

namespace Sys2Proof.Proofs

open Sys2Proof.Machine Sys2Proof.Safety

/-! ### The bytes in front that one access takes -/

/-- Numbered bytes in front of others: the last one's number says how many they are. -/
theorem range'_split {f : Nat → Placed} {n len : Nat} {taken left : List Placed} {last : Placed}
    (number : ∀ k, (f k).number = k) (split : (List.range' n len).map f = taken ++ left)
    (hlast : taken.getLast? = some last) :
    ∃ k, k ≤ len ∧ last = f (n + k - 1) ∧ last.number + 1 = n + k ∧ taken = (List.range' n k).map f ∧
      left = (List.range' (n + k) (len - k)).map f := by
  have length := congrArg List.length split
  rw [List.length_map, List.length_range', List.length_append] at length
  have front := congrArg (List.take taken.length) split
  have back := congrArg (List.drop taken.length) split
  rw [← List.map_take, List.take_range'_of_length_ge (by omega), List.take_left] at front
  rw [← List.map_drop, List.drop_range', List.drop_left, Nat.mul_one] at back
  have nonempty : taken.length ≠ 0 := fun h => by simp [List.length_eq_zero_iff.1 h] at hlast
  have found : f (n + taken.length - 1) = last := by
    rw [← front, List.getLast?_map, List.getLast?_range', if_neg nonempty] at hlast
    simpa using hlast
  refine ⟨taken.length, by omega, found.symm, ?_, front.symm, back.symm⟩
  rw [← found, number]
  omega

/-- A client's next access: the bytes in front of its work that lie in one aligned piece of 64 bytes. -/
theorem access_splits {w : Writer} {s : State} (h : HasWork w s) :
    ∃ taken left last, s.work w = taken ++ left ∧ accessOf (s.work w) = taken ∧ taken.getLast? = some last ∧
      (∀ x ∈ taken, x.address / 64 = last.address / 64) ∧
      ∀ x, left.head? = some x → x.address / 64 ≠ last.address / 64 := by
  have waiting := (work_ne_nil_iff w s).2 h
  cases hwork : s.work w with
  | nil => exact absurd hwork waiting
  | cons first rest =>
    let inPiece : Placed → Bool := fun y => y.address / accessBytes == first.address / accessBytes
    have nonempty : (first :: rest).takeWhile inPiece ≠ [] := by
      rw [List.takeWhile_cons_of_pos (by simp [inPiece])]
      exact List.cons_ne_nil _ _
    have piece : ∀ x ∈ (first :: rest).takeWhile inPiece, x.address / 64 = first.address / 64 := fun x hx => by
      have := List.mem_takeWhile_imp hx
      simpa [inPiece, accessBytes] using this
    have lastPiece := piece _ (List.getLast_mem nonempty)
    refine ⟨_, (first :: rest).dropWhile inPiece, _, List.takeWhile_append_dropWhile.symm, rfl,
      List.getLast?_eq_some_getLast nonempty, fun x hx => (piece x hx).trans lastPiece.symm, fun x hx => ?_⟩
    have outside := List.head?_dropWhile_not inPiece (first :: rest)
    rw [hx] at outside
    rw [lastPiece]
    simpa [inPiece, accessBytes] using outside

/-! ### The work after a grant -/

/-- The state with the bytes of a client's work numbered below `upTo` written, `cells` the memory. -/
def granted (w : Writer) (upTo : Nat) (cells : List Host.Cell) (s : State) : State :=
  { s with mem := memGranted w upTo cells s.mem, dock := dockGranted w upTo s.dock }

theorem memGranted_fills {e : FillEntry} {rest : List FillEntry} {m : SurfaceMemory} {upTo : Nat}
    (cells : List Host.Cell) (fills : m.fills = e :: rest) (block : upTo ≤ 4096) :
    (memGranted .fill upTo cells m).fills = e.advanced upTo :: rest := by
  have : upTo < 4096 ↔ ¬upTo = 4096 := by omega
  simp only [memGranted, fills, FillEntry.advanced, blockBytes, this, ite_not]

theorem memGranted_writeOf {m : Master} {a : ActiveWrite} {mem : SurfaceMemory} (upTo : Nat) (cells : List Host.Cell)
    (active : mem.writeOf m = some a) :
    (memGranted (.text (sourceOf m)) upTo cells mem).writeOf m = some { a with done := upTo } := by
  cases m <;> simp only [SurfaceMemory.writeOf] at active <;> simp [sourceOf, memGranted, SurfaceMemory.writeOf, active]

theorem memGranted_rowWrites {r : RowWrite} {rest : List RowWrite} {mem : SurfaceMemory} (upTo : Nat)
    (cells : List Host.Cell) (rows : mem.rowWrites = r :: rest) :
    (memGranted (.text .statusRow) upTo cells mem).rowWrites = r.advanced upTo :: rest := by
  simp only [memGranted, rows, RowWrite.advanced]

@[simp] theorem setRx_stream (d : DockPort) (name : BufferName) (b : RxBuffer) :
    (d.setRx name b).stream = d.stream := by
  cases name <;> rfl

/-- The buffer filled longest ago holds bytes, and so does the other only if this one is the next to be filled. -/
theorem oldest_iff (d : DockPort) (name : BufferName) :
    d.oldest = some name ↔ d.rx name ≠ .empty ∧ (d.nextBuffer = name ∨ d.rx name.other = .empty) := by
  unfold DockPort.oldest
  cases name <;> cases d.nextBuffer <;> by_cases hA : d.rx .a = .empty <;> by_cases hB : d.rx .b = .empty <;>
    simp [BufferName.other, hA, hB]

/-- A buffer that is not EMPTY stays the one filled longest ago. -/
theorem oldest_setRx {d : DockPort} {name : BufferName} {b : RxBuffer} (oldest : d.oldest = some name)
    (hb : b ≠ .empty) : (d.setRx name b).oldest = some name := by
  obtain ⟨-, order⟩ := (oldest_iff d name).1 oldest
  refine (oldest_iff _ name).2 ⟨by rwa [rx_setRx], ?_⟩
  cases name <;> exact order

theorem dockGranted_drain {d : DockPort} {name : BufferName} {start : Nat} {bytes : List Byte} (upTo : Nat)
    (oldest : d.oldest = some name) (content : (d.rx name).content = some (start, bytes)) :
    dockGranted .drain upTo d = d.setRx name (.draining upTo (bytes.drop (upTo - start))) := by
  cases name <;> simp only [dockGranted, oldest, DockPort.setRx] <;> simp only [DockPort.rx] at content
  · cases h : d.bufferA <;>
      simp only [h, RxBuffer.content, Option.some.injEq, Prod.mk.injEq, reduceCtorEq] at content <;>
      obtain ⟨rfl, rfl⟩ := content <;> rfl
  · cases h : d.bufferB <;>
      simp only [h, RxBuffer.content, Option.some.injEq, Prod.mk.injEq, reduceCtorEq] at content <;>
      obtain ⟨rfl, rfl⟩ := content <;> rfl

/-! ### What remains after a grant -/

/-- The rest of a run behind the bytes of one block that are written. -/
theorem left_advanced {e : FillEntry} {upTo : Nat} (blocks : e.blocksDone < e.run.length) (block : upTo ≤ 4096) :
    (e.advanced upTo).left =
      { base := (e.run.start + e.blocksDone) * 4096 + upTo, len := (e.run.length - e.blocksDone) * 4096 - upTo
        byteAt := e.pattern.byteAt } := by
  unfold FillEntry.advanced
  split
  · rfl
  · next full =>
    have whole : upTo = 4096 := by simp only [blockBytes] at full; omega
    simp only [FillEntry.left, blockBytes, whole, Span.mk.injEq, and_true]
    omega

theorem advanced_same (e : FillEntry) (upTo : Nat) :
    (e.advanced upTo).pane = e.pane ∧ (e.advanced upTo).run = e.run ∧ (e.advanced upTo).pattern = e.pattern := by
  unfold FillEntry.advanced
  split <;> exact ⟨rfl, rfl, rfl⟩

/-- The rest of a run, the bytes of an access in front. -/
theorem left_bytes_split {e : FillEntry} {k : Nat} (blocks : e.blocksDone < e.run.length)
    (block : e.bytesDone + k ≤ 4096) :
    e.left.bytes = ((List.range' e.bytesDone k).map (fillPlaced e)).map byteOf ++
      (e.advanced (e.bytesDone + k)).left.bytes := by
  have len : (e.run.length - e.blocksDone) * 4096 - e.bytesDone =
      k + ((e.run.length - e.blocksDone) * 4096 - (e.bytesDone + k)) := by omega
  rw [left_advanced blocks block]
  simp only [Span.bytes, FillEntry.left, blockBytes]
  rw [len, ← List.range'_append_1, List.map_append, ← List.map_add_range', List.map_map, List.map_map, Nat.add_assoc]
  rfl

/-- A buffer's bytes with a target, cut in two. -/
theorem streamPlaced_append (p : Pane) (st : Stream) (start : Nat) (front back : List Byte) :
    st.placed p start (front ++ back) = st.placed p start front ++ st.placed p (start + front.length) back := by
  simp only [Stream.placed, List.zipIdx_append, List.filterMap_append]

/-- In a list of rising numbers, what is behind an element is what has a greater number. -/
theorem behind_eq_filter {taken left : List Placed} {last : Placed}
    (rising : (taken ++ left).Pairwise fun x y => x.number < y.number) (hlast : taken.getLast? = some last) :
    left = (taken ++ left).filter fun x => last.number + 1 ≤ x.number := by
  obtain ⟨front, rfl⟩ := List.getLast?_eq_some_iff.1 hlast
  obtain ⟨inFront, -, across⟩ := List.pairwise_append.1 rising
  have before : ∀ x ∈ front ++ [last], ¬last.number + 1 ≤ x.number := fun x hx => by
    rcases List.mem_append.1 hx with hx | hx
    · have := (List.pairwise_append.1 inFront).2.2 x hx last (by simp)
      omega
    · rw [List.mem_singleton.1 hx]
      omega
  have after : ∀ x ∈ left, last.number + 1 ≤ x.number := fun x hx => across last (by simp) x hx
  rw [List.filter_append, List.filter_eq_nil_iff.2 (by simpa using before),
    List.filter_eq_self.2 (by simpa using after), List.nil_append]

/-- The bytes of a buffer behind an access are those that the buffer holds after it. -/
theorem streamPlaced_behind {p : Pane} {st : Stream} {start : Nat} {bytes : List Byte} {taken left : List Placed}
    {last : Placed} (split : st.placed p start bytes = taken ++ left) (hlast : taken.getLast? = some last) :
    left = st.placed p (last.number + 1) (bytes.drop (last.number + 1 - start)) := by
  have rising := (streamPlaced_rising p st start bytes).imp And.left
  obtain ⟨j, hj, -, number, -⟩ : ∃ j, ∃ h : j < bytes.length, st.target p (start + j) = some last.address ∧
      last.number = start + j ∧ last.value = bytes[j] := by
    rw [← mem_streamPlaced, split]
    exact List.mem_append_left _ (List.mem_of_getLast? hlast)
  have cut : start + (bytes.take (last.number + 1 - start)).length = last.number + 1 := by
    rw [List.length_take]
    omega
  have pieces := streamPlaced_append p st start (bytes.take (last.number + 1 - start))
    (bytes.drop (last.number + 1 - start))
  rw [List.take_append_drop, cut] at pieces
  have front : ∀ x ∈ st.placed p start (bytes.take (last.number + 1 - start)), ¬last.number + 1 ≤ x.number :=
    fun x hx => by
      obtain ⟨k, hk, -, hx, -⟩ := mem_streamPlaced.1 hx
      omega
  have back : ∀ x ∈ st.placed p (last.number + 1) (bytes.drop (last.number + 1 - start)),
      last.number + 1 ≤ x.number := fun x hx => by
    obtain ⟨k, -, -, hx, -⟩ := mem_streamPlaced.1 hx
    omega
  rw [split] at rising
  rw [behind_eq_filter rising hlast, ← split, pieces, List.filter_append,
    List.filter_eq_nil_iff.2 (by simpa using front), List.filter_eq_self.2 (by simpa using back), List.nil_append]

/-- The bytes of a status row write behind an even number of them. -/
theorem rowPlaced_advanced (r : RowWrite) {upTo : Nat} (even : upTo % 2 = 0) :
    ((List.range' upTo (2 * r.cells.length - upTo)).map (rowPlaced r)).map byteOf =
      ((List.range' 0 (2 * (r.advanced upTo).cells.length)).map (rowPlaced (r.advanced upTo))).map byteOf := by
  have len : 2 * (r.cells.drop (upTo / 2)).length = 2 * r.cells.length - upTo := by
    rw [List.length_drop]
    omega
  have bytes : ∀ k, cellByte r.cells (upTo + k) = cellByte (r.cells.drop (upTo / 2)) k := fun k => by
    have half : (upTo + k) / 2 = upTo / 2 + k / 2 := by omega
    have parity : (upTo + k) % 2 = k % 2 := by omega
    simp only [cellByte, List.getElem?_drop, half, parity]
  have shift : List.range' upTo (2 * r.cells.length - upTo) =
      (List.range' 0 (2 * r.cells.length - upTo)).map (upTo + ·) := by
    rw [List.map_add_range', Nat.add_zero]
  rw [shift]
  simp only [RowWrite.advanced, len, List.map_map]
  refine List.map_congr_left fun k _ => ?_
  simp only [Function.comp_apply, byteOf, rowPlaced, bytes, Prod.mk.injEq, and_true]
  omega

/-- What remains is the bytes of an access in front of what remains after it. -/
theorem remaining_split {w : Writer} {s : State} {taken left : List Placed} {last : Placed} (cells : List Host.Cell)
    (h : HasWork w s) (split : s.work w = taken ++ left) (hlast : taken.getLast? = some last)
    (aligned : ∀ x, left.head? = some x → x.address / 64 ≠ last.address / 64) :
    remaining s w = taken.map byteOf ++ remaining (granted w (last.number + 1) cells s) w := by
  cases working_of_hasWork h with
  | @fill _ e rest p fills hp phase inside blocks bytes =>
    rw [work_fill fills hp phase inside blocks] at split
    obtain ⟨k, hk, -, number, rfl, -⟩ := range'_split (fun _ => rfl) split hlast
    obtain ⟨pane, run, -⟩ := advanced_same e (last.number + 1)
    rw [remaining_fill fills hp phase inside, left_bytes_split blocks (k := k) (by omega),
      remaining_fill (memGranted_fills cells fills (by omega)) (by rw [pane]; exact hp) phase
        (by rw [run]; exact inside), number]
  | @drain _ name start bytes st p oldest content stream hp writable =>
    rw [work_drain oldest content stream hp writable] at split
    have dock : (granted .drain (last.number + 1) cells s).dock = _ := dockGranted_drain _ oldest content
    rw [remaining, remaining, work_drain oldest content stream hp writable,
      work_drain (s := granted .drain _ cells s) (by rw [dock]; exact oldest_setRx oldest (by simp))
        (by rw [dock, rx_setRx]; rfl) (by rw [dock, setRx_stream]; exact stream) hp writable,
      ← streamPlaced_behind split hlast, split, List.map_append]
  | @write _ m a p active hp writable =>
    rw [work_write active hp writable, activePlaced_eq] at split
    obtain ⟨k, hk, -, number, rfl, rfl⟩ := range'_split (fun _ => rfl) split hlast
    rw [remaining, remaining, work_write active hp writable,
      work_write (s := granted _ _ cells s) (memGranted_writeOf (last.number + 1) cells active) hp writable,
      activePlaced_eq, activePlaced_eq, split, List.map_append, number, Nat.sub_sub]
  | @row _ r rest rows inside =>
    rw [work_row rows inside] at split
    obtain ⟨k, hk, last_eq, number, rfl, rfl⟩ := range'_split (fun _ => rfl) split hlast
    rw [Nat.zero_add] at number last_eq
    have even : (last.number + 1) % 2 = 0 := by
      by_cases whole : k = 2 * r.cells.length
      · omega
      · have next := aligned (rowPlaced r k) (by
          rw [List.head?_map, List.head?_range', Nat.zero_add, if_neg (by omega)]
          rfl)
        rw [last_eq] at next
        simp only [rowPlaced, statusRowBase] at next
        omega
    have inside' : 1966080 + 2 * ((r.advanced (last.number + 1)).column + (r.advanced (last.number + 1)).cells.length) ≤
        2097152 := by
      simp only [RowWrite.advanced, List.length_drop]
      omega
    rw [remaining, remaining, work_row rows inside,
      work_row (s := granted _ _ cells s) (memGranted_rowWrites _ cells rows) inside', split, List.map_append,
      Nat.zero_add, ← number, rowPlaced_advanced r even]

end Sys2Proof.Proofs

/-! ## A step without a command: whom it grants an access, and what that access makes (R50, R67) -/

namespace Sys2Proof.Proofs

open Sys2Proof.Machine Sys2Proof.Safety

/-! ### The end of a client's work does not depend on how far it had got -/

theorem setRx_setRx (d : DockPort) (name : BufferName) (b c : RxBuffer) :
    (d.setRx name b).setRx name c = d.setRx name c := by
  cases name <;> rfl

/-- The work and the turns after a grant, in the model's terms. -/
theorem advanceWork_eq_granted {w : Writer} {upTo : Nat} (cells : List Host.Cell) (s : State)
    (block : w = .fill → upTo ≤ 4096) :
    advanceWork upTo w { s with mem := served w { s.mem with cells := cells } } = granted w upTo cells s := by
  cases w with
  | fill =>
    cases fills : s.mem.fills with
    | nil => simp [advanceWork, granted, memGranted, dockGranted, served, fills]
    | cons e rest =>
      have head := memGranted_fills cells fills (block rfl)
      simp only [memGranted, fills] at head
      simp [advanceWork, granted, memGranted, dockGranted, served, fills, head]
  | drain =>
    cases oldest : s.dock.oldest with
    | none => simp [advanceWork, granted, memGranted, dockGranted, served, oldest]
    | some name =>
      cases content : (s.dock.rx name).content with
      | none =>
        have held := ((oldest_iff _ _).1 oldest).1
        cases h : s.dock.rx name <;> simp [h, RxBuffer.content] at content held
      | some c =>
        simp only [advanceWork, granted, memGranted, served, oldest, dockGranted_drain upTo oldest content,
          RxBuffer.advanced, content]
  | text source =>
    cases source with
    | tablet => rfl
    | vehicle => rfl
    | statusRow => cases rows : s.mem.rowWrites <;> simp [advanceWork, granted, memGranted, dockGranted, served, rows,
        RowWrite.advanced, nextSource]

/-- The state with the memory given, in which a client has been served. -/
def landedBy (w : Writer) (cells : List Host.Cell) (s : State) : State :=
  { s with mem := served w { s.mem with cells := cells } }

/-- The end of a client's work is the same after a grant. -/
theorem finishWork_granted {w : Writer} {s : State} (upTo : Nat) (cells : List Host.Cell) (h : HasWork w s) :
    finishWork w (granted w upTo cells s) = finishWork w (landedBy w cells s) := by
  cases working_of_hasWork h with
  | @fill _ e rest p fills hp phase =>
    have head : ∃ e', (granted .fill upTo cells s).mem.fills = e' :: rest ∧ e'.pane = e.pane := by
      refine ⟨_, by simp only [granted, memGranted, fills]; rfl, ?_⟩
      split <;> rfl
    obtain ⟨e', fills', pane⟩ := head
    rw [finishWork, finishWork, fillDone_of_preparing fills' (by rw [pane]; exact hp) phase,
      fillDone_of_preparing (s := landedBy .fill cells s) fills hp phase, pane]
    rfl
  | @drain _ name start bytes st p oldest content stream =>
    have dock : (granted .drain upTo cells s).dock = _ := dockGranted_drain upTo oldest content
    have oldest' : (granted .drain upTo cells s).dock.oldest = some name := by
      rw [dock]
      exact oldest_setRx oldest (by simp)
    simp only [finishWork, drainDone, landedBy, oldest, oldest']
    rw [dock, setRx_setRx]
    rfl
  | @write _ m => cases m <;> rfl
  | @row _ r rest rows =>
    simp only [finishWork, writeDoneOf, granted, memGranted, dockGranted, landedBy, served, nextSource, rows,
      List.tail_cons]

theorem pane?_scanOut (s : State) (o : ScanOut) (n : Nat) : ({ s with scanOut := o } : State).pane? n = s.pane? n := rfl

theorem handTablet_scanOut (msg : Message) (s : State) (o : ScanOut) :
    handTablet msg { s with scanOut := o } = { handTablet msg s with scanOut := o } := by
  unfold handTablet
  dsimp only
  split <;> rfl

theorem finishStream_scanOut (s : State) (o : ScanOut) :
    finishStream { s with scanOut := o } = { finishStream s with scanOut := o } := by
  unfold finishStream
  dsimp only
  cases s.dock.stream with
  | none => rfl
  | some st =>
    change (if (st.ended && s.buffersEmpty) = true then _ else _) = _
    dsimp only
    split
    · exact handTablet_scanOut _ { s with dock := { s.dock with stream := none } } o
    · rfl

/-- The end of a client's work has nothing to do with the position in the frame. -/
theorem finishWork_scanOut (w : Writer) (s : State) (o : ScanOut) :
    finishWork w { s with scanOut := o } = { finishWork w s with scanOut := o } := by
  cases w with
  | fill =>
    cases fills : s.mem.fills with
    | nil => simp only [finishWork, fillDone, fills]
    | cons e rest =>
      cases hp : s.pane? e.pane with
      | none => simp only [finishWork, fillDone, fills, pane?_scanOut, hp]
      | some p =>
        simp only [finishWork, fillDone, fills, pane?_scanOut, hp]
        split <;> rfl
  | drain =>
    cases oldest : s.dock.oldest with
    | none => simp only [finishWork, drainDone, oldest]
    | some name =>
      simp only [finishWork, drainDone, oldest]
      exact finishStream_scanOut { s with dock := s.dock.setRx name .empty } o
  | text source => cases source <;> rfl

/-- What a completion lands has nothing to do with the position in the frame. -/
theorem landLeft_scanOut (w : Writer) (s : State) (o : ScanOut) :
    ({ s with scanOut := o } : State).landLeft w = s.landLeft w := by
  cases w with
  | fill => rfl
  | drain => rfl
  | text source => cases source <;> rfl

/-! ### Completions before and after a grant -/

theorem exec_completionOf (w : Writer) (s : State) : exec (completionOf w) s = completeWork w s := by
  cases w <;> rfl

theorem servedIfLeft_of_hasWork {w : Writer} {s : State} (h : HasWork w s) (m : SurfaceMemory) :
    s.servedIfLeft w m = served w m :=
  if_pos ((waits_iff_hasWork w s).2 h)

/-- The completion of a client with work left, at any position: what remains has landed, and the work is finished. -/
theorem completion_at {w : Writer} {s : State} {o : ScanOut} (running : o.running = true) (wf : MemoryKept s)
    (h : HasWork w s) :
    exec (completionOf w) { s with scanOut := o } =
      .next { finishWork w (landedBy w (landBytes s.mem.cells (remaining s w)) s) with scanOut := o } := by
  have landed := (landLeft_scanOut w s o).trans (landLeft_eq_landBytes wf (working_of_hasWork h))
  rw [exec_completionOf, completeWork_of_landLeft (s := { s with scanOut := o }) running landed,
    servedIfLeft_of_hasWork (s := { s with scanOut := o }) h, ← finishWork_scanOut]
  rfl

/-- The completion of a client with work left. -/
theorem completion_of_hasWork {w : Writer} {s : State} (running : s.scanOut.running = true) (wf : MemoryKept s)
    (h : HasWork w s) :
    exec (completionOf w) s = .next (finishWork w (landedBy w (landBytes s.mem.cells (remaining s w)) s)) := by
  have completed := completion_at running wf h
  rw [← finishWork_scanOut] at completed
  exact completed

/-- Serving a client once more leaves the turns as its grant has set them. -/
theorem landedBy_granted (w : Writer) (upTo : Nat) (cells later : List Host.Cell) (s : State) :
    landedBy w later (granted w upTo cells s) = granted w upTo later s := by
  cases w with
  | fill => rfl
  | drain => rfl
  | text source => cases source <;> rfl

@[simp] theorem memGranted_cells (w : Writer) (upTo : Nat) (cells : List Host.Cell) (m : SurfaceMemory) :
    (memGranted w upTo cells m).cells = cells := by
  cases w with
  | fill => rfl
  | drain => rfl
  | text source => cases source <;> rfl

@[simp] theorem granted_cells (w : Writer) (upTo : Nat) (cells : List Host.Cell) (s : State) :
    (granted w upTo cells s).mem.cells = cells := memGranted_cells ..

/-- One access ends within the block that a fill is at. -/
theorem last_in_block {s : State} {taken left : List Placed} {last : Placed} (h : HasWork .fill s)
    (split : s.work .fill = taken ++ left) (hlast : taken.getLast? = some last) : last.number + 1 ≤ 4096 := by
  obtain ⟨e, rest, p, fills, hp, phase, inside, blocks, bytes⟩ := h
  rw [work_fill fills hp phase inside blocks] at split
  obtain ⟨k, hk, -, number, -⟩ := range'_split (fun _ => rfl) split hlast
  omega

/-- A run that is written whole has nothing left. -/
theorem left_of_whole {e : FillEntry} (whole : ¬e.blocksDone < e.run.length) : e.left.bytes = [] := by
  have none : (e.run.length - e.blocksDone) * blockBytes - e.bytesDone = 0 := by
    rw [Nat.sub_eq_zero_of_le (not_lt.1 whole), Nat.zero_mul, Nat.zero_sub]
  simp [Span.bytes, FillEntry.left, none]

theorem advanced_bytesDone (e : FillEntry) (upTo : Nat) : (e.advanced upTo).bytesDone < 4096 := by
  unfold FillEntry.advanced
  split
  · assumption
  · exact Nat.zero_lt_succ _

section
variable {w : Writer} {s : State} {taken left : List Placed} {last : Placed} (h : HasWork w s)
  (split : s.work w = taken ++ left) (hlast : taken.getLast? = some last)
include h split hlast

/-- What a grant makes: the access's bytes land, the work goes on, and it is finished if it has no byte left. -/
theorem grantWrite_eq (access : accessOf (s.work w) = taken) :
    let after := granted w (last.number + 1) (landBytes s.mem.cells (taken.map byteOf)) s
    grantWrite w s = if after.waits w then after else finishWork w after := by
  have block : w = .fill → last.number + 1 ≤ 4096 := by
    rintro rfl
    exact last_in_block h split hlast
  simp only [grantWrite, access, hlast, ← landBytes_placed, advanceWork_eq_granted _ s block]

/-- Nothing remains after a grant that leaves no work. -/
theorem remaining_of_finished (cells : List Host.Cell) (finished : ¬HasWork w (granted w (last.number + 1) cells s)) :
    remaining (granted w (last.number + 1) cells s) w = [] := by
  have noWork := mt (work_ne_nil_iff w _).1 finished
  cases working_of_hasWork h with
  | @fill _ e rest p fills hp phase inside blocks bytes =>
    have block := last_in_block h split hlast
    have fills' : (granted .fill (last.number + 1) cells s).mem.fills = _ := memGranted_fills cells fills block
    obtain ⟨pane, run, -⟩ := advanced_same e (last.number + 1)
    have hp' : (granted .fill (last.number + 1) cells s).pane? (e.advanced (last.number + 1)).pane = some p := by
      rw [pane]
      exact hp
    have inside' : ((e.advanced (last.number + 1)).run.start + (e.advanced (last.number + 1)).run.length) * 4096 ≤
        2097152 := by rwa [run]
    rw [remaining_fill fills' hp' phase inside']
    refine left_of_whole fun more => ?_
    exact finished ⟨_, rest, p, fills', hp', phase, inside', more, advanced_bytesDone e _⟩
  | drain => rw [remaining, not_not.1 noWork]; rfl
  | write => rw [remaining, not_not.1 noWork]; rfl
  | row => rw [remaining, not_not.1 noWork]; rfl

variable (aligned : ∀ x, left.head? = some x → x.address / 64 ≠ last.address / 64) (running : s.scanOut.running = true)
  (wf : MemoryKept s)
include aligned running wf

/-- A completion makes the same of the state after a grant as of the state before it, but for the position. -/
theorem completion_after_grant {o : ScanOut} (going : o.running = true) {v : State}
    (more : HasWork w (granted w (last.number + 1) (landBytes s.mem.cells (taken.map byteOf)) s))
    (hv : exec (completionOf w) s = .next v) :
    exec (completionOf w)
        { granted w (last.number + 1) (landBytes s.mem.cells (taken.map byteOf)) s with scanOut := o } =
      .next { v with scanOut := o } := by
  have landed := remaining_split (landBytes s.mem.cells (taken.map byteOf)) h split hlast aligned
  rw [completion_of_hasWork running wf h, landed, landBytes_append] at hv
  have wf' : MemoryKept (granted w (last.number + 1) (landBytes s.mem.cells (taken.map byteOf)) s) := by
    rw [MemoryKept, granted_cells]
    exact landBytes_wf _ _ wf
  rw [completion_at going wf' more, granted_cells, landedBy_granted, finishWork_granted _ _ h,
    Host.Outcome.next.inj hv]

/-- The completion of a client whose work one grant ends is that grant, but for the position. -/
theorem completion_of_finished
    (finished : ¬HasWork w (granted w (last.number + 1) (landBytes s.mem.cells (taken.map byteOf)) s)) :
    exec (completionOf w) s =
      .next (finishWork w (granted w (last.number + 1) (landBytes s.mem.cells (taken.map byteOf)) s)) := by
  have landed := remaining_split (landBytes s.mem.cells (taken.map byteOf)) h split hlast aligned
  rw [remaining_of_finished h split hlast _ finished, List.append_nil] at landed
  rw [completion_of_hasWork running wf h, finishWork_granted _ _ h, landed]

end

/-! ### A step without a command -/

/-- A step without a command that grants a client an access: the grant, and the frame goes on. -/
theorem idle_of_granted {w : Writer} {s : State} (running : s.scanOut.running = true) (g : Granted w s) :
    idle s = { grantWrite w s with scanOut := s.scanOut.advance } := by
  rw [idle_eq, if_pos running, (nextWriter_iff_granted w s).2 g]
  simp [frameGoesOn, running]

/-- A step without a command and without a client waiting: the frame goes on. -/
theorem idle_of_no_work {s : State} (running : s.scanOut.running = true) (none : ∀ w, ¬HasWork w s) :
    idle s = { s with scanOut := s.scanOut.advance } := by
  have nobody : s.nextWriter = Option.none := by
    rw [State.nextWriter, List.find?_eq_none]
    exact fun w _ => mt (waits_iff_hasWork w s).1 (none w)
  rw [idle_eq, if_pos running, nobody]
  simp [frameGoesOn, running]

theorem advance_running (o : ScanOut) : o.advance.running = o.running := by
  unfold ScanOut.advance
  split
  · rfl
  · split <;> rfl

/-- The bytes of a grant's access have landed, and nothing else. -/
theorem grantWrite_cells {w : Writer} {s : State} {taken left : List Placed} {last : Placed} (h : HasWork w s)
    (split : s.work w = taken ++ left) (hlast : taken.getLast? = some last) (access : accessOf (s.work w) = taken) :
    (grantWrite w s).mem.cells = landBytes s.mem.cells (taken.map byteOf) := by
  have made := grantWrite_eq h split hlast access
  dsimp only at made
  rw [made]
  split <;> simp

/-- A step without a command makes the access that it grants (R50). -/
theorem accessMade_of_granted {w : Writer} {s : State} (running : s.scanOut.running = true) (wf : MemoryKept s)
    (g : Granted w s) : AccessMade w s (idle s) := by
  obtain ⟨taken, left, last, split, access, hlast, piece, aligned⟩ := access_splits g.1
  have cells := grantWrite_cells g.1 split hlast access
  have made := grantWrite_eq g.1 split hlast access
  have rising := work_rising w s
  have inside := work_inside w s
  rw [split] at rising inside
  obtain ⟨written, others⟩ := read_landed (l := taken) wf (List.pairwise_append.1 rising).1
    fun x hx => inside x (List.mem_append_left _ hx)
  rw [idle_of_granted running g]
  refine ⟨taken, left, last, split, hlast, piece, aligned, ?_, ?_, ?_⟩
  · simpa only [cells] using written
  · simpa only [cells] using others
  · simp only [cells]
    change (HasWork w (granted w (last.number + 1) (landBytes s.mem.cells (taken.map byteOf)) s) → _) ∧
      (¬HasWork w (granted w (last.number + 1) (landBytes s.mem.cells (taken.map byteOf)) s) → _)
    refine ⟨fun more => ⟨?_, fun v hv => ?_⟩, fun finished => ?_⟩
    · rw [made, if_pos ((waits_iff_hasWork _ _).2 more)]
      rfl
    · rw [made, if_pos ((waits_iff_hasWork _ _).2 more)]
      exact completion_after_grant g.1 split hlast aligned running wf ((advance_running _).trans running) more hv
    · rw [made, if_neg (mt (waits_iff_hasWork _ _).1 finished),
        completion_of_finished g.1 split hlast aligned running wf finished]
      exact congrArg Host.Outcome.next (finishWork_scanOut w
        (granted w (last.number + 1) (landBytes s.mem.cells (taken.map byteOf)) s) s.scanOut)

/-- The bytes that a step without a command changes lie in one aligned piece of 64 bytes. -/
theorem idle_piece {s : State} (running : s.scanOut.running = true) (wf : MemoryKept s) :
    ∃ piece, ∀ a, Memory.read (idle s).mem.cells a ≠ Memory.read s.mem.cells a → a / 64 = piece := by
  cases writer : s.nextWriter with
  | none =>
    refine ⟨0, fun a changed => absurd ?_ changed⟩
    rw [idle_eq, if_pos running, writer]
    simp
  | some w =>
    have g := (nextWriter_iff_granted w s).1 writer
    obtain ⟨taken, left, last, -, -, piece, -, -, others, -⟩ := accessMade_of_granted running wf g
    refine ⟨last.address / 64, fun a changed => ?_⟩
    by_contra outside
    exact changed (others a fun x hx e => outside (e ▸ piece x hx))

/-- The grants of a step without a command: Scan-out's reads, then the client in turn (R50). -/
theorem grants_of_granted {w : Writer} {s : State} (g : Granted w s) :
    s.grants = s.scanReads.map .read ++ [.write w] := by
  rw [State.grants, (nextWriter_iff_granted w s).2 g]
  rfl

/-! ### Scan-out's reads (R67) -/

/-- The address that the walk reads for a pane lies in the pane's front buffer. -/
theorem readAddress_inside (p : Pane) (x y : Nat) (hX : 1 ≤ p.sizeX) (hY : 1 ≤ p.sizeY) :
    p.bufferBase p.front ≤ p.readAddress x y ∧
      p.readAddress x y + 2 ≤ p.bufferBase p.front + p.sizeX * p.sizeY * 2 := by
  simp only [Pane.readAddress, Pane.surfacePoint]
  generalize x - p.window.left + p.scroll.x = u
  generalize y - p.window.top + p.scroll.y = v
  cases hk : p.kind
  · have hu := Nat.mod_lt u (show 0 < p.sizeX by omega)
    have hv := Nat.mod_lt v (show 0 < p.sizeY by omega)
    have point := point_in_buffer hu hv
    simp only [Pane.sampleAddress, Pane.extentX, Pane.extentY, hk]
    omega
  · have hu := Nat.mod_lt u (show 0 < p.sizeX * 8 by omega)
    have hv := Nat.mod_lt v (show 0 < p.sizeY * 16 by omega)
    have point := point_in_buffer (x := u % (p.sizeX * 8) / 8) (y := v % (p.sizeY * 16) / 16) (X := p.sizeX)
      (Y := p.sizeY) (by omega) (by omega)
    simp only [Pane.cellAddress, Pane.extentX, Pane.extentY, hk]
    omega

/-- Each read of a walk is for a shown pane of the order. -/
theorem mem_walkReads {s : State} {x y a : Nat} {order : List Nat} (h : a ∈ s.walkReads x y order) :
    ∃ n ∈ order, ∃ p, s.pane? n = some p ∧ p.visible = true ∧ a = p.readAddress x y := by
  induction order with
  | nil => cases h
  | cons n below ih =>
    have later : a ∈ s.walkReads x y below → ∃ k ∈ n :: below, ∃ p, s.pane? k = some p ∧ p.visible = true ∧
        a = p.readAddress x y := fun h => by
      obtain ⟨k, hk, found⟩ := ih h
      exact ⟨k, List.mem_cons_of_mem n hk, found⟩
    cases hp : s.pane? n with
    | none =>
      simp only [State.walkReads, hp] at h
      exact later h
    | some p =>
      simp only [State.walkReads, hp] at h
      split at h
      · next candidate =>
        rcases List.mem_cons.1 h with rfl | h
        · exact ⟨n, List.mem_cons_self, p, hp, (Bool.and_eq_true_iff.1 candidate).1, rfl⟩
        · split at h
          · cases h
          · exact later h
      · exact later h

/-- Scan-out has no read waiting in vertical blanking or with the panel OFF. -/
theorem scanReads_of_quiet {s : State} (h : s.scanOut.line < 45 ∨ s.scanOut.panel = .off) : s.scanReads = [] := by
  unfold State.scanReads
  rcases h with blanking | off
  · have inactive : s.scanOut.activeLine = none := if_pos blanking
    simp [inactive]
  · simp [off]

/-- Scan-out's reads are those of a walk down the current order. -/
theorem mem_scanReads {s : State} {a : Nat} (h : a ∈ s.scanReads) :
    ∃ y, a ∈ s.walkReads s.scanOut.column y s.layout.current := by
  unfold State.scanReads at h
  split at h
  · split at h
    · exact ⟨_, h⟩
    · cases h
  · cases h

end Sys2Proof.Proofs

/-! ## What leaves the memory, the allocation and the fills alone, and keeps the status row's writes on their row -/

namespace Sys2Proof.Proofs

open Sys2Proof.Machine Sys2Proof.Safety

/-! ### The status row's writes (R26 to R28) -/

/-- Each write lies on the status row. -/
def OnRow (l : List RowWrite) : Prop := ∀ w ∈ l, w.column + w.cells.length ≤ 100

/-- The text fits the field's span. -/
def Fits (f : RowField) (t : RowText) : Prop := t.codes.length ≤ f.width

@[simp] theorem tabText_fits (l : LinkState) : Fits .tab (tabText l) := by
  unfold Fits
  cases l <;> decide

@[simp] theorem vehText_fits (present : Bool) : Fits .veh (vehText present) := by
  unfold Fits
  cases present <;> decide

@[simp] theorem pwrText_fits (low : Bool) : Fits .pwr (pwrText low) := by
  unfold Fits
  cases low <;> decide

@[simp] theorem tempText_fits (hot : Bool) : Fits .temp (tempText hot) := by
  unfold Fits
  cases hot <;> decide

@[simp] theorem keysText_fits (o : Option Owner) : Fits .keys (keysText o) := by
  unfold Fits
  rcases o with _ | o
  · decide
  · cases o <;> decide

@[simp] theorem alertText_fits (n : Nat) : Fits .alert (alertText n) := by
  unfold Fits alertText
  split <;> simp [codesOf, RowField.width]

@[simp] theorem brtText_fits (k : Int) : Fits .brt (brtText k) := by
  unfold Fits brtText
  split_ifs <;> simp [codesOf, RowField.width]

/-- The span of a field lies on the row. -/
theorem field_on_row (f : RowField) : f.start + f.width ≤ 100 := by cases f <;> decide

theorem cells_length {f : RowField} {t : RowText} (fits : Fits f t) : (t.cells f.width).length = f.width := by
  simp only [RowText.cells, List.length_map, List.length_append, List.length_replicate]
  exact Nat.add_sub_cancel' fits

theorem onRow_append {l k : List RowWrite} : OnRow (l ++ k) ↔ OnRow l ∧ OnRow k := List.forall_mem_append

/-- A rewritten field lies on the row. -/
@[simp] theorem rewriteField_onRow {f : RowField} {before after : RowText} {s : State} (fits : Fits f after) :
    OnRow (rewriteField f before after s).mem.rowWrites ↔ OnRow s.mem.rowWrites := by
  have inRow : OnRow [{ column := f.start, cells := after.cells f.width }] := by
    simpa [OnRow, cells_length fits] using field_on_row f
  unfold rewriteField
  split
  · rfl
  · exact onRow_append.trans (and_iff_left inRow)

@[simp] theorem setFocus_onRow (v : Option Nat) (s : State) :
    OnRow (setFocus v s).mem.rowWrites ↔ OnRow s.mem.rowWrites := by
  unfold setFocus
  split <;> simp

@[simp] theorem alertField_onRow (n : Nat) (s : State) :
    OnRow (alertField n s).mem.rowWrites ↔ OnRow s.mem.rowWrites := by simp [alertField]

@[simp] theorem brightnessStep_onRow (k : Int) (s : State) :
    OnRow (brightnessStep k s).mem.rowWrites ↔ OnRow s.mem.rowWrites := by simp [brightnessStep]

@[simp] theorem vehField_onRow (before after : Bool) (s : State) :
    OnRow (vehField before after s).mem.rowWrites ↔ OnRow s.mem.rowWrites := by simp [vehField]

@[simp] theorem reportLink_onRow (before : LinkState) (s : State) :
    OnRow (reportLink before s).mem.rowWrites ↔ OnRow s.mem.rowWrites := by
  unfold reportLink
  split <;> simp

@[simp] theorem reportSupply_onRow (before : Light) (supply panelTemp : Nat) (s : State) :
    OnRow (reportSupply before supply panelTemp s).mem.rowWrites ↔ OnRow s.mem.rowWrites := by
  unfold reportSupply
  dsimp only
  split <;> simp

@[simp] theorem linkStart_onRow (grace : Nat) (s : State) :
    OnRow (linkStart grace s).mem.rowWrites ↔ OnRow s.mem.rowWrites := by simp [linkStart]

@[simp] theorem enterHold_onRow (s : State) : OnRow (enterHold s).mem.rowWrites ↔ OnRow s.mem.rowWrites := by
  simp [enterHold]

@[simp] theorem resumeLink_onRow (s : State) : OnRow (resumeLink s).mem.rowWrites ↔ OnRow s.mem.rowWrites := by
  simp [resumeLink]

@[simp] theorem bayEdge_onRow (high : Bool) (s : State) :
    OnRow (bayEdge high s).mem.rowWrites ↔ OnRow s.mem.rowWrites := by
  unfold bayEdge
  split <;> simp

@[simp] theorem silenceExpires_onRow (s : State) :
    OnRow (silenceExpires s).mem.rowWrites ↔ OnRow s.mem.rowWrites := by
  unfold silenceExpires
  split <;> simp

@[simp] theorem holdBegins_onRow (s : State) : OnRow (holdBegins s).mem.rowWrites ↔ OnRow s.mem.rowWrites := by
  simp [holdBegins]

@[simp] theorem topChanged_onRow (size : Nat) (s : State) :
    OnRow (topChanged size s).mem.rowWrites ↔ OnRow s.mem.rowWrites := by simp [topChanged]

@[simp] theorem holdEnds_onRow (size : Nat) (s : State) :
    OnRow (holdEnds size s).mem.rowWrites ↔ OnRow s.mem.rowWrites := by simp [holdEnds]

@[simp] theorem fixUp_onRow (s : State) : OnRow (fixUp s).mem.rowWrites ↔ OnRow s.mem.rowWrites := by simp [fixUp]

@[simp] theorem deferredFocus_onRow (n : Nat) (s : State) :
    OnRow (deferredFocus n s).mem.rowWrites ↔ OnRow s.mem.rowWrites := by
  unfold deferredFocus
  split
  · split <;> simp
  · rfl

@[simp] theorem alertAbsence_onRow (s : State) : OnRow (alertAbsence s).mem.rowWrites ↔ OnRow s.mem.rowWrites := by
  unfold alertAbsence
  dsimp only
  split <;> simp

@[simp] theorem alertReturn_onRow (s : State) : OnRow (alertReturn s).mem.rowWrites ↔ OnRow s.mem.rowWrites := by
  have reported := fun l t => foldl_same (fun u => u.mem)
    (fun s n => handVehicle (.notice (.alertAcknowledged n)) s) (fun u n => by simp) l t
  unfold alertReturn
  dsimp only
  split <;> simp [reported]

@[simp] theorem focusNext_onRow (s : State) : OnRow (focusNext s).mem.rowWrites ↔ OnRow s.mem.rowWrites := by
  unfold focusNext
  split
  · rfl
  · split <;> simp

@[simp] theorem alertPaneLive_onRow (n : Nat) (s : State) :
    OnRow (alertPaneLive n s).mem.rowWrites ↔ OnRow s.mem.rowWrites := by
  unfold alertPaneLive
  split
  · split_ifs <;> simp
  · rfl

@[simp] theorem acknowledgePress_onRow (s : State) :
    OnRow (acknowledgePress s).mem.rowWrites ↔ OnRow s.mem.rowWrites := by
  unfold acknowledgePress
  split
  · rfl
  · dsimp only
    split <;> simp

@[simp] theorem alertPaneClosing_onRow (n : Nat) (s : State) :
    OnRow (alertPaneClosing n s).mem.rowWrites ↔ OnRow s.mem.rowWrites := by
  unfold alertPaneClosing
  dsimp only
  split_ifs <;> simp

@[simp] theorem routerPaneLost_onRow (n : Nat) (s : State) :
    OnRow (routerPaneLost n s).mem.rowWrites ↔ OnRow s.mem.rowWrites := by
  unfold routerPaneLost
  split <;> simp

@[simp] theorem routerGone_onRow (m : Master) (s : State) :
    OnRow (routerGone m s).mem.rowWrites ↔ OnRow s.mem.rowWrites := by
  unfold routerGone
  dsimp only
  split <;> simp

@[simp] theorem keyDown_onRow (code : Nat) (s : State) :
    OnRow (keyDown code s).mem.rowWrites ↔ OnRow s.mem.rowWrites := by
  unfold keyDown
  cases s.router.repeatKey with
  | none =>
    dsimp only
    split
    · rfl
    · cases keyRole code <;> simp
  | some r =>
    dsimp only
    split_ifs <;> cases keyRole code <;> simp

@[simp] theorem takeClosing_onRow (n : Nat) (s : State) :
    OnRow (takeClosing s n).mem.rowWrites ↔ OnRow s.mem.rowWrites := by simp [takeClosing]

@[simp] theorem takeHidden_onRow (n : Nat) (s : State) :
    OnRow (takeHidden s n).mem.rowWrites ↔ OnRow s.mem.rowWrites := by simp [takeHidden]

@[simp] theorem vehicleReturn_onRow (s : State) : OnRow (vehicleReturn s).mem.rowWrites ↔ OnRow s.mem.rowWrites := by
  simp [vehicleReturn]

@[simp] theorem vehicleAbsence_onRow (s : State) :
    OnRow (vehicleAbsence s).mem.rowWrites ↔ OnRow s.mem.rowWrites := by simp [vehicleAbsence]

/-! ### Work that is cut off -/

@[simp] theorem cutJob_rowWrites (w : ActiveWrite) (s : State) : (cutJob w s).mem.rowWrites = s.mem.rowWrites := by
  unfold cutJob
  split
  · split <;> rfl
  · rfl

@[simp] theorem cutDrain_rowWrites (s : State) : (cutDrain s).mem.rowWrites = s.mem.rowWrites := by
  unfold cutDrain
  split
  · split
    · split <;> rfl
    · rfl
  · rfl

@[simp] theorem cutWrite_rowWrites (m : Master) (s : State) : (cutWrite m s).mem.rowWrites = s.mem.rowWrites := by
  unfold cutWrite
  split <;> simp

@[simp] theorem abortFills_rowWrites (gone : Nat → Bool) (s : State) :
    (abortFills gone s).mem.rowWrites = s.mem.rowWrites := by
  unfold abortFills
  dsimp only
  split
  · split <;> rfl
  · rfl

@[simp] theorem portDeparture_rowWrites (s : State) : (portDeparture s).mem.rowWrites = s.mem.rowWrites := by
  simp [portDeparture]

@[simp] theorem startWrite_rowWrites (m : Master) (p : Pane) (j : WriteJob) (s : State) :
    (startWrite m p j s).mem.rowWrites = s.mem.rowWrites := by
  unfold startWrite
  split <;> cases m <;> rfl

end Sys2Proof.Proofs

/-! ## What the bodies of the commands leave of the memory, the allocation and the fills -/

namespace Sys2Proof.Proofs

open Sys2Proof.Machine Sys2Proof.Safety

/-- From `s` to `t` the allocation lists, the bytes and the fills are the same, and the status row's writes stay on
their row. -/
@[simp] abbrev SameStore (s t : State) : Prop :=
  t.alloc = s.alloc ∧ t.mem.cells = s.mem.cells ∧ t.mem.fills = s.mem.fills ∧
    (OnRow t.mem.rowWrites ↔ OnRow s.mem.rowWrites)

theorem SameStore.refl (s : State) : SameStore s s := ⟨rfl, rfl, rfl, Iff.rfl⟩

theorem SameStore.trans {s t u : State} (h : SameStore s t) (h' : SameStore t u) : SameStore s u := by
  obtain ⟨alloc, cells, fills, row⟩ := h
  obtain ⟨alloc', cells', fills', row'⟩ := h'
  exact ⟨alloc'.trans alloc, cells'.trans cells, fills'.trans fills, row'.trans row⟩

theorem foldl_sameStore {α : Type} {f : State → α → State} (h : ∀ s a, SameStore s (f s a)) (l : List α) :
    ∀ s, SameStore s (l.foldl f s) := by
  induction l with
  | nil => exact SameStore.refl
  | cons a l ih => exact fun s => (h s a).trans (ih (f s a))

/-! ### Requests -/

@[simp] theorem doFocus_store (m : Master) (n : Nat) (s : State) : SameStore s (doFocus m n s) := by
  unfold doFocus
  split
  · simp
  · split
    · split <;> simp
    · simp

@[simp] theorem doKeyAck_store (m : Master) (s : State) : SameStore s (doKeyAck m s) := by
  unfold doKeyAck
  simp only
  split <;> simp

@[simp] theorem doRepeatSet_store (m : Master) (enabled delay period : Nat) (s : State) :
    SameStore s (doRepeatSet m enabled delay period s) := by
  unfold doRepeatSet
  simp only
  split
  · simp
  · split <;> simp

@[simp] theorem doWriteBegin_store (n buffer : Nat) (rect : Rect) (s : State) :
    SameStore s (doWriteBegin n buffer rect s) := by
  unfold doWriteBegin
  simp only
  split <;> simp

@[simp] theorem doFillRect_store (n buffer : Nat) (rect : Rect) (colour : Nat) (s : State) :
    SameStore s (doFillRect n buffer rect colour s) := by
  unfold doFillRect
  simp only
  split <;> simp

@[simp] theorem doTextPut_store (n buffer row column : Nat) (cells : List TextCell) (s : State) :
    SameStore s (doTextPut n buffer row column cells s) := by
  unfold doTextPut
  simp only
  split <;> simp

@[simp] theorem doTextData_store (n buffer row column : Nat) (attr : Byte) (codes : List Byte) (s : State) :
    SameStore s (doTextData n buffer row column attr codes s) := by
  unfold doTextData
  split <;> simp

@[simp] theorem doTextClear_store (m : Master) (n buffer : Nat) (s : State) :
    SameStore s (doTextClear m n buffer s) := by
  unfold doTextClear
  split <;> simp

@[simp] theorem doInputAck_store (m : Master) (n : Nat) (s : State) : SameStore s (doInputAck m n s) := by
  unfold doInputAck
  split <;> simp

@[simp] theorem doInputMode_store (m : Master) (n mode sense time : Nat) (s : State) :
    SameStore s (doInputMode m n mode sense time s) := by
  unfold doInputMode
  simp only
  split <;> simp

@[simp] theorem doQueryInputs_store (m : Master) (input : Option Nat) (s : State) :
    SameStore s (doQueryInputs m input s) := by
  unfold doQueryInputs
  simp only
  split
  · simp
  · split <;> simp

@[simp] theorem doLineSet_store (m : Master) (n direction latch : Nat) (s : State) :
    SameStore s (doLineSet m n direction latch s) := by
  unfold doLineSet
  simp only
  split_ifs <;> simp

@[simp] theorem doQueryLight_store (m : Master) (page : Option Nat) (s : State) :
    SameStore s (doQueryLight m page s) := by
  unfold doQueryLight
  simp only
  split
  · simp
  · split <;> simp

@[simp] theorem doDarkCab_store (m : Master) (setting : Nat) (s : State) : SameStore s (doDarkCab m setting s) := by
  unfold doDarkCab
  cases m with
  | tablet => simp
  | vehicle => dsimp only; split <;> simp

@[simp] theorem doParkDelay_store (m : Master) (delay : Nat) (s : State) : SameStore s (doParkDelay m delay s) := by
  cases m <;> simp [doParkDelay]

@[simp] theorem doWake_store (m : Master) (s : State) : SameStore s (doWake m s) := by
  unfold doWake
  cases m with
  | tablet => simp
  | vehicle => dsimp only; split <;> simp

@[simp] theorem doScanSet_store (m : Master) (press release : Nat) (s : State) :
    SameStore s (doScanSet m press release s) := by
  cases m <;> simp [doScanSet]

/-! ### Events -/

theorem linkTakes_store {hello : Bool} {s t : State} (h : linkTakes hello s = some t) : SameStore s t := by
  unfold linkTakes at h
  split at h
  · cases h
  · split at h <;> cases h
    exact .refl s
  · cases h
    simp
  · split at h <;> cases h
    simp

@[simp] theorem takeIntake_store (hello : Bool) (intake : Intake) (s : State) :
    SameStore s (takeIntake hello intake s) := by
  unfold takeIntake
  cases h : linkTakes hello s with
  | none => exact .refl s
  | some t =>
    refine (linkTakes_store h).trans ?_
    cases intake <;> simp

@[simp] theorem restartScan_store (s : State) : SameStore s (restartScan s) := by simp [restartScan]

@[simp] theorem restartConvert_store (s : State) : SameStore s (restartConvert s) := by simp [restartConvert]

@[simp] theorem vehicleHeard_store (s : State) : SameStore s (vehicleHeard s) := by
  unfold vehicleHeard
  simp only
  split <;> simp

@[simp] theorem takeFrame_store (f : CanFrame) (s : State) : SameStore s (takeFrame f s) := by
  unfold takeFrame
  split_ifs <;> simp

@[simp] theorem vehicleSilenceExpires_store (s : State) : SameStore s (vehicleSilenceExpires s) := by
  unfold vehicleSilenceExpires
  split <;> simp

@[simp] theorem vehicleFrameLeaves_store (s : State) : SameStore s (vehicleFrameLeaves s) := by
  unfold vehicleFrameLeaves
  split <;> simp

@[simp] theorem dockPacketLeaves_store (s : State) : SameStore s (dockPacketLeaves s) := by
  unfold dockPacketLeaves
  split <;> simp

@[simp] theorem sendExpires_store (s : State) : SameStore s (sendExpires s) := by
  unfold sendExpires
  split <;> simp

@[simp] theorem takeChange_store (s : State) (c : KeyChange) : SameStore s (takeChange s c) := by
  cases c <;> simp [takeChange]

@[simp] theorem takeScan_store (raw : BitVec 128) (s : State) : SameStore s (takeScan raw s) := by
  unfold takeScan
  split
  · exact .refl s
  · exact foldl_sameStore takeChange_store _ { s with scanner := s.scanner.debounced raw }

@[simp] theorem takeCapture_store (raw : BitVec 128) (s : State) : SameStore s (takeCapture raw s) := by
  unfold takeCapture
  split
  · exact .refl s
  · exact foldl_sameStore (fun t c => by simp) _ { s with scanner := s.scanner.captured raw }

@[simp] theorem takeWakeSample_store (senses : BitVec 16) (s : State) : SameStore s (takeWakeSample senses s) := by
  unfold takeWakeSample
  split_ifs <;> simp

@[simp] theorem repeatExpires_store (s : State) : SameStore s (repeatExpires s) := by
  unfold repeatExpires
  split
  · exact .refl s
  · simp only
    split <;> simp

@[simp] theorem qualifiedEdge_store (n : Nat) (level : Bool) (i : DiscreteInput) (s : State) :
    SameStore s (qualifiedEdge n level i s) := by
  unfold qualifiedEdge handEdge
  simp only [List.foldl_cons, List.foldl_nil]
  split_ifs <;> simp

@[simp] theorem sampleInput_store (s : State) (sample : Bool × Nat) : SameStore s (sampleInput s sample) := by
  unfold sampleInput
  split
  · split_ifs <;> simp
  · exact .refl s

@[simp] theorem takeSample_store (pins : InputLevels) (s : State) : SameStore s (takeSample pins s) := by
  have counted : SameStore s (millisecond s) := by simp
  exact counted.trans (foldl_sameStore sampleInput_store _ _)

@[simp] theorem countdownExpires_store (s : State) : SameStore s (countdownExpires s) := by
  unfold countdownExpires
  split <;> simp

@[simp] theorem scanCompletes_store (ambient supply panelTemp : Nat) (s : State) :
    SameStore s (scanCompletes ambient supply panelTemp s) := by
  unfold scanCompletes
  split <;> simp


end Sys2Proof.Proofs

/-! ## What every step keeps of the memory, the allocation and the fills: one walk over the commands -/

namespace Sys2Proof.Proofs

open Sys2Proof.Machine Sys2Proof.Safety

/-- The two records agree in all that the allocation and the fills depend on. -/
def SameRun (p q : Pane) : Prop :=
  q.run = p.run ∧ q.owner = p.owner ∧ q.sizeX = p.sizeX ∧ q.sizeY = p.sizeY ∧ q.buffers = p.buffers ∧
    (q.phase = .preparing ↔ p.phase = .preparing)

/-- A property of the memory, the allocation and the fills that each operation on them keeps. -/
structure StoreInvariant (P : State → Prop) : Prop where
  same : ∀ {s t}, P s → SameStore s t → t.layout.panes = s.layout.panes → P t
  record : ∀ {s n p q}, P s → s.pane? n = some p → SameRun p q → P (s.setPane n (some q))
  claim : ∀ {s m ops n run}, P s → s.claimCheck m ops = .ok (n, run) → P (takeClaim n (claimedPane m ops run) s)
  free : ∀ {s n p}, P s → s.pane? n = some p → P (freePane n p s)
  close : ∀ {s} n, P s → P (boundaryClose s n)
  port : ∀ {s}, P s → P (portDeparture s)
  depart : ∀ {s}, P s → P (departPanes s)
  held : ∀ {s}, P s → P (heldState (cutAll s))
  released : ∀ {s} ids1 ids0 pins, P s → P (releasedState ids1 ids0 pins (cutAll s))
  complete : ∀ {w s t}, P s → completeWork w s = .next t → P t
  idle : ∀ {s}, P s → P (idle s)

/-- What each pass of a fold keeps, the fold keeps. -/
theorem foldl_holds {P : State → Prop} {f : State → Nat → State} (h : ∀ n s, P s → P (f s n)) (l : List Nat) :
    ∀ s, P s → P (l.foldl f s) := by
  induction l with
  | nil => exact fun s hs => hs
  | cons n l ih => exact fun s hs => ih _ (h n s hs)

/-- What the effect of an event keeps, the event keeps. -/
theorem whenRunning_holds {P : State → Prop} {body : State → State} {s t : State} (hb : P s → P (body s)) (h : P s)
    (next : whenRunning body s = .next t) : P t := by
  unfold whenRunning at next
  split at next <;> cases next
  · exact hb h
  · exact h

namespace StoreInvariant

variable {P : State → Prop} (inv : StoreInvariant P)
include inv

/-! ### Panes -/

theorem reply {m : Master} {r : Request} {result : Result} {values : List Byte} {s : State} (h : P s) :
    P (Machine.reply m r result values s) := inv.same h (by simp) (by simp)

theorem stage {n : Nat} {p : Pane} {part : PendingPart} {s : State} (h : P s) (hp : s.pane? n = some p) :
    P (Machine.stage n p part s) := inv.record h hp ⟨rfl, rfl, rfl, rfl, rfl, Iff.rfl⟩

theorem closePane {n : Nat} {p : Pane} {s : State} (h : P s) (hp : s.pane? n = some p) (live : p.phase = .live) :
    P (Machine.closePane n p s) := by
  have closing : P (s.setPane n (some { p with phase := .closing, staged := PendingPart.absent })) :=
    inv.record h hp ⟨rfl, rfl, rfl, rfl, rfl, by simp [live]⟩
  exact inv.same closing (.refl _) rfl

theorem doClaim (m : Master) (ops : ClaimOps) {s : State} (h : P s) : P (Machine.doClaim m ops s) := by
  unfold Machine.doClaim
  cases check : s.claimCheck m ops with
  | error r => exact inv.reply h
  | ok found => exact inv.reply (inv.claim h check)

theorem doRelease (m : Master) (n : Nat) {s : State} (h : P s) : P (Machine.doRelease m n s) := by
  unfold Machine.doRelease
  cases check : s.paneCheck m n with
  | error r => exact inv.reply h
  | ok p =>
    obtain ⟨hp, -⟩ := owned_of_paneCheck_ok check
    dsimp only
    split
    · next live => exact inv.same (inv.closePane h hp live) (by simp) (by simp)
    · exact inv.same (inv.free h hp) (by simp) (by simp)

theorem doMove (m : Master) (n : Nat) (w : Window) {s : State} (h : P s) : P (Machine.doMove m n w s) := by
  unfold Machine.doMove
  cases check : s.paneCheck m n with
  | error r => exact inv.reply h
  | ok p =>
    dsimp only
    split
    · exact inv.reply h
    · exact inv.reply (inv.stage h (owned_of_paneCheck_ok check).1)

theorem doScroll (m : Master) (n x y : Nat) {s : State} (h : P s) : P (Machine.doScroll m n x y s) := by
  unfold Machine.doScroll
  cases check : s.paneCheck m n with
  | error r => exact inv.reply h
  | ok p => exact inv.reply (inv.stage h (owned_of_paneCheck_ok check).1)

theorem doVisible (m : Master) (r : Request) (n : Nat) (shown : Bool) {s : State} (h : P s) :
    P (Machine.doVisible m r n shown s) := by
  unfold Machine.doVisible
  cases check : s.visibilityCheck m n with
  | error r => exact inv.reply h
  | ok p =>
    dsimp only
    split
    · exact inv.reply h
    · exact inv.reply (inv.stage h (pane?_of_visibilityCheck_ok check))

theorem doFlip (m : Master) (n : Nat) {s : State} (h : P s) : P (Machine.doFlip m n s) := by
  unfold Machine.doFlip
  cases check : s.paneCheck m n with
  | error r => exact inv.reply h
  | ok p =>
    dsimp only
    split
    · exact inv.reply h
    · split
      · exact inv.reply h
      · exact inv.reply (inv.stage h (owned_of_paneCheck_ok check).1)

theorem doReorder (m : Master) (r : Request) (n : Nat) (reorder : List Nat → List Nat) {s : State} (h : P s) :
    P (Machine.doReorder m r n reorder s) := by
  unfold Machine.doReorder
  cases check : s.paneCheck m n with
  | error r => exact inv.reply h
  | ok p =>
    dsimp only
    split
    · exact inv.reply h
    · split
      · exact inv.same h (by simp) (by simp)
      · exact inv.reply h

/-! ### The frame boundary -/

theorem boundaryLive (n : Nat) {s : State} (h : P s) : P (Machine.boundaryLive s n) := by
  unfold Machine.boundaryLive
  cases hp : s.pane? n with
  | none => exact h
  | some p =>
    dsimp only
    split
    · next ready =>
      have live : P (s.setPane n (some { p with phase := .live })) :=
        inv.record h hp ⟨rfl, rfl, rfl, rfl, rfl, by simp [ready]⟩
      exact inv.same live (by simp) (by simp)
    · exact h

theorem boundaryApply (n : Nat) {s : State} (h : P s) : P (Machine.boundaryApply s n) := by
  unfold Machine.boundaryApply
  cases hp : s.pane? n with
  | none => exact h
  | some p =>
    have applied : P (s.setPane n (some p.applied)) := inv.record h hp ⟨rfl, rfl, rfl, rfl, rfl, Iff.rfl⟩
    dsimp only
    split
    · split
      · exact inv.same applied (by simp) (by simp)
      · exact applied
    · exact h

/-- The orders, the ready list and the frame number are nothing to the property. -/
theorem relaid {s : State} {l : Layout} (h : P s) (panes : l.panes = s.layout.panes) : P { s with layout := l } :=
  inv.same h (.refl s) panes

theorem afterPasses (ns : List Nat) {s : State} (h : P s) : P (Proofs.afterPasses ns s) := by
  have closed : P (afterCloses ns s) := foldl_holds (fun n s => inv.close n) ns s h
  have live : P (withoutReady (afterLives ns s)) :=
    inv.relaid (foldl_holds (fun n s => inv.boundaryLive n) _ _ closed) rfl
  have applied : P (afterApplies ns s) := foldl_holds (fun n s => inv.boundaryApply n) ns _ live
  exact inv.relaid applied rfl

/-- Nor is the position in the frame. -/
theorem scanned {s : State} {o : ScanOut} (h : P s) : P { s with scanOut := o } := inv.same h (.refl s) rfl

theorem takeBoundary {s : State} (h : P s) : P (Machine.takeBoundary s) := by
  have lives := fun l (t : State) => foldl_sameStore (f := fun t n => alertPaneLive n t) (fun t n => by simp) l t
  have hidden := fun l (t : State) => foldl_sameStore (f := takeHidden) (fun t n => by simp) l t
  have layout := congrArg Layout.panes (takeBoundary_layout s)
  rw [takeBoundary_eq, boundaryLayout_eq] at layout
  rw [takeBoundary_eq, boundaryLayout_eq]
  exact inv.same (inv.scanned (inv.afterPasses paneNumbers h)) ((lives _ _).trans (hidden _ _)) layout

/-! ### The two links -/

theorem departure {s : State} (h : P s) : P (Machine.departure s) := by
  have departed : P (departPanes (portDeparture s)) := inv.depart (inv.port h)
  have closings := fun l (t : State) => foldl_sameStore (f := takeClosing) (fun t n => by simp) l t
  refine inv.same departed ?_ (congrArg Layout.panes (departure_layout s))
  have gone : SameStore (departPanes (portDeparture s))
      (alertDeparture (routerGone .tablet (departPanes (portDeparture s)))) := by simp
  refine (gone.trans (closings s.tabletLive _)).trans ?_
  simp [Machine.departure]

theorem linkStart (grace : Nat) {s : State} (h : P s) : P (Machine.linkStart grace s) :=
  inv.same h (by simp) (by simp)

theorem helloArrives (grace : Nat) {s : State} (h : P s) : P (Machine.helloArrives grace s) := by
  unfold Machine.helloArrives
  split
  · exact inv.linkStart grace h
  · split
    · exact inv.linkStart grace (inv.departure h)
    · exact h
  · exact h
  · exact h

theorem helloTaken (grace : Nat) {s : State} (h : P s) : P (Machine.helloTaken grace s) := by
  unfold Machine.helloTaken
  split
  · exact inv.linkStart grace (inv.departure h)
  · exact h

theorem takePacket (bytes : List Byte) {s : State} (h : P s) : P (Machine.takePacket bytes s) := by
  unfold Machine.takePacket
  split
  · exact h
  · split
    · split
      · exact inv.same h (by simp) (by simp)
      · exact inv.helloArrives _ h
    · exact inv.same h (by simp) (by simp)

theorem graceExpires {s : State} (h : P s) : P (Machine.graceExpires s) := by
  unfold Machine.graceExpires
  split
  · exact inv.departure h
  · exact h

theorem restartDock {s : State} (h : P s) : P (Machine.restartDock s) := by
  unfold Machine.restartDock
  split
  · exact inv.departure h
  · exact h

theorem restartUnit (unit : Nat) (m : Master) (units : Nat) {body : State → State} (hb : ∀ {s}, P s → P (body s))
    {s : State} (h : P s) : P (Machine.restartUnit unit m units body s) := by
  unfold Machine.restartUnit
  split
  · cases m with
    | tablet => exact inv.same h (by simp) (by simp)
    | vehicle =>
      dsimp only
      split
      · exact inv.same h (by simp) (by simp)
      · split
        · split <;> exact inv.same (hb h) (by simp) (by simp)
        · exact h
  · exact h

/-! ### Every command -/

/-- A body that changes neither the store nor the layout keeps the property. -/
theorem untouched {body : State → State} (store : ∀ s, SameStore s (body s)) (layout : ∀ s, (body s).layout = s.layout)
    {s : State} (h : P s) : P (body s) := inv.same h (store s) (congrArg Layout.panes (layout s))

theorem taking {m : Master} {r : Request} {body : State → State} (hb : ∀ {s}, P s → P (body s)) {s t : State} (h : P s)
    (next : Machine.taking m r body s = .next t) : P t := by
  by_cases turn : Turn m r s
  · rw [taking_of_turn turn] at next
    cases next
    exact hb (inv.same h (by simp) (by simp))
  · rw [taking_of_not_turn turn] at next
    cases next
    exact h

/-- Each command keeps the property. -/
theorem exec {c : Instr} {s t : State} (h : P s) (next : Machine.exec c s = .next t) : P t := by
  cases c
  case fullReset => cases next; exact inv.held h
  case resetRelease => cases next; exact inv.released _ _ _ h
  case dockLinkPacketReceived => exact whenRunning_holds (inv.takePacket _) h next
  case hello =>
    change execHello _ s = _ at next
    unfold execHello at next
    split at next
    · exact inv.taking (inv.helloTaken _) h next
    · exact whenRunning_holds (inv.helloArrives _) h next
  case claim => exact inv.taking (inv.doClaim _ _) h next
  case release => exact inv.taking (inv.doRelease _ _) h next
  case move => exact inv.taking (inv.doMove _ _ _) h next
  case scroll => exact inv.taking (inv.doScroll _ _ _ _) h next
  case raise => exact inv.taking (inv.doReorder _ _ _ _) h next
  case lower => exact inv.taking (inv.doReorder _ _ _ _) h next
  case showPane => exact inv.taking (inv.doVisible _ _ _ _) h next
  case hidePane => exact inv.taking (inv.doVisible _ _ _ _) h next
  case flip => exact inv.taking (inv.doFlip _ _) h next
  case restartDockLink => cases next; exact inv.restartUnit 0 _ _ inv.restartDock h
  case restartScanner =>
    cases next; exact inv.restartUnit 1 _ _ (inv.untouched restartScan_store restartScan_layout) h
  case restartConverter =>
    cases next; exact inv.restartUnit 2 _ _ (inv.untouched restartConvert_store restartConvert_layout) h
  case graceTimerExpiry => exact whenRunning_holds inv.graceExpires h next
  case frameBoundary => exact whenRunning_holds inv.takeBoundary h next
  case fillCompletion | drainComplete | memoryWritesComplete => exact inv.complete h next
  case refusedPacket | focus | keyAck | repeatSet | writeBegin | fillRect | textPut | textDataFrame | textClear |
      inputAck | inputMode | queryInputs | lineSet | queryLines | queryLight | darkCab | parkDelay | wake | scanSet =>
    exact inv.taking (inv.untouched (fun u => by simp) fun u => by simp) h next
  case keepalive | writeData | vehicleFrameReceived | vehicleSilenceExpiry | vehicleFrameSent | dockPacketSent |
      sendTimerExpiry | silenceTimerExpiry | scanEvent | captureScan | wakeSample | repeatExpiry | inputSample |
      countdownExpiry | converterScanStart | scanCompletion | linkLedToggle =>
    exact whenRunning_holds (inv.untouched (fun u => by simp) fun u => by simp) h next

/-- Each step keeps the property. -/
theorem step {s t : State} (h : P s) (next : Machine.step s = .next t) : P t := by
  unfold Machine.step at next
  split at next
  · cases next
    exact inv.idle h
  · next rest _ => exact inv.exec (s := { s with pending := rest }) (inv.same h (.refl s) rfl) next

end StoreInvariant

end Sys2Proof.Proofs

/-! ## Every step keeps the memory's form, and makes the arbiter's grants (O31) -/

namespace Sys2Proof.Proofs

open Sys2Proof.Machine Sys2Proof.Safety

/-! ### The memory's canonical form (R32) -/

theorem abortFills_wf (gone : Nat → Bool) {s : State} (wf : MemoryKept s) : MemoryKept (abortFills gone s) := by
  unfold abortFills
  dsimp only
  split
  · split
    · exact cutFill_wf _ s wf
    · exact wf
  · exact wf

theorem freePane_wf (n : Nat) (p : Pane) {s : State} (wf : MemoryKept s) : MemoryKept (freePane n p s) := by
  unfold MemoryKept
  rw [freePane_cells]
  split
  · exact abortFills_wf _ wf
  · exact wf

theorem departPane_wf (n : Nat) {s : State} (wf : MemoryKept s) : MemoryKept (departPane s n) := by
  unfold departPane
  split
  · split
    · split
      · exact freePane_wf n _ wf
      · exact freePane_wf n _ wf
      · exact wf
      · exact wf
    · exact wf
  · exact wf

theorem boundaryClose_wf (n : Nat) {s : State} (wf : MemoryKept s) : MemoryKept (boundaryClose s n) := by
  unfold MemoryKept
  rwa [(boundaryClose_frame n s).1]

/-- The canonical form is kept by each operation on the memory. -/
theorem memoryKept_invariant : StoreInvariant MemoryKept where
  same wf store _ := by
    obtain ⟨-, cells, -⟩ := store
    rwa [MemoryKept, cells]
  record wf _ _ := wf
  claim wf _ := wf
  free wf _ := freePane_wf _ _ wf
  close n wf := boundaryClose_wf n wf
  port wf := cutWrite_wf .tablet _ (cutDrain_wf _ wf)
  depart wf := foldl_holds (fun n _ => departPane_wf n) paneNumbers _ (abortFills_wf _ wf)
  held wf := cutAll_wf _ wf
  released _ _ pins wf := writeResetRow_wf _ (linkAfterReset pins.bay) (cutAll_wf _ wf)
  complete wf next := completeWork_wf wf next
  idle wf := idle_wf _ wf

/-- Settles O31: the canonical form by `memoryKept_invariant`; a step without a command makes the access that it grants
by `accessMade_of_granted`; Scan-out's reads by `mem_walkReads` and `readAddress_inside`. -/
theorem stepsKeepTheMemoryForm : Obligations.StepsKeepTheMemoryForm := by
  refine ⟨fun s t => memoryKept_invariant.step, fun s t noCommand running wf next => ?_,
    fun s => ⟨scanReads_of_quiet, fun a ha => ?_⟩⟩
  · obtain rfl : idle s = t := by
      unfold step at next
      rw [noCommand] at next
      exact Host.Outcome.next.inj next
    exact ⟨fun nobody => by rw [idle_of_no_work running nobody], idle_piece running wf,
      fun w g => ⟨grants_of_granted g, accessMade_of_granted running wf g⟩⟩
  · obtain ⟨y, inWalk⟩ := mem_scanReads ha
    obtain ⟨n, hn, p, hp, shown, rfl⟩ := mem_walkReads inWalk
    exact ⟨n, hn, p, hp, shown, readAddress_inside p _ y⟩

end Sys2Proof.Proofs

/-! ## Every step keeps the allocation (O32) -/

namespace Sys2Proof.Proofs

open Sys2Proof.Machine Sys2Proof.Safety

/-! ### The invariant in its two parts, and the fills that a departure has yet to account for -/

/-- The allocation lists and the panes' runs (R33, R34, R36, R37). -/
structure RunsKept (s : State) : Prop where
  order : ∀ o, RunsInOrder o s
  own : ∀ n p, s.pane? n = some p →
    p.run ∈ s.alloc.runs p.owner ∧ p.run.length = (p.sizeX * p.sizeY * 2 + 4095) / 4096 * p.buffers
  listed : ∀ o, ∀ r ∈ s.alloc.runs o, ∃ n p, s.pane? n = some p ∧ p.owner = o ∧ p.run = r
  apart : ∀ n k p q, s.pane? n = some p → s.pane? k = some q → n ≠ k → p.owner = q.owner → p.run ≠ q.run

/-- The fill list (R38, R40). The fills of the tablet's panes `gone` may be aborted already: between the two parts of a
departure they are, and the panes are still PREPARING (R29). -/
structure FillsKept (gone : List Nat) (s : State) : Prop where
  filling : ∀ n p, s.pane? n = some p → p.phase = .preparing →
    (p.owner = .tablet ∧ n ∈ gone) ∨ ∃ e ∈ s.mem.fills, e.pane = n
  once : (s.mem.fills.map (·.pane)).Nodup
  fills : ∀ e ∈ s.mem.fills, e.blocksDone ≤ e.run.length ∧
    ∃ p, s.pane? e.pane = some p ∧ p.phase = .preparing ∧ p.run = e.run

/-- The invariant, but for the fills of the tablet's panes `gone`. -/
def AllocatedBut (gone : List Nat) (s : State) : Prop := RunsKept s ∧ FillsKept gone s ∧ OnRow s.mem.rowWrites

theorem allocationKept_iff {s : State} : AllocationKept s ↔ AllocatedBut [] s := by
  constructor
  · rintro ⟨order, own, listed, apart, filling, once, fills, row⟩
    exact ⟨⟨order, own, listed, apart⟩, ⟨fun n p hp phase => .inr (filling n p hp phase), once, fills⟩, row⟩
  · rintro ⟨⟨order, own, listed, apart⟩, ⟨filling, once, fills⟩, row⟩
    exact ⟨order, own, listed, apart,
      fun n p hp phase => (filling n p hp phase).resolve_left fun h => List.not_mem_nil h.2, once, fills, row⟩

/-! ### Records that keep their runs -/

/-- The two records have one run, for one surface. -/
def SameSurface (p q : Pane) : Prop :=
  q.run = p.run ∧ q.owner = p.owner ∧ q.sizeX = p.sizeX ∧ q.sizeY = p.sizeY ∧ q.buffers = p.buffers

/-- The records of `s` and `t` stand at the same numbers, and each is related to the other. -/
def Related (R : Pane → Pane → Prop) (s t : State) : Prop :=
  (∀ n p, s.pane? n = some p → ∃ q, t.pane? n = some q ∧ R p q) ∧
    ∀ n q, t.pane? n = some q → ∃ p, s.pane? n = some p ∧ R p q

theorem Related.of_panes {R : Pane → Pane → Prop} {s t : State} (refl : ∀ p, R p p)
    (panes : t.layout.panes = s.layout.panes) : Related R s t :=
  ⟨fun n p hp => ⟨p, (pane?_congr panes n).trans hp, refl p⟩,
    fun n p hp => ⟨p, (pane?_congr panes n).symm.trans hp, refl p⟩⟩

theorem Related.of_record {R : Pane → Pane → Prop} {s t : State} {n : Nat} {p q : Pane} (refl : ∀ p, R p p)
    (hp : s.pane? n = some p) (panes : ∀ k, t.pane? k = if k = n then some q else s.pane? k) (h : R p q) :
    Related R s t := by
  constructor
  · intro k r hr
    rw [panes]
    split
    · next hk =>
      subst hk
      obtain rfl : p = r := Option.some.inj (hp.symm.trans hr)
      exact ⟨q, rfl, h⟩
    · exact ⟨r, hr, refl r⟩
  · intro k r hr
    rw [panes] at hr
    split at hr
    · next hk =>
      subst hk
      obtain rfl : q = r := Option.some.inj hr
      exact ⟨p, hp, h⟩
    · exact ⟨r, hr, refl r⟩

theorem Related.mono {R Q : Pane → Pane → Prop} {s t : State} (h : Related R s t) (imp : ∀ p q, R p q → Q p q) :
    Related Q s t := by
  obtain ⟨there, back⟩ := h
  refine ⟨fun n p hp => ?_, fun n q hq => ?_⟩
  · obtain ⟨q, hq, hR⟩ := there n p hp
    exact ⟨q, hq, imp p q hR⟩
  · obtain ⟨p, hp, hR⟩ := back n q hq
    exact ⟨p, hp, imp p q hR⟩

theorem RunsKept.congr {s t : State} (kept : RunsKept s) (alloc : t.alloc = s.alloc) (panes : Related SameSurface s t) :
    RunsKept t := by
  obtain ⟨there, back⟩ := panes
  refine ⟨fun o => ?_, fun n q hq => ?_, fun o r hr => ?_, fun n k q q' hq hq' ne owner => ?_⟩
  · rw [RunsInOrder, alloc]
    exact kept.order o
  · obtain ⟨p, hp, run, owner, sizeX, sizeY, buffers⟩ := back n q hq
    rw [alloc, run, owner, sizeX, sizeY, buffers]
    exact kept.own n p hp
  · rw [alloc] at hr
    obtain ⟨n, p, hp, rfl, rfl⟩ := kept.listed o r hr
    obtain ⟨q, hq, run, owner, -⟩ := there n p hp
    exact ⟨n, q, hq, owner, run⟩
  · obtain ⟨p, hp, run, hOwner, -⟩ := back n q hq
    obtain ⟨p', hp', run', hOwner', -⟩ := back k q' hq'
    rw [hOwner, hOwner'] at owner
    rw [run, run']
    exact kept.apart n k p p' hp hp' ne owner

theorem FillsKept.congr {gone : List Nat} {s t : State} (kept : FillsKept gone s) (fills : t.mem.fills = s.mem.fills)
    (panes : Related SameRun s t) : FillsKept gone t := by
  obtain ⟨there, back⟩ := panes
  refine ⟨fun n q hq phase => ?_, by rw [fills]; exact kept.once, fun e he => ?_⟩
  · obtain ⟨p, hp, -, owner, -, -, -, preparing⟩ := back n q hq
    rw [owner, fills]
    exact kept.filling n p hp (preparing.1 phase)
  · rw [fills] at he
    obtain ⟨blocks, p, hp, phase, run⟩ := kept.fills e he
    obtain ⟨q, hq, hrun, -, -, -, -, preparing⟩ := there e.pane p hp
    exact ⟨blocks, q, hq, preparing.2 phase, hrun.trans run⟩

theorem SameRun.refl (p : Pane) : SameRun p p := ⟨rfl, rfl, rfl, rfl, rfl, Iff.rfl⟩

theorem SameRun.sameSurface (p q : Pane) (h : SameRun p q) : SameSurface p q := by
  obtain ⟨run, owner, sizeX, sizeY, buffers, -⟩ := h
  exact ⟨run, owner, sizeX, sizeY, buffers⟩

theorem AllocatedBut.congr {gone : List Nat} {s t : State} (kept : AllocatedBut gone s) (alloc : t.alloc = s.alloc)
    (fills : t.mem.fills = s.mem.fills) (row : OnRow s.mem.rowWrites → OnRow t.mem.rowWrites)
    (panes : Related SameRun s t) : AllocatedBut gone t := by
  obtain ⟨runs, filled, onRow⟩ := kept
  exact ⟨runs.congr alloc (panes.mono SameRun.sameSurface), filled.congr fills panes, row onRow⟩

/-! ### A run entered, and a run removed (R33, R36, R37) -/

theorem mem_insertRun {r x : Run} {l : List Run} : x ∈ insertRun r l ↔ x = r ∨ x ∈ l := by
  induction l with
  | nil => simp [insertRun]
  | cons q rest ih =>
    unfold insertRun
    split
    · simp
    · simp [ih, or_left_comm]

/-- A run entered in a gap leaves the runs in order. -/
theorem insertRun_in_order {r : Run} {l : List Run} (order : l.Pairwise fun r q => r.start + r.length ≤ q.start)
    (gap : ∀ q ∈ l, r.start + r.length ≤ q.start ∨ q.start + q.length ≤ r.start) (nonempty : 1 ≤ r.length) :
    (insertRun r l).Pairwise fun r q => r.start + r.length ≤ q.start := by
  induction l with
  | nil => exact List.pairwise_singleton _ _
  | cons q rest ih =>
    obtain ⟨before, order⟩ := List.pairwise_cons.1 order
    obtain ⟨here, gap⟩ := List.forall_mem_cons.1 gap
    unfold insertRun
    split
    · refine List.pairwise_cons.2 ⟨List.forall_mem_cons.2 ⟨by omega, fun x hx => ?_⟩,
        List.pairwise_cons.2 ⟨before, order⟩⟩
      have := before x hx
      omega
    · refine List.pairwise_cons.2 ⟨fun x hx => ?_, ih order gap⟩
      rcases mem_insertRun.1 hx with rfl | hx
      · omega
      · exact before x hx

/-- No run stands twice in a list. -/
theorem RunsKept.nodup {s : State} (kept : RunsKept s) (o : Owner) : (s.alloc.runs o).Nodup := by
  obtain ⟨order, bounds⟩ := kept.order o
  refine order.imp_of_mem fun {r q} hr _ h => ?_
  obtain ⟨-, nonempty, -⟩ := bounds r hr
  rintro rfl
  omega

section
variable {s t : State} {n : Nat} {p : Pane} (kept : RunsKept s)
include kept

/-- A pane freed with its run (R37). -/
theorem RunsKept.freed (hp : s.pane? n = some p) (panes : ∀ k, t.pane? k = if k = n then none else s.pane? k)
    (alloc : t.alloc = s.alloc.setRuns p.owner ((s.alloc.runs p.owner).erase p.run)) : RunsKept t := by
  have runs : ∀ o, t.alloc.runs o = if o = p.owner then (s.alloc.runs o).erase p.run else s.alloc.runs o := fun o => by
    rw [alloc, runs_setRuns]
    split <;> simp_all
  have fewer : ∀ o, (t.alloc.runs o).Sublist (s.alloc.runs o) := fun o => by
    rw [runs]
    split
    · exact List.erase_sublist
    · exact List.Sublist.refl _
  have others : ∀ {k q}, t.pane? k = some q → k ≠ n ∧ s.pane? k = some q := fun {k q} hq => by
    rw [panes] at hq
    split at hq
    · cases hq
    · exact ⟨‹_›, hq⟩
  refine ⟨fun o => ?_, fun k q hq => ?_, fun o r hr => ?_, fun k l q q' hq hq' => ?_⟩
  · obtain ⟨order, bounds⟩ := kept.order o
    exact ⟨order.sublist (fewer o), fun r hr => bounds r ((fewer o).subset hr)⟩
  · obtain ⟨hk, hq⟩ := others hq
    obtain ⟨listed, length⟩ := kept.own k q hq
    refine ⟨?_, length⟩
    rw [runs]
    split
    · next owner => exact (List.mem_erase_of_ne (kept.apart k n q p hq hp hk owner)).2 listed
    · exact listed
  · obtain ⟨k, q, hq, owner, run⟩ := kept.listed o r ((fewer o).subset hr)
    refine ⟨k, q, ?_, owner, run⟩
    rw [panes, if_neg, hq]
    rintro rfl
    obtain rfl : p = q := Option.some.inj (hp.symm.trans hq)
    rw [runs, if_pos owner.symm, (kept.nodup o).mem_erase_iff] at hr
    exact hr.1 run.symm
  · exact kept.apart k l q q' (others hq).2 (others hq').2

/-- A pane taken with a run of free blocks (R9, R36). -/
theorem RunsKept.claimed (hn : s.pane? n = none) (panes : ∀ k, t.pane? k = if k = n then some p else s.pane? k)
    (alloc : t.alloc = s.alloc.setRuns p.owner (insertRun p.run (s.alloc.runs p.owner)))
    (free : FreeBlocks p.owner p.run.length p.run.start s) (nonempty : 1 ≤ p.run.length)
    (blocks : p.run.length = (p.sizeX * p.sizeY * 2 + 4095) / 4096 * p.buffers) : RunsKept t := by
  obtain ⟨low, high, gap⟩ := free
  have runs : ∀ o, t.alloc.runs o =
      if o = p.owner then insertRun p.run (s.alloc.runs o) else s.alloc.runs o := fun o => by
    rw [alloc, runs_setRuns]
    split <;> simp_all
  have members : ∀ o r, r ∈ t.alloc.runs o ↔ (o = p.owner ∧ r = p.run) ∨ r ∈ s.alloc.runs o := fun o r => by
    rw [runs]
    split <;> simp [mem_insertRun, *]
  have records : ∀ {k q}, t.pane? k = some q → (k = n ∧ q = p) ∨ (k ≠ n ∧ s.pane? k = some q) := fun {k q} hq => by
    rw [panes] at hq
    split at hq
    · exact .inl ⟨‹_›, (Option.some.inj hq).symm⟩
    · exact .inr ⟨‹_›, hq⟩
  have new : ∀ k q, s.pane? k = some q → q.owner = p.owner → q.run ≠ p.run := fun k q hq owner same => by
    have := gap q.run (owner ▸ (kept.own k q hq).1)
    rw [same] at this
    omega
  refine ⟨fun o => ?_, fun k q hq => ?_, fun o r hr => ?_, fun k l q q' hq hq' ne owner => ?_⟩
  · obtain ⟨order, bounds⟩ := kept.order o
    unfold RunsInOrder
    rw [runs]
    split
    · next owner =>
      subst owner
      refine ⟨insertRun_in_order order gap nonempty, fun r hr => ?_⟩
      rcases mem_insertRun.1 hr with rfl | hr
      · exact ⟨low, nonempty, high⟩
      · exact bounds r hr
    · exact ⟨order, bounds⟩
  · rw [members]
    rcases records hq with ⟨-, rfl⟩ | ⟨-, hq⟩
    · exact ⟨.inl ⟨rfl, rfl⟩, blocks⟩
    · obtain ⟨listed, length⟩ := kept.own k q hq
      exact ⟨.inr listed, length⟩
  · rcases (members o r).1 hr with ⟨rfl, rfl⟩ | hr
    · exact ⟨n, p, by rw [panes, if_pos rfl], rfl, rfl⟩
    · obtain ⟨k, q, hq, owner, run⟩ := kept.listed o r hr
      refine ⟨k, q, ?_, owner, run⟩
      rw [panes, if_neg, hq]
      rintro rfl
      simp [hn] at hq
  · rcases records hq with ⟨rfl, rfl⟩ | ⟨-, hq⟩ <;> rcases records hq' with ⟨rfl, rfl⟩ | ⟨-, hq'⟩
    · exact absurd rfl ne
    · exact (new l q' hq' owner.symm).symm
    · exact new k q hq owner
    · exact kept.apart k l q q' hq hq' ne owner

end

/-! ### Fills appended, removed and finished (R38 to R40) -/

section
variable {gone : List Nat} {s t : State} {n : Nat} {p : Pane} (kept : FillsKept gone s)
include kept

/-- A pane freed with its fill (R40). -/
theorem FillsKept.freed {later : List Nat} (panes : ∀ k, t.pane? k = if k = n then none else s.pane? k)
    (fills : t.mem.fills = s.mem.fills.filter (·.pane != n)) (still : ∀ k ∈ gone, k ≠ n → k ∈ later) :
    FillsKept later t := by
  have member : ∀ e, e ∈ t.mem.fills ↔ e ∈ s.mem.fills ∧ e.pane ≠ n := fun e => by simp [fills]
  refine ⟨fun k q hq phase => ?_, ?_, fun e he => ?_⟩
  · rw [panes] at hq
    split at hq
    · cases hq
    · next hk =>
      rcases kept.filling k q hq phase with ⟨owner, hgone⟩ | ⟨e, he, rfl⟩
      · exact .inl ⟨owner, still k hgone hk⟩
      · exact .inr ⟨e, (member e).2 ⟨he, hk⟩, rfl⟩
  · rw [fills]
    exact kept.once.sublist (List.filter_sublist.map _)
  · obtain ⟨he, hk⟩ := (member e).1 he
    rw [panes, if_neg hk]
    exact kept.fills e he

/-- A pane that is not PREPARING has no fill. -/
theorem FillsKept.filter_of_not_preparing (hp : s.pane? n = some p) (phase : p.phase ≠ .preparing) :
    s.mem.fills.filter (·.pane != n) = s.mem.fills := by
  refine List.filter_eq_self.2 fun e he => ?_
  obtain ⟨-, q, hq, preparing, -⟩ := kept.fills e he
  rw [bne_iff_ne]
  rintro rfl
  obtain rfl : p = q := Option.some.inj (hp.symm.trans hq)
  exact phase preparing

/-- A pane taken with its fill (R38). -/
theorem FillsKept.claimed {e : FillEntry} (hn : s.pane? n = none)
    (panes : ∀ k, t.pane? k = if k = n then some p else s.pane? k) (fills : t.mem.fills = s.mem.fills ++ [e])
    (phase : p.phase = .preparing) (pane : e.pane = n) (run : e.run = p.run) (begins : e.blocksDone = 0) :
    FillsKept gone t := by
  have others : ∀ f ∈ s.mem.fills, f.pane ≠ n := fun f hf h => by
    obtain ⟨-, q, hq, -⟩ := kept.fills f hf
    simp [h, hn] at hq
  refine ⟨fun k q hq preparing => ?_, ?_, fun f hf => ?_⟩
  · rw [panes] at hq
    split at hq
    · next hk => exact .inr ⟨e, by simp [fills], pane.trans hk.symm⟩
    · rcases kept.filling k q hq preparing with h | ⟨f, hf, hk⟩
      · exact .inl h
      · exact .inr ⟨f, by simp [fills, hf], hk⟩
  · rw [fills, List.map_append, List.nodup_append]
    refine ⟨kept.once, List.nodup_singleton _, fun k hk l hl => ?_⟩
    obtain ⟨f, hf, rfl⟩ := List.mem_map.1 hk
    obtain rfl : l = n := by simpa [pane] using hl
    exact others f hf
  · rw [fills] at hf
    rcases List.mem_append.1 hf with hf | hf
    · rw [panes, if_neg (others f hf)]
      exact kept.fills f hf
    · obtain rfl := List.mem_singleton.1 hf
      exact ⟨by omega, p, by rw [panes, if_pos pane], phase, run.symm⟩

/-- The fill in front is done, and its pane no longer PREPARING (R39). -/
theorem FillsKept.done {e : FillEntry} {rest : List FillEntry} (hf : s.mem.fills = e :: rest)
    (panes : ∀ k, t.pane? k = if k = e.pane then some p else s.pane? k) (fills : t.mem.fills = rest)
    (phase : p.phase ≠ .preparing) : FillsKept gone t := by
  obtain ⟨notAgain, once⟩ := List.nodup_cons.1 (hf ▸ kept.once : ((e :: rest).map (·.pane)).Nodup)
  refine ⟨fun k q hq preparing => ?_, by rwa [fills], fun f hr => ?_⟩
  · rw [panes] at hq
    split at hq
    · obtain rfl : p = q := Option.some.inj hq
      exact absurd preparing phase
    · next hk =>
      rcases kept.filling k q hq preparing with h | ⟨f, hr, rfl⟩
      · exact .inl h
      · rw [hf] at hr
        refine .inr ⟨f, ?_, rfl⟩
        rw [fills]
        exact (List.mem_cons.1 hr).resolve_left fun h => hk (by rw [h])
  · rw [fills] at hr
    have other : f.pane ≠ e.pane := fun h => notAgain (List.mem_map.2 ⟨f, hr, h⟩)
    rw [panes, if_neg other]
    exact kept.fills f (by simp [hf, hr])

/-- The fill in front goes on (R39). -/
theorem FillsKept.goesOn {e e' : FillEntry} {rest : List FillEntry} (hf : s.mem.fills = e :: rest)
    (panes : t.layout.panes = s.layout.panes) (fills : t.mem.fills = e' :: rest) (pane : e'.pane = e.pane)
    (run : e'.run = e.run) (blocks : e'.blocksDone ≤ e'.run.length) : FillsKept gone t := by
  have same : t.mem.fills.map (·.pane) = s.mem.fills.map (·.pane) := by simp [fills, hf, pane]
  refine ⟨fun k q hq phase => ?_, by rw [same]; exact kept.once, fun f hr => ?_⟩
  · rw [pane?_congr panes] at hq
    rcases kept.filling k q hq phase with h | ⟨f, hr, hk⟩
    · exact .inl h
    · have : k ∈ t.mem.fills.map (·.pane) := by
        rw [same]
        exact List.mem_map.2 ⟨f, hr, hk⟩
      exact .inr (List.mem_map.1 this)
  · rw [fills] at hr
    rw [pane?_congr panes]
    rcases List.mem_cons.1 hr with rfl | hr
    · rw [pane, run]
      obtain ⟨-, there⟩ := kept.fills e (by simp [hf])
      exact ⟨run ▸ blocks, there⟩
    · exact kept.fills f (by simp [hf, hr])

end

end Sys2Proof.Proofs

/-! ## The allocation through every operation: panes taken and freed, fills, grants and departures (O32) -/

namespace Sys2Proof.Proofs

open Sys2Proof.Machine Sys2Proof.Safety

/-! ### Panes that go (R19, R22, R29) -/

theorem pane?_of_set {s t : State} {n : Nat} {r : Option Pane} (panes : t.layout.panes = s.layout.panes.set n r)
    (hn : n < s.layout.panes.length) (k : Nat) : t.pane? k = if k = n then r else s.pane? k := by
  rw [State.pane?, panes]
  by_cases hk : k = n
  · subst hk
    simp [hn]
  · simp [State.pane?, hk, Ne.symm hk]

@[simp] theorem freePane_rowWrites (n : Nat) (p : Pane) (s : State) :
    (freePane n p s).mem.rowWrites = s.mem.rowWrites := by rw [freePane_eq]

theorem freePane_fills {gone : List Nat} {n : Nat} {p : Pane} {s : State} (kept : FillsKept gone s)
    (hp : s.pane? n = some p) : (freePane n p s).mem.fills = s.mem.fills.filter (·.pane != n) := by
  have fills : (freePane n p s).mem.fills = if p.phase = .preparing then s.mem.fills.filter (·.pane != n)
      else s.mem.fills := by rw [freePane_eq]
  rw [fills]
  split
  · rfl
  · next phase => exact (kept.filter_of_not_preparing hp phase).symm

theorem AllocatedBut.freePane {gone later : List Nat} {n : Nat} {p : Pane} {s : State} (kept : AllocatedBut gone s)
    (hp : s.pane? n = some p) (still : ∀ k ∈ gone, k ≠ n → k ∈ later) : AllocatedBut later (freePane n p s) := by
  obtain ⟨runs, fills, row⟩ := kept
  have panes := pane?_of_set (t := Machine.freePane n p s) (r := none) (by simp) (lt_length_of_pane? hp)
  refine ⟨runs.freed hp panes ?_, fills.freed panes (freePane_fills fills hp) still, by simpa using row⟩
  rw [freePane_eq]

theorem AllocatedBut.boundaryClose {s : State} (n : Nat) (kept : AllocatedBut [] s) :
    AllocatedBut [] (boundaryClose s n) := by
  unfold Machine.boundaryClose
  cases hp : s.pane? n with
  | none => exact kept
  | some p =>
    dsimp only
    split
    · next closing =>
      obtain ⟨runs, fills, row⟩ := kept
      refine ⟨runs.freed hp (pane?_of_set (by simp) (lt_length_of_pane? hp)) (by simp [freeRun]),
        fills.freed (n := n) (pane?_of_set (by simp) (lt_length_of_pane? hp)) ?_ (fun k hk => nomatch hk),
        by simpa using row⟩
      rw [fills.filter_of_not_preparing hp (by simp [closing])]
      simp
    · exact kept

/-! ### A pane taken (R8, R9, R36, R38) -/

/-- A claim that passes R8 has found the first gap, a FREE record, and a surface of at least one block. -/
theorem found_of_claimCheck_ok {m : Master} {ops : ClaimOps} {s : State} {n : Nat} {run : Run}
    (h : s.claimCheck m ops = .ok (n, run)) :
    s.findRun (masterOwner m) (neededBlocks ops) = some run ∧ 1 ≤ neededBlocks ops := by
  unfold State.claimCheck at h
  split at h
  · cases h
  · split at h
    · cases h
    · next values =>
      split at h
      · cases h
      · split at h
        · cases h
        · cases h
        · next found _ =>
          cases h
          refine ⟨found, ?_⟩
          rw [valuesBad_iff, ValuesBarred] at values
          push Not at values
          obtain ⟨-, -, pixel, text, buffers, -, kind, -⟩ := values
          have sizes : 0 < ops.sizeX * ops.sizeY := by
            obtain h0 | h1 : ops.kind = 0 ∨ ops.kind = 1 := by omega
            · obtain ⟨hX, -, hY, -⟩ := pixel h0
              exact Nat.mul_pos hX hY
            · obtain ⟨hX, -, hY, -⟩ := text h1
              exact Nat.mul_pos hX hY
          have blocks : 0 < (ops.sizeX * ops.sizeY * 2 + 4095) / 4096 := by omega
          exact Nat.mul_pos blocks (by omega)

theorem AllocatedBut.takeClaim {m : Master} {ops : ClaimOps} {n : Nat} {run : Run} {s : State}
    (kept : AllocatedBut [] s) (check : s.claimCheck m ops = .ok (n, run)) :
    AllocatedBut [] (takeClaim n (claimedPane m ops run) s) := by
  obtain ⟨runs, fills, row⟩ := kept
  obtain ⟨-, record, -⟩ := claimCheck_ok_imp check
  obtain ⟨found, nonempty⟩ := found_of_claimCheck_ok check
  obtain ⟨length, free, -⟩ := (findRun_eq_some_iff (runs.order _) run).1 found
  have inTable : n < s.layout.panes.length := (List.getElem?_eq_some_iff.1 record).1
  have hn : s.pane? n = none := by rw [State.pane?, record]; rfl
  have panes := pane?_of_set (t := Machine.takeClaim n (claimedPane m ops run) s) (r := some (claimedPane m ops run))
    rfl inTable
  rw [← length] at free nonempty
  exact ⟨runs.claimed hn panes rfl free nonempty length,
    fills.claimed (e := claimedFill n (claimedPane m ops run)) hn panes rfl rfl rfl rfl rfl, row⟩

/-! ### A departure (R29, R40, R161) -/

@[simp] theorem abortFills_fills (gone : Nat → Bool) (s : State) :
    (abortFills gone s).mem.fills = s.mem.fills.filter fun e => !gone e.pane := by
  unfold abortFills
  dsimp only
  split
  · split <;> rfl
  · rfl

/-- The tablet's fills are aborted together, with their panes still to be freed. -/
theorem AllocatedBut.abortTablet {s : State} (kept : AllocatedBut [] s) :
    AllocatedBut paneNumbers (abortFills s.tabletPreparing s) := by
  obtain ⟨runs, ⟨filling, once, fills⟩, row⟩ := kept
  have panes : ∀ n, (abortFills s.tabletPreparing s).pane? n = s.pane? n := pane?_congr (by simp)
  have same : Related SameSurface s (abortFills s.tabletPreparing s) :=
    .of_panes (fun _ => ⟨rfl, rfl, rfl, rfl, rfl⟩) (by simp)
  refine ⟨runs.congr (by simp) same, ⟨fun n p hp phase => ?_, ?_, fun e he => ?_⟩, by simpa using row⟩
  · rw [panes] at hp
    obtain ⟨-, h⟩ | ⟨e, he, rfl⟩ := filling n p hp phase
    · cases h
    · cases aborted : s.tabletPreparing e.pane with
      | true =>
        simp only [State.tabletPreparing, hp, Option.any_some, Bool.and_eq_true, List.contains_iff_mem,
          beq_iff_eq] at aborted
        obtain ⟨number, owner, -⟩ := aborted
        exact .inl ⟨owner, number⟩
      | false => exact .inr ⟨e, by simp [he, aborted], rfl⟩
  · rw [abortFills_fills]
    exact once.sublist (List.filter_sublist.map _)
  · rw [abortFills_fills] at he
    rw [panes]
    exact fills e (List.mem_of_mem_filter he)

/-- The departure on one pane: it needs no exemption any more. -/
theorem AllocatedBut.departPane {n : Nat} {l : List Nat} {s : State} (kept : AllocatedBut (n :: l) s) :
    AllocatedBut l (departPane s n) := by
  have settled : (∀ p, s.pane? n = some p → p.owner = .tablet → p.phase ≠ .preparing) → AllocatedBut l s := fun h => by
    obtain ⟨runs, ⟨filling, once, fills⟩, row⟩ := kept
    refine ⟨runs, ⟨fun k p hp phase => ?_, once, fills⟩, row⟩
    refine (filling k p hp phase).imp_left fun ⟨owner, member⟩ => ⟨owner, (List.mem_cons.1 member).resolve_left ?_⟩
    rintro rfl
    exact h p hp owner phase
  have still : ∀ k ∈ n :: l, k ≠ n → k ∈ l := fun k hk ne => (List.mem_cons.1 hk).resolve_left ne
  unfold Machine.departPane
  cases hp : s.pane? n with
  | none => exact settled fun p hp' => by simp [hp] at hp'
  | some p =>
    have other : (p.owner = .tablet → p.phase ≠ .preparing) → AllocatedBut l s := fun h => settled fun q hq => by
      obtain rfl : p = q := Option.some.inj (hp.symm.trans hq)
      exact h
    dsimp only
    split
    · cases phase : p.phase with
      | preparing => exact kept.freePane hp still
      | ready => exact kept.freePane hp still
      | live =>
        refine (other fun _ => by simp [phase]).congr (by simp) (by simp) (by simp) ?_
        exact .of_record (q := { p with phase := .closing, staged := PendingPart.absent }) SameRun.refl hp
          (pane?_of_set rfl (lt_length_of_pane? hp)) ⟨rfl, rfl, rfl, rfl, rfl, by simp [phase]⟩
      | closing => exact other fun _ => by simp [phase]
    · next owner => exact other fun h => absurd h owner

theorem AllocatedBut.departPanes {s : State} (kept : AllocatedBut [] s) : AllocatedBut [] (departPanes s) := by
  have walk : ∀ (l : List Nat) {t : State}, AllocatedBut l t → AllocatedBut [] (l.foldl Machine.departPane t) := by
    intro l
    induction l with
    | nil => exact fun kept => kept
    | cons n l ih => exact fun kept => ih kept.departPane
  exact walk paneNumbers kept.abortTablet

/-! ### Grants and completions (R39, R50) -/

/-- A client that has finished. -/
theorem AllocatedBut.finishWork (w : Writer) {s : State} (kept : AllocatedBut [] s) :
    AllocatedBut [] (finishWork w s) := by
  cases w with
  | fill =>
    cases hf : s.mem.fills with
    | nil => simpa only [Machine.finishWork, fillDone, hf] using kept
    | cons e rest =>
      obtain ⟨runs, fills, row⟩ := kept
      obtain ⟨-, p, hp, phase, -⟩ := fills.fills e (by simp [hf])
      have panes := pane?_of_set (s := s) (t := fillDone s) (r := some { p with phase := .ready })
        (by rw [fillDone_of_preparing hf hp phase]) (lt_length_of_pane? hp)
      refine ⟨runs.congr ?_ (.of_record (fun _ => ⟨rfl, rfl, rfl, rfl, rfl⟩) hp panes ⟨rfl, rfl, rfl, rfl, rfl⟩),
        fills.done hf panes ?_ (by simp), ?_⟩
      · exact (finishWork_frame .fill s).1
      · rw [Machine.finishWork, fillDone_of_preparing hf hp phase]
      · rw [Machine.finishWork, fillDone_of_preparing hf hp phase]
        exact row
  | drain =>
    have mem : (Machine.finishWork .drain s).mem = s.mem ∧ (Machine.finishWork .drain s).layout = s.layout := by
      simp only [Machine.finishWork, drainDone]
      split <;> simp
    obtain ⟨mem, layout⟩ := mem
    exact kept.congr (by simp) (by rw [mem]) (by rw [mem]; exact id) (.of_panes SameRun.refl (by rw [layout]))
  | text source =>
    refine kept.congr (by simp) (by cases source <;> rfl) (fun row => ?_)
      (.of_panes SameRun.refl (by cases source <;> rfl))
    cases source with
    | tablet => exact row
    | vehicle => exact row
    | statusRow => exact fun w hw => row w (List.mem_of_mem_tail hw)

/-- A client that has been granted an access. -/
theorem AllocatedBut.granted {w : Writer} {s : State} {taken left : List Placed} {last : Placed}
    (cells : List Host.Cell) (kept : AllocatedBut [] s) (h : HasWork w s) (split : s.work w = taken ++ left)
    (hlast : taken.getLast? = some last) : AllocatedBut [] (granted w (last.number + 1) cells s) := by
  have panes : Related SameRun s (Proofs.granted w (last.number + 1) cells s) := .of_panes SameRun.refl rfl
  cases working_of_hasWork h with
  | @fill _ e rest p hf hp phase inside blocks bytes =>
    obtain ⟨runs, fills, row⟩ := kept
    obtain ⟨pane, run, -⟩ := advanced_same e (last.number + 1)
    have more : (e.advanced (last.number + 1)).blocksDone ≤ e.blocksDone + 1 := by
      unfold FillEntry.advanced
      split <;> simp
    refine ⟨runs.congr rfl (panes.mono SameRun.sameSurface),
      fills.goesOn hf rfl (memGranted_fills cells hf (last_in_block h split hlast)) pane run ?_, row⟩
    rw [run]
    omega
  | drain => exact kept.congr rfl rfl id panes
  | @write _ m => cases m <;> exact kept.congr rfl rfl id panes
  | @row _ r rest rows inside =>
    refine kept.congr rfl rfl (fun row => ?_) panes
    have whole := row r (by simp [rows])
    rw [work_row rows inside] at split
    obtain ⟨k, hk, -, number, -⟩ := range'_split (fun _ => rfl) split hlast
    change OnRow (memGranted (.text .statusRow) (last.number + 1) cells s.mem).rowWrites
    rw [memGranted_rowWrites _ cells rows]
    refine List.forall_mem_cons.2 ⟨?_, fun x hx => row x (by simp [rows, hx])⟩
    simp only [RowWrite.advanced, List.length_drop]
    omega

theorem AllocatedBut.grantWrite {w : Writer} {s : State} (kept : AllocatedBut [] s) (h : HasWork w s) :
    AllocatedBut [] (grantWrite w s) := by
  obtain ⟨taken, left, last, split, access, hlast, -⟩ := access_splits h
  have made := grantWrite_eq h split hlast access
  dsimp only at made
  have after := kept.granted (landBytes s.mem.cells (taken.map byteOf)) h split hlast
  rw [made]
  split
  · exact after
  · exact after.finishWork w

theorem AllocatedBut.frameGoesOn {s : State} (kept : AllocatedBut [] s) : AllocatedBut [] (frameGoesOn s) :=
  kept.congr (by simp) (by simp) (by simp) (.of_panes SameRun.refl (by simp))

theorem AllocatedBut.idle {s : State} (kept : AllocatedBut [] s) : AllocatedBut [] (idle s) := by
  rw [idle_eq]
  split
  · cases next : s.nextWriter with
    | none => exact kept.frameGoesOn
    | some w => exact (kept.grantWrite ((nextWriter_iff_granted w s).1 next).1).frameGoesOn
  · exact kept

theorem AllocatedBut.completeWork {w : Writer} {s t : State} (kept : AllocatedBut [] s)
    (next : completeWork w s = .next t) : AllocatedBut [] t := by
  obtain ⟨-, rfl⟩ | ⟨-, cells, -, rfl⟩ := completeWork_next next
  · exact kept
  · exact AllocatedBut.finishWork w (kept.congr rfl (by simp) (by simp) (.of_panes SameRun.refl rfl))

/-! ### Every step -/

/-- The blocks' values after full reset, for any pins and bytes (R31, R33). -/
theorem allocatedBut_afterReset {s : State} (layout : s.layout = Layout.afterReset)
    (alloc : s.alloc = Allocator.afterReset) (fills : s.mem.fills = []) (rows : s.mem.rowWrites = []) : AllocatedBut [] s :=
  (allocationKept_iff.1 allocationKept_reset).congr alloc fills (by rw [rows]; exact id)
    (.of_panes SameRun.refl (by rw [layout]; rfl))

/-- The allocation is kept by each operation on it. -/
theorem allocated_invariant : StoreInvariant (AllocatedBut []) where
  same kept store panes := by
    obtain ⟨alloc, -, fills, row⟩ := store
    exact kept.congr alloc fills row.2 (.of_panes SameRun.refl panes)
  record kept hp same := kept.congr rfl rfl id (.of_record SameRun.refl hp (pane?_setPane hp _) same)
  claim kept check := kept.takeClaim check
  free kept hp := kept.freePane hp fun k hk => nomatch hk
  close n kept := kept.boundaryClose n
  port kept := kept.congr (by simp) (by simp) (by simp) (.of_panes SameRun.refl (by simp))
  depart kept := kept.departPanes
  held _ := allocatedBut_afterReset rfl rfl rfl rfl
  released _ _ _ _ := allocatedBut_afterReset rfl rfl rfl rfl
  complete kept next := kept.completeWork next
  idle kept := kept.idle

/-- Every region lies in the memory (R32). -/
theorem region_in_memory (o : Owner) : (regionBounds o).2 ≤ 512 := by cases o <;> decide

/-- A pane's run lies in the memory. -/
theorem RunsKept.run_in_memory {s : State} {n : Nat} {p : Pane} (kept : RunsKept s) (hp : s.pane? n = some p) :
    p.run.start + p.run.length ≤ 512 := by
  obtain ⟨-, -, high⟩ := (kept.order p.owner).2 p.run (kept.own n p hp).1
  exact high.trans (region_in_memory _)

/-- What is to be written of a kept allocation lies in the memory. -/
theorem AllocatedBut.inMemory {s : State} (kept : AllocatedBut [] s) : InMemory s := by
  obtain ⟨runs, fills, row⟩ := kept
  refine ⟨fun n p hp b hb => ?_, fun e he => ?_, row⟩
  · have high := runs.run_in_memory hp
    obtain ⟨-, length⟩ := runs.own n p hp
    change (p.run.start + b * ((p.sizeX * p.sizeY * 2 + 4095) / 4096)) * 4096 + _ ≤ _
    have blocks := Nat.mul_le_mul_right ((p.sizeX * p.sizeY * 2 + 4095) / 4096) (Nat.succ_le_of_lt hb)
    rw [Nat.succ_mul] at blocks
    rw [length, Nat.mul_comm _ p.buffers] at high
    omega
  · obtain ⟨blocks, p, hp, -, run⟩ := fills.fills e he
    have high := runs.run_in_memory hp
    rw [run] at high
    exact ⟨blocks, by omega⟩

/-- Settles O32: each step by `allocated_invariant`, and what follows of it by `AllocatedBut.inMemory`. -/
theorem stepsKeepTheAllocation : Obligations.StepsKeepTheAllocation :=
  ⟨fun _ _ kept next => allocationKept_iff.2 (allocated_invariant.step (allocationKept_iff.1 kept) next),
    fun _ kept => (allocationKept_iff.1 kept).inMemory⟩

end Sys2Proof.Proofs

/-! ## Composition: the walk for one pixel and the glyphs (O33) -/

namespace Sys2Proof.Proofs

open Sys2Proof.Machine Sys2Proof.Safety

/-! ### The walk (R56 to R62) -/

theorem windowHas_iff (w : Window) (x y : Nat) :
    windowHas w x y = true ↔ w.left ≤ x ∧ x < w.left + w.width ∧ w.top ≤ y ∧ y < w.top + w.height := by
  simp [windowHas, and_assoc]

/-- A pane that is hidden or whose window does not contain the pixel supplies nothing (R56). -/
theorem supplies_of_not_candidate {p : Pane} {x y : Nat} (m : List Host.Cell)
    (h : p.visible = false ∨ windowHas p.window x y = false) : p.supplies m x y = none := by
  unfold Pane.supplies
  rcases h with h | h <;> simp [h]

/-- The address of a PIXEL pane's sample for a screen pixel (R57, R58). -/
def sampleAt (p : Pane) (x y : Nat) : Nat :=
  p.sampleAddress ((x - p.window.left + p.scroll.x) % p.sizeX) ((y - p.window.top + p.scroll.y) % p.sizeY)

/-- A PIXEL candidate that is transparent at the pixel supplies nothing (R59). -/
theorem supplies_of_transparent {p : Pane} {x y : Nat} (m : List Host.Cell) (kind : p.kind = .pixel)
    (transparent : p.transparent = some (readPixel m (sampleAt p x y))) : p.supplies m x y = none := by
  unfold sampleAt at transparent
  simp [Pane.supplies, Pane.surfacePoint, Pane.extentX, Pane.extentY, kind, transparent]

/-- Any other PIXEL candidate supplies its sample (R58). -/
theorem supplies_of_not_transparent {p : Pane} {x y : Nat} {m : List Host.Cell} (kind : p.kind = .pixel)
    (shown : p.visible = true) (inside : windowHas p.window x y = true)
    (differs : p.transparent ≠ some (readPixel m (sampleAt p x y))) :
    p.supplies m x y = some (readPixel m (sampleAt p x y)) := by
  unfold sampleAt at differs ⊢
  simp [Pane.supplies, Pane.surfacePoint, Pane.extentX, Pane.extentY, kind, shown, inside, differs]

/-- A TEXT candidate supplies the colour of its cell's dot (R60, R61). -/
theorem supplies_of_text {p : Pane} {x y : Nat} (m : List Host.Cell) (kind : p.kind = .text)
    (shown : p.visible = true) (inside : windowHas p.window x y = true) :
    p.supplies m x y = some (p.textPixel m ((x - p.window.left + p.scroll.x) % (p.sizeX * 8))
      ((y - p.window.top + p.scroll.y) % (p.sizeY * 16))) := by
  simp [Pane.supplies, Pane.surfacePoint, Pane.extentX, Pane.extentY, kind, shown, inside]

/-- The walk passes pane `n` over: no record of the number supplies the pixel. -/
def PassedOver (s : State) (x y n : Nat) : Prop := ∀ p, s.pane? n = some p → p.supplies s.mem.cells x y = none

/-- A pane that is hidden, does not contain the pixel or is transparent at it is passed over (R56, R59). -/
theorem passedOver_of {s : State} {x y n : Nat}
    (h : ∀ p, s.pane? n = some p → p.visible = false ∨ ¬windowHas p.window x y = true ∨
      (p.kind = .pixel ∧ p.transparent = some (readPixel s.mem.cells (sampleAt p x y)))) : PassedOver s x y n := by
  intro p hp
  obtain hidden | outside | ⟨kind, transparent⟩ := h p hp
  · exact supplies_of_not_candidate _ (.inl hidden)
  · exact supplies_of_not_candidate _ (.inr (Bool.not_eq_true _ ▸ outside))
  · exact supplies_of_transparent _ kind transparent

/-- Panes that are passed over leave the walk to those below them. -/
theorem findSome?_of_passedOver {s : State} {x y : Nat} {above : List Nat} (h : ∀ n ∈ above, PassedOver s x y n)
    (below : List Nat) :
    (above ++ below).findSome? (fun n => (s.pane? n).bind fun p => p.supplies s.mem.cells x y) =
      below.findSome? fun n => (s.pane? n).bind fun p => p.supplies s.mem.cells x y := by
  have none : above.findSome? (fun n => (s.pane? n).bind fun p => p.supplies s.mem.cells x y) = Option.none :=
    List.findSome?_eq_none_iff.2 fun n hn => Option.bind_eq_none_iff.2 (h n hn)
  rw [List.findSome?_append, none, Option.none_or]

/-- With every pane passed over the pixel is the backdrop (R62). -/
theorem composed_of_passedOver {s : State} {x y : Nat} (h : ∀ n ∈ s.layout.current, PassedOver s x y n) :
    s.composed x y = 0x0000 := by
  have walk := findSome?_of_passedOver h []
  rw [List.append_nil] at walk
  rw [State.composed, walk]
  rfl

/-- The first pane that is not passed over decides the pixel (R56). -/
theorem composed_of_supplies {s : State} {x y n value : Nat} {above below : List Nat} {p : Pane}
    (order : s.layout.current = above ++ n :: below) (h : ∀ k ∈ above, PassedOver s x y k) (hp : s.pane? n = some p)
    (supplied : p.supplies s.mem.cells x y = some value) : s.composed x y = value := by
  simp [State.composed, order, findSome?_of_passedOver h, hp, supplied]

/-! ### The glyphs (R63) -/

/-- The symbols that R63 gives dot by dot. -/
def dotSymbols : List Nat := [0x85, 0x86, 0x87, 0x88, 0x89, 0x8A, 0x8D, 0x8E]

/-- A code that R63 does not give dot by dot has a glyph if it is printable or a free symbol, within columns 0 to 6 and rows
1 to 14. -/
theorem glyph_of_not_dotSymbol {code : Nat} (h : code ∉ dotSymbols) (c r : Nat) :
    glyph code c r =
      if (0x21 ≤ code && code ≤ 0x7E) || freeSymbol code then
        c ≤ 6 && 1 ≤ r && r ≤ 14 && Config.glyphDot code c r
      else false := by
  simp only [dotSymbols, List.mem_cons, not_or] at h
  obtain ⟨h85, h86, h87, h88, h89, h8A, h8D, h8E, -⟩ := h
  unfold glyph
  split
  case h_9 => rfl
  all_goals contradiction

/-- Control codes, DEL and the codes from 0x90 on are blank. -/
theorem glyph_of_blank {code : Nat} (h : code ≤ 0x20 ∨ code = 0x7F ∨ 0x90 ≤ code) (c r : Nat) :
    glyph code c r = false := by
  have free : code ∉ dotSymbols := by simp [dotSymbols]; omega
  rw [glyph_of_not_dotSymbol free, if_neg]
  simp only [freeSymbol, Bool.or_eq_true, Bool.and_eq_true, decide_eq_true_eq, beq_iff_eq]
  omega

/-- A glyph that R63 does not give dot by dot leaves column 7 and rows 0 and 15 blank. -/
theorem glyph_at_edge {code c r : Nat} (h : code ∉ dotSymbols) (edge : c = 7 ∨ r = 0 ∨ r = 15) :
    glyph code c r = false := by
  have outside : (decide (c ≤ 6) && decide (1 ≤ r) && decide (r ≤ 14)) = false := by
    simp only [Bool.and_eq_false_iff, decide_eq_false_iff_not]
    omega
  rw [glyph_of_not_dotSymbol h, outside, Bool.false_and, ite_self]

/-- Settles O33: the walk by `composed_of_passedOver` and `composed_of_supplies`, the glyphs by their limits and, for the
symbols given dot by dot, by definition. -/
theorem walkComposesThePixel : Obligations.WalkComposesThePixel := by
  refine ⟨fun s x y => ?_, by decide, fun code c r hc hr => ⟨fun h => glyph_of_blank h c r, fun h => glyph_at_edge ?_, ?_⟩⟩
  · intro inside u v base at16 sample cell passes
    have inside_iff (p : Pane) : windowHas p.window x y = true ↔ inside p := windowHas_iff _ _ _
    have sample_eq {p : Pane} (kind : p.kind = .pixel) : sample p = readPixel s.mem.cells (sampleAt p x y) := by
      simp only [sample, u, v, kind, if_true]
      rfl
    have passed {n : Nat} (h : passes n) : PassedOver s x y n := passedOver_of fun p hp =>
      (h p hp).imp_right (Or.imp (mt (inside_iff p).1) fun ⟨kind, transparent⟩ => ⟨kind, sample_eq kind ▸ transparent⟩)
    refine ⟨fun h => composed_of_passedOver fun n hn => passed (h n hn), ?_⟩
    intro above below n p order passing hp shown within
    have decides {value : Nat} := composed_of_supplies (value := value) order (fun k hk => passed (passing k hk)) hp
    have within := (inside_iff p).2 within
    refine ⟨fun kind differs => decides ?_, fun kind => decides ?_⟩
    · rw [sample_eq kind] at differs ⊢
      exact supplies_of_not_transparent kind shown within differs
    · have text : ¬p.kind = .pixel := by simp [kind]
      rw [supplies_of_text _ kind shown within]
      simp only [cell, u, v, if_neg text]
      rfl
  · simp [dotSymbols] at h ⊢
    omega
  · simp [glyph, or_assoc]

end Sys2Proof.Proofs

/-! ## Full reset: the part held (O5), what is driven and the release (O7) -/

namespace Sys2Proof.Proofs

open Sys2Proof.Machine Sys2Proof.Safety

theorem whenRunning_of_held {s : State} (held : s.scanOut.running = false) (body : State → State) :
    whenRunning body s = .next s := by simp [whenRunning, held]

theorem completeWork_of_held {s : State} (held : s.scanOut.running = false) (w : Writer) :
    completeWork w s = .next s := by simp [completeWork, held]

/-- No request is in its turn while the part is held. -/
theorem not_turn_of_held {s : State} (held : s.scanOut.running = false) (m : Master) (r : Request) : ¬Turn m r s := by
  simp [Turn, held]

/-- Settles O5: every command but the two is a request that waits, an event or the end of a client's work, and none of
these is taken while the part is held. -/
theorem heldPartTakesNothing : Obligations.HeldPartTakesNothing := by
  intro c s held notReset notRelease
  have waits := not_turn_of_held held
  cases c
  case fullReset => exact absurd rfl notReset
  case resetRelease ids1 ids0 pins => exact absurd rfl (notRelease ids1 ids0 pins)
  case hello grace =>
    change execHello grace s = .next s
    unfold execHello
    split
    · exact taking_of_not_turn (waits _ _) _
    · exact whenRunning_of_held held _
  case restartDockLink | restartScanner | restartConverter => exact congrArg _ (restartUnit_of_not_turn (waits _ _) _ _)
  case fillCompletion | drainComplete | memoryWritesComplete => exact completeWork_of_held held _
  case dockLinkPacketReceived | keepalive | writeData | vehicleFrameReceived | vehicleSilenceExpiry |
      vehicleFrameSent | dockPacketSent | sendTimerExpiry | silenceTimerExpiry | graceTimerExpiry | frameBoundary |
      scanEvent | captureScan | wakeSample | repeatExpiry | inputSample | countdownExpiry | converterScanStart |
      scanCompletion | linkLedToggle => exact whenRunning_of_held held _
  all_goals exact taking_of_not_turn (waits _ _) _

/-- No pixel is driven in vertical blanking (R52). -/
theorem panelNow_in_blanking {s : State} (running : s.scanOut.running = true) (h : s.scanOut.line < 45) :
    s.panelNow = none := by
  simp [State.panelNow, running, ScanOut.activeLine, blankingLines, h]

/-- In an active line the pixel of the position is driven (R52, R64). -/
theorem panelNow_in_active_line {s : State} (running : s.scanOut.running = true) (h : 45 ≤ s.scanOut.line) :
    s.panelNow = some (if s.scanOut.panel = .on then s.composed s.scanOut.column (s.scanOut.line - 45) else 0) := by
  simp [State.panelNow, State.panelData, State.panelEnable, running, ScanOut.activeLine, blankingLines, not_lt.2 h]

/-- A boundary counts the frame and turns a RESUMING panel ON (R25, R66). -/
theorem takeBoundary_frame_and_panel (s : State) :
    (takeBoundary s).layout.frame = s.layout.frame + 1 ∧ (takeBoundary s).scanOut = s.scanOut.nextFrame := by
  obtain ⟨-, -, frame, -⟩ := afterPasses_layout paneNumbers s
  rw [← boundaryLayout_eq, ← takeBoundary_layout] at frame
  exact ⟨frame, by simp [takeBoundary_eq]⟩

/-- Settles O7: full reset and its release by their reset values, the boundary by `takeBoundary_frame_and_panel`. -/
theorem fullResetHoldsAndReleases : Obligations.FullResetHoldsAndReleases := by
  refine ⟨fun s => ?_, fun s running => ⟨panelNow_in_blanking running, panelNow_in_active_line running⟩, ?_⟩
  · exact ⟨heldState (cutAll s), rfl, rfl, rfl, fun _ _ => rfl, rfl, whenRunning_of_held rfl _⟩
  · intro ids1 ids0 pins s
    let t := releasedState ids1 ids0 pins (cutAll s)
    obtain ⟨frame, scanOut⟩ := takeBoundary_frame_and_panel t
    refine ⟨t, rfl, rfl, rfl, fun _ _ => rfl, takeBoundary t, exec_frameBoundary rfl, frame, ?_⟩
    rw [State.panelEnable, scanOut]
    rfl

end Sys2Proof.Proofs

/-! ## The countdown expiry: the flush and the entry to PARKED (O47) -/

namespace Sys2Proof.Proofs

open Sys2Proof.Machine Sys2Proof.Safety

/-! ### The flush (R97) -/

/-- A master's part of the Key Router once an entry of the held-key table has been released (R95, R98). -/
def keyReleased (m : Master) (now : Nat) (c : KeyChannel) (e : HeldKey) : KeyChannel :=
  if e.target = some (masterOwner m) then
    { c with queue := c.queue ++ [{ code := e.code, kind := .up, delta := c.delta now }], lastEntry := some now }
  else c

/-- The release of an entry changes the channel of its target alone. -/
theorem releaseTo_eq_keyReleased (e : HeldKey) (s : State) :
    releaseTo e.target e.code s =
      { s with router := { s.router with
          tablet := keyReleased .tablet s.now s.router.tablet e
          vehicle := keyReleased .vehicle s.now s.router.vehicle e } } := by
  obtain ⟨code, target, time⟩ := e
  rcases target with _ | _ | _ | _ <;> rfl

/-- Entries released one after another. -/
theorem foldl_releaseTo (held : List HeldKey) (s : State) :
    held.foldl (fun s e => releaseTo e.target e.code s) s =
      { s with router := { s.router with
          tablet := held.foldl (keyReleased .tablet s.now) s.router.tablet
          vehicle := held.foldl (keyReleased .vehicle s.now) s.router.vehicle } } := by
  induction held generalizing s with
  | nil => rfl
  | cons e held ih =>
    rw [List.foldl_cons, ih, releaseTo_eq_keyReleased]
    rfl

/-- UPs that follow one placed now have delta 0 (R98). -/
theorem foldl_keyReleased_after_entry {m : Master} {ups : List HeldKey} {now : Nat} {c : KeyChannel}
    (targeted : ∀ e ∈ ups, e.target = some (masterOwner m)) (entry : c.lastEntry = some now) :
    ups.foldl (keyReleased m now) c =
      { c with queue := c.queue ++ ups.map fun e => { code := e.code, kind := .up, delta := 0 } } := by
  induction ups generalizing c with
  | nil => simp
  | cons e ups ih =>
    have first : keyReleased m now c e =
        { c with queue := c.queue ++ [{ code := e.code, kind := .up, delta := 0 }] } := by
      simp [keyReleased, targeted e (by simp), KeyChannel.delta, entry]
    have rest := ih (c := keyReleased m now c e) (fun e he => targeted e (by simp [he])) (by rw [first, entry])
    rw [List.foldl_cons, rest, first]
    simp

/-- The UPs of a flush: the first with its delta, the others with 0 (R97, R98). -/
theorem foldl_keyReleased (m : Master) (held : List HeldKey) (now : Nat) (c : KeyChannel) :
    let ups := held.filter fun e => e.target == some (masterOwner m)
    held.foldl (keyReleased m now) c =
      { c with
        queue := c.queue ++
          ups.zipIdx.map fun (e, k) => { code := e.code, kind := .up, delta := if k = 0 then c.delta now else 0 }
        lastEntry := if ups = [] then c.lastEntry else some now } := by
  intro ups
  have only : held.foldl (keyReleased m now) c = ups.foldl (keyReleased m now) c := by
    simp only [ups, List.foldl_filter, beq_iff_eq]
    congr 1
    funext c e
    simp only [keyReleased]
    split <;> rfl
  have targeted : ∀ e ∈ ups, e.target = some (masterOwner m) := fun e he => by simpa using List.of_mem_filter he
  rw [only]
  clear_value ups
  cases ups with
  | nil => simp
  | cons e rest =>
    have later : rest.map (fun e => ({ code := e.code, kind := .up, delta := 0 } : KeyEvent)) =
        (rest.zipIdx 1).map fun (e, k) =>
          { code := e.code, kind := .up, delta := if k = 0 then c.delta now else 0 } := by
      conv_lhs => rw [← List.zipIdx_map_fst 1 rest, List.map_map]
      refine List.map_congr_left fun (e, k) hk => ?_
      have numbered : k ≠ 0 := Nat.one_le_iff_ne_zero.1 (List.mem_zipIdx hk).1
      simp [numbered]
    rw [List.foldl_cons, foldl_keyReleased_after_entry (fun e he => targeted e (by simp [he]))
      (by simp [keyReleased, targeted e (by simp)]), later]
    simp [keyReleased, targeted e (by simp), List.zipIdx_cons]

/-- A flush: its UPs placed, then the reports that are due. -/
theorem flush_eq (s : State) : flush s = tryReport .vehicle (tryReport .tablet (flushed s)) := by
  have placed (m : Master) : s.router.held.foldl (keyReleased m s.now) (channel m s) = flushedChannel m s :=
    foldl_keyReleased m _ _ _
  rw [flush, foldl_releaseTo, flushed, ← placed, ← placed]
  rfl

theorem flush_flushedTo (s : State) : FlushedTo s (flush s) :=
  ⟨_, tryReport_reported .tablet (flushed s), flush_eq s ▸ tryReport_reported .vehicle _⟩

/-! ### The entry to PARKED (R65, R76, R97, R134) -/

/-- The state with other park, panel and scanner records, which neither the flush nor a report reads. -/
def parkingWith (park : Park) (scanOut : ScanOut) (scanner : Scanner) (s : State) : State :=
  { s with park := park, scanOut := scanOut, scanner := scanner }

theorem tryReport_parkingWith (m : Master) (park : Park) (scanOut : ScanOut) (scanner : Scanner) (s : State) :
    tryReport m (parkingWith park scanOut scanner s) = parkingWith park scanOut scanner (tryReport m s) := by
  have due : (parkingWith park scanOut scanner s).reportDue m = s.reportDue m := by cases m <;> rfl
  unfold tryReport
  rw [due]
  split
  · simp only [hand_eq_handed]
    cases m <;> rfl
  · rfl

theorem flush_parkingWith (park : Park) (scanOut : ScanOut) (scanner : Scanner) (s : State) :
    flush (parkingWith park scanOut scanner s) = parkingWith park scanOut scanner (flush s) := by
  have placed : flushed (parkingWith park scanOut scanner s) = parkingWith park scanOut scanner (flushed s) := rfl
  rw [flush_eq, placed, tryReport_parkingWith, tryReport_parkingWith, ← flush_eq]

/-- The entry to PARKED is a flush, the panel OFF, the scanner in WAKE_DETECT and the light out. -/
theorem enterParked_parkedTo (s : State) : ParkedTo s (enterParked s) := by
  refine ⟨flush s, flush_flushedTo s, ?_⟩
  have flushes := flush_parkingWith { s.park with state := .parked, countdown := none }
    { s.scanOut with panel := .off } s.scanner.enterParked s
  have park : (flush s).park = s.park := by simp
  have scanOut : (flush s).scanOut = s.scanOut := by simp
  have scanner : (flush s).scanner = s.scanner := by simp
  rw [park, scanOut, scanner]
  exact congrArg (fun u : State => { u with light := { u.light with parked := true, target := 0, applied := 0 } }) flushes

/-- Settles O47: the expiry in PARK_PENDING at countdown 0 by `enterParked_parkedTo`; otherwise it is not taken. -/
theorem countdownExpiryEntersPark : Obligations.CountdownExpiryEntersPark := by
  intro s running
  have expiry : exec .countdownExpiry s = .next (countdownExpires s) := whenRunning_of_running running _
  refine ⟨fun pending zero => ⟨enterParked s, ?_, enterParked_parkedTo s⟩, fun early => ?_⟩
  · rw [expiry, countdownExpires, if_pos ⟨pending, zero⟩]
  · rw [expiry, countdownExpires, if_neg (not_and_or.2 early)]

end Sys2Proof.Proofs

/-! ## The keyboard matrix: the scans in SCANNING (O40) -/

namespace Sys2Proof.Proofs

open Sys2Proof.Machine Sys2Proof.Safety

/-! ### A scan in SCANNING mode (R72 to R74) -/

/-- The 128 position records with their key codes. -/
theorem numbered_eq {s : State} (length : s.scanner.positions.length = 128) :
    s.scanner.numbered = (List.range 128).map fun c => (positionOf s c, c) := by
  refine List.ext_getElem (by simp [Scanner.numbered, length]) fun c h _ => ?_
  have inTable : c < s.scanner.positions.length := by simpa [Scanner.numbered] using h
  simp [Scanner.numbered, positionOf, inTable]

/-- The table of R72, row by row. -/
theorem move_eq_scanRow (press release : Nat) (down : Bool) (p : Position) :
    p.move press release down = scanRow press release down p := by
  obtain ⟨state, count⟩ := p
  cases state <;> cases down <;> rfl

/-- What the table of R72 hands on, row by row. -/
theorem accepted_eq_scanHands (press release : Nat) (down : Bool) (c : Nat) (p : Position) :
    p.accepted press release down c = scanHands press release down c p := by
  have orElse (n : Nat) (change : KeyChange) : (if p.count + 1 < n then none else some change) =
      if n ≤ p.count + 1 then some change else none := by
    simp only [← not_lt (a := p.count + 1), ite_not]
  cases h : p.state <;> cases down <;> simp [Position.accepted, scanHands, h, orElse]

theorem differs_eq_readsOther (down : Bool) (p : Position) : p.differs down = readsOther down p := by
  obtain ⟨state, count⟩ := p
  cases state <;> rfl

section
variable {s : State} (length : s.scanner.positions.length = 128) (raw : BitVec 128)
include length

/-- The shock test (R73). -/
theorem shock_iff : s.scanner.shock raw = true ↔
    6 ≤ (List.range 128).countP fun c => readsOther (raw.getLsbD c) (positionOf s c) := by
  simp only [Scanner.shock, numbered_eq length, List.countP_map, decide_eq_true_iff, readsDown_eq,
    differs_eq_readsOther]
  rfl

theorem debounced_eq : s.scanner.debounced raw =
    { s.scanner with
      positions := (List.range 128).map fun c =>
        scanRow s.scanner.pressCount s.scanner.releaseCount (raw.getLsbD c) (positionOf s c) } := by
  simp only [Scanner.debounced, numbered_eq length, List.map_map, move_eq_scanRow, readsDown_eq]
  rfl

theorem changes_eq : s.scanner.changes raw = (List.range 128).filterMap fun c =>
    scanHands s.scanner.pressCount s.scanner.releaseCount (raw.getLsbD c) c (positionOf s c) := by
  simp only [Scanner.changes, numbered_eq length, List.filterMap_map, accepted_eq_scanHands, readsDown_eq]
  rfl

end

/-- Settles O40: the shock test by `shock_iff`; else the positions by `debounced_eq` and what is handed on by
`changes_eq`. -/
theorem scanMovesEveryPosition : Obligations.ScanMovesEveryPosition := by
  intro raw s running scanning length down others
  have event : exec (.scanEvent raw) s = .next (takeScan raw s) := whenRunning_of_running running _
  rw [event, takeScan]
  refine ⟨fun shock => ?_, fun quiet => ?_⟩
  · rw [if_pos (.inr ((shock_iff length raw).2 shock))]
  · have calm : ¬(s.scanner.mode ≠ .scanning ∨ s.scanner.shock raw = true) := by
      rw [shock_iff length]
      exact not_or.2 ⟨not_not.2 scanning, not_le.2 quiet⟩
    rw [if_neg calm, debounced_eq length, changes_eq length]
    intro moved changes
    refine congrArg (fun take => Host.Outcome.next (changes.foldl take moved)) (funext₂ fun t change => ?_)
    cases change <;> rfl

end Sys2Proof.Proofs

/-! ## Wake samples and the capture scan (O41) -/

namespace Sys2Proof.Proofs

open Sys2Proof.Machine Sys2Proof.Safety

/-! ### The leaving of PARKED (R143) -/

/-- The leaving of PARKED, handed to the Scan-out Unit, the Matrix Scanner and the monitor. -/
theorem leaveParked_eq (s : State) : leaveParked s =
    { s with
      scanOut := { s.scanOut with panel := if s.scanOut.panel = PanelState.off then .resuming else s.scanOut.panel }
      scanner := s.scanner.leaveParked
      light := { s.light with
        parked := false, converting := true
        scanStart := if s.light.converting then s.light.scanStart else s.now } } := by
  have light (l : Light) : (if l.converting then { l with parked := false } else
      { l with parked := false, converting := true, scanStart := s.now }) =
      { l with parked := false, converting := true, scanStart := if l.converting then l.scanStart else s.now } := by
    obtain ⟨⟩ := l
    split <;> simp_all
  rw [← light]
  unfold leaveParked
  dsimp only
  split <;> rfl

/-- A key wake or a WAKE in PARKED. -/
theorem wakeUp_eq_leftPark (s : State) : wakeUp s = leftPark s := by
  unfold wakeUp leftPark
  split <;> rw [leaveParked_eq] <;> rfl

/-! ### The capture scan (R79, R96) -/

/-- The captured DOWNs enter the held-key table while it has room. -/
theorem foldl_capturedDown (codes : List Nat) (s : State) :
    codes.foldl (fun s c => capturedDown c s) s =
      { s with router := { s.router with
          held := s.router.held ++ (codes.take (10 - s.router.held.length)).map fun c =>
            { code := c, target := none, time := s.now } } } := by
  induction codes generalizing s with
  | nil => simp
  | cons c codes ih =>
    rw [List.foldl_cons, ih]
    by_cases room : s.router.held.length < 10
    · have more : 10 - s.router.held.length = 10 - (s.router.held.length + 1) + 1 := by omega
      simp [capturedDown, heldKeyLimit, not_le.2 room, holdKey, more]
    · have full : 10 - s.router.held.length = 0 := by omega
      simp [capturedDown, heldKeyLimit, not_lt.1 room, full]

theorem capturedCodes_eq {s : State} (length : s.scanner.positions.length = 128) (raw : BitVec 128) :
    s.scanner.capturedCodes raw = (List.range 128).filter fun c => raw.getLsbD c := by
  simp only [Scanner.capturedCodes, numbered_eq length, List.filterMap_map, readsDown_eq, ← List.filterMap_eq_filter]
  refine List.filterMap_congr fun c _ => ?_
  simp [Option.guard]

theorem captured_eq {s : State} (length : s.scanner.positions.length = 128) (raw : BitVec 128) :
    s.scanner.captured raw =
      { s.scanner with
        mode := .scanning
        positions := (List.range 128).map fun c =>
          if raw.getLsbD c then { state := .stableDown, count := 0 } else { state := .stableUp, count := 0 } } := by
  simp only [Scanner.captured, numbered_eq length, List.map_map, readsDown_eq]
  rfl

/-- A scan makes its 128 readings in ascending key code (R69). -/
theorem scanReadings_eq (raw : BitVec 128) :
    scanReadings raw = (List.range 128).map fun c => (c, raw.getLsbD c) := by
  have slots : scanReadings raw =
      (List.range 8).flatMap fun d => (List.range 16).map fun k => (d * 16 + k, raw.getLsbD (d * 16 + k)) := by
    refine List.flatMap_congr fun d _ => List.map_congr_left fun k hk => ?_
    rw [slotSenses_getLsbD raw d k (List.mem_range.1 hk), crossing]
  rw [slots, flatMap_range_rows fun d k => (d * 16 + k, raw.getLsbD (d * 16 + k))]
  exact List.map_congr_left fun c _ => by rw [Nat.div_add_mod']

/-- Settles O41: a wake sample by its branches, the capture scan by `foldl_capturedDown`. -/
theorem wakeKeysAreCaptured : Obligations.WakeKeysAreCaptured := by
  refine ⟨fun senses s running detecting => ?_, fun s => ⟨fun held => ?_, fun running detecting => ?_,
    fun running scanning => ?_⟩, fun raw => ⟨fun d k _ hk => ?_, scanReadings_eq raw⟩,
    fun raw s running capturing length => ?_⟩
  · have event : exec (.wakeSample senses) s = .next (takeWakeSample senses s) := whenRunning_of_running running _
    rw [event]
    have sampled (clear : s.scanner.wakeLatch = false) :
        ¬(s.scanner.mode ≠ .wakeDetect ∨ s.scanner.wakeLatch = true) := by
      simp [detecting, clear]
    unfold takeWakeSample
    refine ⟨fun latch => ?_, fun clear quiet => ?_, fun clear active unseen => ?_, fun clear active seen => ?_⟩
    · rw [if_pos (.inr latch)]
    · rw [if_neg (sampled clear), if_pos quiet]
    · rw [if_neg (sampled clear), if_neg active, if_neg (by simp [unseen])]
    · rw [if_neg (sampled clear), if_neg active, if_pos seen, keyWake, wakeUp_eq_leftPark]
  · simp [State.keyboardDrive, held]
  · simp [State.keyboardDrive, running, detecting]
  · cases mode : s.scanner.mode with
    | wakeDetect => exact absurd mode scanning
    | scanning | capture => simp [State.keyboardDrive, running, mode, driveOrder, List.range, List.range.loop]
  · exact ⟨rfl, slotSenses_getLsbD raw d k hk, by rw [readsDown_eq, slotSenses_getLsbD raw d k hk]⟩
  · have event : exec (.captureScan raw) s = .next (takeCapture raw s) := whenRunning_of_running running _
    rw [event, takeCapture, if_neg (not_not.2 capturing), capturedCodes_eq length, foldl_capturedDown,
      captured_eq length]

end Sys2Proof.Proofs

/-! ## SCAN SET, DARK CAB and PARK DELAY (O46) -/

namespace Sys2Proof.Proofs

open Sys2Proof.Machine Sys2Proof.Safety

theorem clampScans_eq (n : Nat) : clampScans n = if n < 2 then 2 else if 40 < n then 40 else n := by
  unfold clampScans
  split
  · omega
  · split <;> omega

theorem min_600_eq (n : Nat) : min 600 n = if 600 < n then 600 else n := by
  split <;> omega

/-- Settles O46: each request's body, on the side of its master and for the codes that DARK CAB defines. -/
theorem vehicleSettingsAreClamped : Obligations.VehicleSettingsAreClamped := by
  intro press release setting delay s
  refine ⟨refusedWith_of_taking rfl rfl rfl rfl, refusedWith_of_taking rfl rfl rfl rfl,
    refusedWith_of_taking rfl rfl rfl rfl, refusedWith_of_taking rfl rfl rfl rfl, fun undefined => ?_, fun turn => ?_,
    fun turn defined => ?_, fun turn => ?_⟩
  · exact refusedWith_of_taking rfl rfl (if_pos undefined) rfl
  · intro clamp
    have taken : exec (.scanSet .vehicle press release) s = _ := taking_of_turn turn _
    rw [taken, doScanSet, clampScans_eq, clampScans_eq]
    exact congrArg _ (reply_eq_handed .vehicle _ _ _ _)
  · have taken : exec (.darkCab .vehicle setting) s = _ := taking_of_turn turn _
    rw [taken, doDarkCab]
    have jump : (s.light.jump || (setting == 1 && !s.light.darkCab)) =
        if setting = 1 ∧ s.light.darkCab = false then true else s.light.jump := by
      cases s.light.darkCab <;> by_cases on : setting = 1 <;> simp [on]
    rw [if_neg (not_lt.2 defined)]
    exact congrArg _ ((reply_eq_handed .vehicle _ _ _ _).trans (by rw [← jump]; rfl))
  · have taken : exec (.parkDelay .vehicle delay) s = _ := taking_of_turn turn _
    rw [taken, doParkDelay, min_600_eq]
    exact congrArg _ (reply_eq_handed .vehicle _ _ _ _)

end Sys2Proof.Proofs

/-! ## Work that a departure cuts off: the bytes that may change (R40, R43, R45, R161) -/

namespace Sys2Proof.Proofs

open Sys2Proof.Machine Sys2Proof.Safety

/-! ### The bytes of each kind of work -/

/-- Spans of which some addresses have landed change no byte outside them. -/
theorem read_foldl_landSome {landed : Nat → Bool} {l : List Span} {m : List Host.Cell} {x : Nat} (wf : Memory.wf m)
    (changed : Memory.read (l.foldl (Span.landSome landed) m) x ≠ Memory.read m x) :
    ∃ b, (x, b) ∈ l.flatMap Span.bytes := by
  induction l generalizing m with
  | nil => exact absurd rfl changed
  | cons sp l ih =>
    rw [List.flatMap_cons]
    by_cases later : Memory.read (l.foldl (Span.landSome landed) (sp.landSome landed m)) x =
        Memory.read (sp.landSome landed m) x
    · have here : sp.base ≤ x ∧ x < sp.base + sp.len := by
        by_contra outside
        rw [List.foldl_cons, later, Span.landSome, read_update _ _ _ _ _ wf, if_neg (by tauto)] at changed
        exact changed rfl
      exact ⟨sp.byteAt x, List.mem_append_left _ (List.mem_map.2 ⟨x, List.mem_range'_1.2 here, rfl⟩)⟩
    · obtain ⟨b, hb⟩ := ih (landSome_wf _ _ sp wf) later
      exact ⟨b, List.mem_append_right _ hb⟩

/-- A drain changes only bytes that are targets of its stream (R44). -/
theorem read_drainBytes {p : Pane} {st : Stream} {k x : Nat} {bytes : List Byte} {m : List Host.Cell}
    (wf : Memory.wf m) (changed : Memory.read (drainBytes p st k bytes m) x ≠ Memory.read m x) :
    ∃ j, st.target p j = some x := by
  induction bytes generalizing k m with
  | nil => exact absurd rfl changed
  | cons b rest ih =>
    rw [drainBytes] at changed
    cases target : st.target p k with
    | none =>
      rw [target] at changed
      exact ih wf changed
    | some a =>
      rw [target] at changed
      by_cases here : x = a
      · exact ⟨k, here ▸ target⟩
      · refine ih (update_wf _ a 1 (fun _ => some b) wf) fun same => changed (same.trans ?_)
        rw [read_update _ _ _ _ _ wf, if_neg (by omega)]

/-- What is left of a write goes to addresses of its buffer. -/
theorem mem_spans_inside {p : Pane} {w : ActiveWrite} {x : Nat} {b : Byte}
    (h : (x, b) ∈ (w.spans p).flatMap Span.bytes) :
    p.bufferBase w.job.buffer ≤ x ∧ x < p.bufferBase w.job.buffer + p.sizeX * p.sizeY * 2 := by
  rw [ActiveWrite.spans, spansLeft_bytes, job_bytes] at h
  obtain ⟨k, hk, byte⟩ := List.mem_map.1 (List.mem_of_mem_drop h)
  have inside := jobByte_inside (List.mem_range.1 hk)
  rwa [byte] at inside

/-- The run of a pane is as long as its buffers need (R34). -/
def RunFits (p : Pane) : Prop := p.run.length = (p.sizeX * p.sizeY * 2 + 4095) / 4096 * p.buffers

/-- A buffer of a pane lies in its run. -/
theorem inRun_of_buffer {p : Pane} {b x : Nat} (fits : RunFits p) (hb : b < p.buffers) (above : p.bufferBase b ≤ x)
    (below : x < p.bufferBase b + p.sizeX * p.sizeY * 2) : inRun p x := by
  have blocks : surfaceBlocks p.sizeX p.sizeY = (p.sizeX * p.sizeY * 2 + 4095) / 4096 := rfl
  rw [Pane.bufferBase, blocks, blockBytes] at above below
  rw [inRun, fits]
  generalize hk : (p.sizeX * p.sizeY * 2 + 4095) / 4096 = k at *
  have rows := Nat.mul_le_mul_left k (Nat.succ_le_of_lt hb)
  rw [Nat.mul_succ, Nat.mul_comm k b] at rows
  omega

/-! ### What is cut off -/

section
variable {s : State} (wf : MemoryKept s) {x : Nat}
include wf

/-- The fills aborted together: only the one in progress has bytes written (R39, R40). -/
theorem read_abortFills {gone : Nat → Bool}
    (changed : Memory.read (abortFills gone s).mem.cells x ≠ Memory.read s.mem.cells x) :
    ∃ e rest, s.mem.fills = e :: rest ∧ gone e.pane = true ∧
      e.run.start * 4096 ≤ x ∧ x < (e.run.start + e.run.length) * 4096 := by
  unfold abortFills at changed
  cases fills : s.mem.fills with
  | nil => simp [fills] at changed
  | cons e rest =>
    simp only [fills] at changed
    split at changed
    · exact ⟨e, rest, rfl, ‹_›, read_cutFill wf changed⟩
    · exact absurd rfl changed

variable (fits : ∀ n p, s.pane? n = some p → RunFits p)
include fits

/-- The tablet's write under way writes to its pane alone (R43). -/
theorem read_cutWrite (changed : Memory.read (cutWrite .tablet s).mem.cells x ≠ Memory.read s.mem.cells x) :
    ∃ w p, s.mem.tabletWrite = some w ∧ s.pane? w.job.pane = some p ∧ inRun p x := by
  unfold cutWrite at changed
  cases hw : s.mem.writeOf .tablet with
  | none => simp [hw] at changed
  | some w =>
    simp only [hw, setWrite_cells, cutJob] at changed
    split at changed
    · next p hp =>
      split at changed
      · next takes =>
        obtain ⟨-, buffer⟩ := (takesWrites_iff p _).1 takes
        obtain ⟨b, hb⟩ := read_foldl_landSome wf changed
        obtain ⟨above, below⟩ := mem_spans_inside hb
        exact ⟨w, p, hw, hp, inRun_of_buffer (fits _ _ hp) buffer above below⟩
      · exact absurd rfl changed
    · exact absurd rfl changed

/-- The drain under way writes to the pane of its stream alone (R43, R45). -/
theorem read_cutDrain (changed : Memory.read (cutDrain s).mem.cells x ≠ Memory.read s.mem.cells x) :
    ∃ st p, s.dock.stream = some st ∧ s.pane? st.pane = some p ∧ inRun p x := by
  unfold cutDrain at changed
  split at changed
  · next name st _ hst =>
    split at changed
    · next start bytes p _ hp =>
      split at changed
      · next takes =>
        obtain ⟨-, buffer⟩ := (takesWrites_iff p _).1 takes
        obtain ⟨j, target⟩ := read_drainBytes wf changed
        obtain ⟨-, -, address⟩ := target_eq_some target
        exact ⟨st, p, hst, hp, inRun_of_buffer (fits _ _ hp) buffer (by omega) (target_inside target)⟩
      · exact absurd rfl changed
    · exact absurd rfl changed
  · exact absurd rfl changed

end

end Sys2Proof.Proofs

/-! ## What a departure makes of the panes, their runs and their fills (R29, R37, R40) -/

namespace Sys2Proof.Proofs

open Sys2Proof.Machine Sys2Proof.Safety

/-! ### One record -/

/-- A record once the tablet has departed (R29). -/
def departedRecord (r : Option Pane) : Option Pane :=
  r.bind fun p =>
    if p.owner = .tablet then
      match p.phase with
      | .preparing => none
      | .ready => none
      | .live => some { p with phase := .closing, staged := PendingPart.absent }
      | .closing => some p
    else some p

/-- The run that a departure frees with a record (R29, R37). -/
def departedRun (r : Option Pane) : Option Run :=
  r.bind fun p => if p.owner = .tablet ∧ (p.phase = .preparing ∨ p.phase = .ready) then some p.run else none

theorem departedRecord_of_other {p : Pane} (owner : p.owner ≠ .tablet) : departedRecord (some p) = some p :=
  if_neg owner

theorem departedRecord_departedRecord (r : Option Pane) : departedRecord (departedRecord r) = departedRecord r := by
  cases r with
  | none => rfl
  | some p =>
    by_cases owner : p.owner = .tablet
    · cases phase : p.phase <;> simp [departedRecord, owner, phase]
    · simp [departedRecord, owner]

/-- No record of the tablet is PREPARING any more. -/
theorem departedRecord_not_preparing (r : Option Pane) :
    (departedRecord r).any (fun p => p.owner == .tablet && p.phase == .preparing) = false := by
  cases r with
  | none => rfl
  | some p =>
    by_cases owner : p.owner = .tablet
    · cases phase : p.phase <;> simp [departedRecord, owner, phase]
    · simp [departedRecord, owner]

/-! ### The departure on one pane, with the fills of the tablet aborted already -/

theorem departPane_pane? (s : State) (n k : Nat) :
    (departPane s n).pane? k = if k = n then departedRecord (s.pane? k) else s.pane? k := by
  unfold departPane
  cases hp : s.pane? n with
  | none => by_cases hk : k = n <;> simp [hk, hp, departedRecord]
  | some p =>
    have inTable := lt_length_of_pane? hp
    have stays (same : departedRecord (some p) = some p) :
        s.pane? k = if k = n then departedRecord (s.pane? k) else s.pane? k := by
      by_cases hk : k = n <;> simp [hk, hp, same]
    have becomes {t : State} {r : Option Pane} (panes : t.layout.panes = s.layout.panes.set n r)
        (record : departedRecord (some p) = r) :
        t.pane? k = if k = n then departedRecord (s.pane? k) else s.pane? k := by
      rw [pane?_of_set panes inTable]
      by_cases hk : k = n <;> simp [hk, hp, record]
    by_cases owner : p.owner = .tablet
    · dsimp only
      rw [if_pos owner]
      cases phase : p.phase
      case preparing | ready =>
        exact becomes (congrArg Layout.panes (freePane_layout n p s)) (by simp [departedRecord, owner, phase])
      case live =>
        exact becomes (congrArg Layout.panes (closePane_layout n p s)) (by simp [departedRecord, owner, phase])
      case closing => exact stays (by simp [departedRecord, owner, phase])
    · dsimp only
      rw [if_neg owner]
      exact stays (departedRecord_of_other owner)

/-- The tablet's fills are aborted already. -/
def NoTabletFills (s : State) : Prop := ∀ e ∈ s.mem.fills, fillAborted s e = false

/-- A pane without a fill has none to abort. -/
theorem abortFill_of_no_fill {n : Nat} {s : State} (h : ∀ e ∈ s.mem.fills, e.pane ≠ n) : abortFill n s = s := by
  obtain only | ⟨e, he, hn, -⟩ := abortFill_cases n s
  · rw [only, fillsWithout, List.filter_eq_self.2 fun e he => bne_iff_ne.2 (h e he)]
  · exact absurd hn (h e he)

/-- Then only the layout and the allocation lists change. -/
theorem departPane_eq_relaid {s : State} (settled : NoTabletFills s) (n : Nat) :
    departPane s n = relaid (departPane s n).layout (departPane s n).alloc s := by
  unfold departPane
  cases hp : s.pane? n with
  | none => rfl
  | some p =>
    by_cases owner : p.owner = .tablet
    · dsimp only
      rw [if_pos owner]
      cases phase : p.phase with
      | preparing =>
        have noFill : ∀ e ∈ s.mem.fills, e.pane ≠ n := fun e he hn => by
          have := settled e he
          simp [fillAborted, hn, hp, owner, phase] at this
        simp only [freePane, phase, if_true, abortFill_of_no_fill noFill]
        rfl
      | ready =>
        simp only [freePane, phase]
        rfl
      | live | closing => rfl
    · dsimp only
      rw [if_neg owner]
      rfl

theorem departPane_settled {s : State} (settled : NoTabletFills s) (n : Nat) : NoTabletFills (departPane s n) := by
  have fills : (departPane s n).mem.fills = s.mem.fills := by rw [departPane_eq_relaid settled]; rfl
  intro e he
  rw [fills] at he
  rw [fillAborted, departPane_pane?]
  split
  · exact departedRecord_not_preparing _
  · exact settled e he

theorem closedBy_departPane {s : State} {n k : Nat} (other : k ≠ n) : closedBy (departPane s n) k = closedBy s k := by
  rw [closedBy, departPane_pane?, if_neg other, closedBy]

theorem freedBy_departPane {s : State} {n k : Nat} (other : k ≠ n) : freedBy (departPane s n) k = freedBy s k := by
  rw [freedBy, departPane_pane?, if_neg other, freedBy]

/-- The pane leaves a list of panes if it is one that goes, and the list stays if it is not. -/
theorem filter_eq_without {l : List Nat} {n : Nat} {goes : Nat → Bool} :
    (l.filter fun k => !(k == n && goes k)) = if goes n then without n l else l := by
  split
  · next going =>
    refine List.filter_congr fun k _ => ?_
    by_cases hk : k = n
    · simp [hk, going]
    · simp [bne, beq_eq_false_iff_ne.2 hk]
  · next staying =>
    refine List.filter_eq_self.2 fun k _ => ?_
    by_cases hk : k = n <;> simp [hk, staying]

theorem departPane_nextOrder (s : State) (n : Nat) :
    (departPane s n).layout.nextOrder = s.layout.nextOrder.filter fun k => !(k == n && closedBy s k) := by
  rw [filter_eq_without]
  unfold departPane closedBy
  cases hp : s.pane? n with
  | none => rfl
  | some p => by_cases owner : p.owner = .tablet <;> cases phase : p.phase <;> simp [owner, phase]

theorem departPane_ready (s : State) (n : Nat) :
    (departPane s n).layout.ready = s.layout.ready.filter fun k => !(k == n && freedBy s k) := by
  rw [filter_eq_without]
  unfold departPane freedBy
  cases hp : s.pane? n with
  | none => rfl
  | some p => by_cases owner : p.owner = .tablet <;> cases phase : p.phase <;> simp [owner, phase]

theorem departPane_alloc (s : State) (n : Nat) :
    (departPane s n).alloc =
      { s.alloc with tablet := (departedRun (s.pane? n)).toList.foldl List.erase s.alloc.tablet } := by
  unfold departPane departedRun
  cases hp : s.pane? n with
  | none => rfl
  | some p =>
    have freed : (freePane n p s).alloc = s.alloc.setRuns p.owner ((s.alloc.runs p.owner).erase p.run) := by
      rw [freePane_eq]
    by_cases owner : p.owner = .tablet <;> cases phase : p.phase <;>
      simp [owner, phase, freed, Allocator.setRuns, Allocator.runs]

/-! ### The departure on pane after pane -/

theorem foldl_departPane_pane? (ns : List Nat) (s : State) (k : Nat) :
    (ns.foldl departPane s).pane? k = if k ∈ ns then departedRecord (s.pane? k) else s.pane? k :=
  foldl_pane? departedRecord_departedRecord departPane_pane? ns s k

theorem foldl_departPane_eq_relaid (ns : List Nat) {s : State} (settled : NoTabletFills s) :
    ns.foldl departPane s = relaid (ns.foldl departPane s).layout (ns.foldl departPane s).alloc s := by
  induction ns generalizing s with
  | nil => rfl
  | cons n ns ih =>
    have rest := ih (departPane_settled settled n)
    rw [List.foldl_cons]
    generalize ns.foldl departPane (departPane s n) = t at rest ⊢
    rw [departPane_eq_relaid settled n, relaid_relaid] at rest
    exact rest

/-- A list from which each step takes its own pane, if it is one that goes. -/
theorem foldl_departPane_filter {order : State → List Nat} {goes : State → Nat → Bool}
    (one : ∀ s n, order (departPane s n) = (order s).filter fun k => !(k == n && goes s k))
    (others : ∀ {s : State} {n k : Nat}, k ≠ n → goes (departPane s n) k = goes s k) (ns : List Nat) (apart : ns.Nodup)
    (s : State) : order (ns.foldl departPane s) = (order s).filter fun k => !(ns.contains k && goes s k) := by
  induction ns generalizing s with
  | nil => simp
  | cons n ns ih =>
    obtain ⟨hn, apart⟩ := List.nodup_cons.1 apart
    rw [List.foldl_cons, ih apart, one, List.filter_filter]
    refine List.filter_congr fun k _ => ?_
    by_cases hk : k = n
    · simp [hk, hn]
    · simp [hk, others hk]

theorem foldl_departPane_alloc (ns : List Nat) (apart : ns.Nodup) (s : State) :
    (ns.foldl departPane s).alloc = { s.alloc with
      tablet := (ns.filterMap fun n => departedRun (s.pane? n)).foldl List.erase s.alloc.tablet } := by
  induction ns generalizing s with
  | nil => rfl
  | cons n ns ih =>
    obtain ⟨hn, apart⟩ := List.nodup_cons.1 apart
    have others : ns.filterMap (fun k => departedRun ((departPane s n).pane? k)) =
        ns.filterMap fun k => departedRun (s.pane? k) :=
      List.filterMap_congr fun k hk => by rw [departPane_pane?, if_neg (ne_of_mem_of_not_mem hk hn)]
    rw [List.foldl_cons, ih apart, others, departPane_alloc, List.filterMap_cons]
    cases departedRun (s.pane? n) <;> rfl

theorem departPane_length (s : State) (n : Nat) :
    (departPane s n).layout.panes.length = s.layout.panes.length := by
  unfold departPane
  split
  · split
    · split <;> simp
    · rfl
  · rfl

/-! ### The whole departure of the panes -/

/-- A list without its panes that go. -/
theorem filter_paneNumbers {goes : Nat → Bool} (inTable : ∀ n, goes n = true → n < 8) (l : List Nat) :
    (l.filter fun k => !(paneNumbers.contains k && goes k)) = l.filter fun k => !goes k := by
  refine List.filter_congr fun k _ => ?_
  cases going : goes k with
  | false => simp
  | true => simp [inTable k going]

/-- Fills aborted together: bytes, the list and the free values used. -/
theorem abortFills_eq (gone : Nat → Bool) (s : State) : ∃ cells used, abortFills gone s =
    { s with
      mem := { s.mem with cells := cells, fills := s.mem.fills.filter fun e => !gone e.pane }, freeCount := used } := by
  unfold abortFills
  dsimp only
  split
  · split <;> exact ⟨_, _, rfl⟩
  · exact ⟨_, _, rfl⟩

section
variable {s : State} (eight : s.layout.panes.length = 8)
include eight

theorem any_pane?_lt {n : Nat} {f : Pane → Bool} (h : (s.pane? n).any f = true) : n < 8 := by
  cases hp : s.pane? n with
  | none => simp [hp] at h
  | some p => exact eight ▸ lt_length_of_pane? hp

theorem tabletPreparing_eq_fillAborted (e : FillEntry) : s.tabletPreparing e.pane = fillAborted s e := by
  rw [State.tabletPreparing, fillAborted]
  cases preparing : (s.pane? e.pane).any fun p => p.owner == .tablet && p.phase == .preparing with
  | false => rw [Bool.and_false]
  | true => simp [any_pane?_lt eight preparing]

theorem foldl_departPane_panes :
    (paneNumbers.foldl departPane s).layout.panes = s.layout.panes.map departedRecord := by
  have length := foldl_same (fun t : State => t.layout.panes.length) departPane departPane_length paneNumbers s
  refine panes_ext (by rw [length, List.length_map]) fun n => ?_
  have record := foldl_departPane_pane? paneNumbers s n
  have none_of_ge (h : ¬n < 8) : s.pane? n = none := by simp [State.pane?, eight, not_lt.1 h]
  have mapped : ((s.layout.panes.map departedRecord)[n]?).join = departedRecord (s.pane? n) := by
    rw [List.getElem?_map, State.pane?]
    cases s.layout.panes[n]? <;> rfl
  rw [mapped]
  refine record.trans ?_
  split
  · rfl
  · next outside => rw [none_of_ge (by simpa using outside)]; rfl

/-- The layout of `departed` (R29). -/
theorem foldl_departPane_layout (cells : List Host.Cell) (used : Nat) :
    (paneNumbers.foldl departPane s).layout = (departed cells used s).layout := by
  have panes := foldl_departPane_panes eight
  have next := foldl_departPane_filter (order := fun t => t.layout.nextOrder) departPane_nextOrder closedBy_departPane
    paneNumbers paneNumbers_nodup s
  have ready := foldl_departPane_filter (order := fun t => t.layout.ready) departPane_ready freedBy_departPane
    paneNumbers paneNumbers_nodup s
  have same := foldl_same (fun t : State => (t.layout.current, t.layout.frame)) departPane (fun t n => by simp)
    paneNumbers s
  rw [filter_paneNumbers (goes := closedBy s) fun n => any_pane?_lt eight] at next
  rw [filter_paneNumbers (goes := freedBy s) fun n => any_pane?_lt eight] at ready
  obtain ⟨current, frame⟩ := Prod.mk.inj same
  have eta (l : Layout) : l = ⟨l.panes, l.current, l.nextOrder, l.ready, l.frame⟩ := rfl
  rw [eta (paneNumbers.foldl departPane s).layout, panes, current, next, ready, frame]
  rfl

/-- The allocation lists of `departed` (R37). -/
theorem foldl_departPane_runs (cells : List Host.Cell) (used : Nat) :
    (paneNumbers.foldl departPane s).alloc = (departed cells used s).alloc := by
  have numbers : (paneNumbers.filterMap fun n => departedRun (s.pane? n)) = s.layout.panes.filterMap departedRun := by
    rw [paneNumbers, ← eight]
    exact filterMap_range_join departedRun s.layout.panes
  rw [foldl_departPane_alloc paneNumbers paneNumbers_nodup, numbers]
  rfl

theorem abortTablet_settled : NoTabletFills (abortFills s.tabletPreparing s) := by
  obtain ⟨cells, used, aborted⟩ := abortFills_eq s.tabletPreparing s
  rw [aborted]
  intro e he
  have kept : fillAborted s e = false := by
    rw [← tabletPreparing_eq_fillAborted eight]
    simpa using List.of_mem_filter he
  exact kept

/-- Once the tablet's fills are aborted, the departure writes no byte more. -/
theorem departPanes_cells : (departPanes s).mem.cells = (abortFills s.tabletPreparing s).mem.cells := by
  rw [departPanes, foldl_departPane_eq_relaid _ (abortTablet_settled eight)]
  rfl

/-- The panes' part of a departure, but for bytes: the layout, the runs and the fills of `departed` (R29, R37, R40). -/
theorem departPanes_eq : ∃ cells used, departPanes s =
    { s with
      layout := (departed cells used s).layout, alloc := (departed cells used s).alloc
      mem := { s.mem with cells := cells, fills := s.mem.fills.filter fun e => !fillAborted s e }
      freeCount := used } := by
  obtain ⟨cells, used, aborted⟩ := abortFills_eq s.tabletPreparing s
  have settled := abortTablet_settled eight
  have eight' : (abortFills s.tabletPreparing s).layout.panes.length = 8 := by rw [aborted]; exact eight
  refine ⟨cells, used, ?_⟩
  rw [departPanes, foldl_departPane_eq_relaid _ settled, foldl_departPane_layout eight' cells used,
    foldl_departPane_runs eight' cells used, aborted]
  simp only [tabletPreparing_eq_fillAborted eight]
  rfl

end

end Sys2Proof.Proofs

/-! ## A departure: the blocks in the order of R161 (R29, R88, R107, R118, R122, R153, R156) -/

namespace Sys2Proof.Proofs

open Sys2Proof.Machine Sys2Proof.Safety

/-! ### The port's part, with the work under way cut off (R43, R161) -/

/-- A drain that is cut off leaves bytes and uses free values. -/
theorem cutDrain_eq (s : State) : ∃ cells used, cutDrain s =
    { s with mem := { s.mem with cells := cells }, freeCount := used } := by
  unfold cutDrain
  split
  · split
    · split <;> exact ⟨_, _, rfl⟩
    · exact ⟨_, _, rfl⟩
  · exact ⟨_, _, rfl⟩

/-- So does a write of the tablet, which is then gone. -/
theorem cutWrite_tablet_eq (s : State) : ∃ cells used, cutWrite .tablet s =
    { s with mem := { s.mem with cells := cells, tabletWrite := none }, freeCount := used } := by
  unfold cutWrite
  cases hw : s.mem.writeOf .tablet with
  | none => exact ⟨_, _, (withWrite_none hw).symm⟩
  | some w =>
    dsimp only
    unfold cutJob
    split
    · split <;> exact ⟨_, _, rfl⟩
    · exact ⟨_, _, rfl⟩

theorem portDeparture_eq (s : State) : ∃ cells used, portDeparture s =
    { s with
      mem := { s.mem with cells := cells, tabletWrite := none }
      dock := { s.dock with
        link := if (s.inputs[0]?).any (·.qualified) then .attaching else .absent
        silence := none, graceTimer := none, send := none, requests := [], outbound := []
        bufferA := .empty, bufferB := .empty, nextBuffer := .a, stream := none }
      freeCount := used } := by
  obtain ⟨drained, used, drain⟩ := cutDrain_eq s
  obtain ⟨cells, used', write⟩ := cutWrite_tablet_eq (cutDrain s)
  refine ⟨cells, used', ?_⟩
  rw [portDeparture, write, drain]
  rfl

/-- The port and the Layout Controller together make `departed`, but for the Key Router. -/
theorem departPanes_portDeparture {s : State} (eight : s.layout.panes.length = 8) : ∃ used,
    departPanes (portDeparture s) =
      { departed (departPanes (portDeparture s)).mem.cells used s with router := s.router } := by
  obtain ⟨_, _, port⟩ := portDeparture_eq s
  obtain ⟨cells, used, panes⟩ := departPanes_eq (s := portDeparture s) (by rw [port]; exact eight)
  rw [panes, port]
  exact ⟨used, rfl⟩

/-- The bytes that a departure changes (R40, R43). -/
theorem read_departed {s : State} (eight : s.layout.panes.length = 8) (wf : MemoryKept s) (kept : AllocationKept s)
    {x : Nat} (changed : Memory.read (departPanes (portDeparture s)).mem.cells x ≠ Memory.read s.mem.cells x) :
    (∃ e rest, s.mem.fills = e :: rest ∧ fillAborted s e = true ∧
        e.run.start * 4096 ≤ x ∧ x < (e.run.start + e.run.length) * 4096) ∨
      (∃ w p, s.mem.tabletWrite = some w ∧ s.pane? w.job.pane = some p ∧ inRun p x) ∨
      ∃ st p, s.dock.stream = some st ∧ s.pane? st.pane = some p ∧ inRun p x := by
  obtain ⟨-, own, -⟩ := kept
  have fits : ∀ n p, s.pane? n = some p → RunFits p := fun n p hp => (own n p hp).2
  have drained : MemoryKept (cutDrain s) := cutDrain_wf s wf
  have port : MemoryKept (portDeparture s) := cutWrite_wf .tablet _ drained
  have layout : (portDeparture s).layout = s.layout := by simp
  rw [departPanes_cells (by rw [layout]; exact eight)] at changed
  by_cases aborted : Memory.read (abortFills (portDeparture s).tabletPreparing (portDeparture s)).mem.cells x =
      Memory.read (portDeparture s).mem.cells x
  · rw [aborted] at changed
    by_cases written : Memory.read (portDeparture s).mem.cells x = Memory.read (cutDrain s).mem.cells x
    · rw [written] at changed
      exact .inr (.inr (read_cutDrain wf fits changed))
    · obtain ⟨w, p, hw, hp, inside⟩ :=
        read_cutWrite drained (fun n p hp => fits n p (by simpa [State.pane?] using hp)) written
      exact .inr (.inl ⟨w, p, by simpa using hw, by simpa [State.pane?] using hp, inside⟩)
  · obtain ⟨e, rest, fills, gone, inside⟩ := read_abortFills port aborted
    rw [tabletPreparing_eq_fillAborted (by rw [layout]; exact eight)] at gone
    refine .inl ⟨e, rest, by simpa using fills, ?_, inside⟩
    simpa [fillAborted, State.pane?] using gone

/-! ### What the closing of panes brings with it -/

/-- From `s` to `t` no more has changed than the focus and the hold, what the Alert Controller and the monitor hold, the
ALERT LED and the rows to be written, and messages have been added for the vehicle unit. -/
def Ensued (s t : State) : Prop :=
  (∃ rows focus hold alerts light lines outbound, t = { s with
    mem := { s.mem with rowWrites := rows }
    router := { s.router with focus := focus, hold := hold }
    alerts := alerts, light := light
    lines := { s.lines with lines := lines }
    vehicle := { s.vehicle with outbound := outbound } }) ∧
  s.vehicle.outbound <+: t.vehicle.outbound ∧ ∀ n ≠ 3, t.lines.lines[n]? = s.lines.lines[n]?

theorem Ensued.refl (s : State) : Ensued s s :=
  ⟨⟨_, _, _, _, _, _, _, rfl⟩, List.prefix_rfl, fun _ _ => rfl⟩

theorem Ensued.trans {s t u : State} (h : Ensued s t) (h' : Ensued t u) : Ensued s u := by
  obtain ⟨⟨_, _, _, _, _, _, _, rfl⟩, told, lines⟩ := h
  obtain ⟨⟨_, _, _, _, _, _, _, rfl⟩, told', lines'⟩ := h'
  exact ⟨⟨_, _, _, _, _, _, _, rfl⟩, told.trans told', fun n hn => (lines' n hn).trans (lines n hn)⟩

theorem Ensued.dock {s t : State} (h : Ensued s t) : t.dock = s.dock := by
  obtain ⟨⟨_, _, _, _, _, _, _, rfl⟩, -⟩ := h
  rfl

theorem Ensued.link {s t : State} (h : Ensued s t) (down : s.dock.link ≠ .up) : t.dock.link ≠ .up := by
  rwa [h.dock]

theorem rowTold_ensued (f : RowField) (before after : RowText) (s : State) : Ensued s (rowTold f before after s) :=
  ⟨⟨_, _, _, _, _, _, _, rfl⟩, List.prefix_rfl, fun _ _ => rfl⟩

theorem focus_ensued (v : Option Nat) (hold : Bool) (s : State) :
    Ensued s { s with router := { s.router with focus := v, hold := hold } } :=
  ⟨⟨_, _, _, _, _, _, _, rfl⟩, List.prefix_rfl, fun _ _ => rfl⟩

theorem alerts_ensued (alerts : Alerts) (s : State) : Ensued s { s with alerts := alerts } :=
  ⟨⟨_, _, _, _, _, _, _, rfl⟩, List.prefix_rfl, fun _ _ => rfl⟩

theorem light_ensued (light : Light) (s : State) : Ensued s { s with light := light } :=
  ⟨⟨_, _, _, _, _, _, _, rfl⟩, List.prefix_rfl, fun _ _ => rfl⟩

theorem switched_ensued (on : Bool) (s : State) : Ensued s (switched 3 on s) :=
  ⟨⟨_, _, _, _, _, _, _, rfl⟩, List.prefix_rfl, fun _ hn => List.getElem?_set_ne (Ne.symm hn)⟩

section
variable {s : State} (down : s.dock.link ≠ .up)
include down

/-- While the link is down, what is handed to the tablet is discarded. -/
theorem handed_ensued (m : Master) (msg : Message) : Ensued s (handed m msg s) := by
  refine ⟨?_, (handed_grows m msg s).2, ?_⟩
  · cases m with
    | tablet =>
      have discarded : dockOutbound msg s = s.dock.outbound := if_neg fun h => down h.1
      rw [handed, discarded]
      exact ⟨_, _, _, _, _, _, _, rfl⟩
    | vehicle => exact ⟨_, _, _, _, _, _, _, rfl⟩
  · cases m <;> exact fun _ _ => rfl

theorem told_ensued (o : Option Owner) (x : Notice) : Ensued s (told o x s) := by
  rcases o with _ | _ | _ | _
  · exact .refl s
  · exact handed_ensued down .tablet (.notice x)
  · exact handed_ensued down .vehicle (.notice x)
  · exact .refl s

theorem focusMoved_ensued (v : Option Nat) : Ensued s (focusMoved v s) := by
  unfold focusMoved
  split
  · exact .refl s
  · have focus := focus_ensued v s.router.hold s
    have lost := focus.trans (told_ensued (focus.link down) (ownerAt s.router.focus s)
      (.focusLost (s.router.focus.getD 0)))
    have gained := lost.trans (told_ensued (lost.link down) (ownerAt v s) (.focusGained (v.getD 0)))
    exact gained.trans (rowTold_ensued _ _ _ _)

theorem paneLost_ensued (n : Nat) : Ensued s (paneLost n s) := by
  unfold paneLost
  split
  · exact focusMoved_ensued down _
  · exact .refl s

theorem holdOver_ensued (size : Nat) : Ensued s (holdOver size s) := by
  have ended := focus_ensued s.router.focus false s
  refine .trans ?_ (alerts_ensued _ _)
  refine .trans ?_ (rowTold_ensued _ _ _ _)
  refine .trans ?_ (light_ensued _ _)
  refine .trans ?_ (switched_ensued _ _)
  exact ended.trans (focusMoved_ensued (ended.link down) _)

theorem alertClosed_ensued (n : Nat) : Ensued s (alertClosed n s) := by
  have dropped (t : State) : Ensued t (savedDropped n t) := by
    unfold savedDropped
    split
    · exact alerts_ensued _ t
    · exact .refl t
  have off := alerts_ensued { s.alerts with
    stack := s.alerts.stack.filter (· != n), unreported := s.alerts.unreported.filter (· != n) } s
  unfold alertClosed
  refine .trans ?_ (dropped _)
  split
  · exact off
  · split
    · exact off.trans (holdOver_ensued (off.link down) _)
    · refine .trans ?_ (rowTold_ensued _ _ _ _)
      split
      · exact off.trans (focusMoved_ensued (off.link down) _)
      · exact off

theorem takeClosing_ensued (n : Nat) : Ensued s (takeClosing s n) := by
  have lost := paneLost_ensued down n
  rw [takeClosing_eq]
  exact lost.trans (alertClosed_ensued (lost.link down) n)

end

theorem foldl_takeClosing_ensued (ns : List Nat) {s : State} (down : s.dock.link ≠ .up) :
    Ensued s (ns.foldl takeClosing s) := by
  induction ns generalizing s with
  | nil => exact .refl s
  | cons n ns ih =>
    have first := takeClosing_ensued down n
    exact first.trans (ih (first.link down))

/-- A pane that is no alert, has no focus and is no saved focus closes without more. -/
theorem takeClosing_of_quiet {s : State} {n : Nat} (focus : s.router.focus ≠ some n) (stack : n ∉ s.alerts.stack)
    (unreported : n ∉ s.alerts.unreported) (saved : s.alerts.saved ≠ some n) : takeClosing s n = s := by
  have without {l : List Nat} (h : n ∉ l) : l.filter (· != n) = l :=
    List.filter_eq_self.2 fun k hk => bne_iff_ne.2 (ne_of_mem_of_not_mem hk h)
  simp [takeClosing_eq, paneLost, focus, alertClosed, stack, without stack, without unreported, savedDropped, saved]

theorem foldl_takeClosing_of_quiet {s : State} {ns : List Nat} (quiet : ∀ n ∈ ns, takeClosing s n = s) :
    ns.foldl takeClosing s = s := by
  induction ns with
  | nil => rfl
  | cons n ns ih => rw [List.foldl_cons, quiet n (by simp), ih fun k hk => quiet k (by simp [hk])]

/-! ### The Key Router and the Alert Controller (R107, R122) -/

/-- The focus fixed up, if a pane of the tablet has it (R88, R107). -/
def refocused (s : State) : State :=
  if ownerAt s.router.focus s = some .tablet then focusMoved (if s.router.hold then none else s.ring.head?) s else s

theorem routerGone_departed (cells : List Host.Cell) (used : Nat) (s : State) :
    routerGone .tablet { departed cells used s with router := s.router } = refocused (departed cells used s) := by
  rw [refocused, ← setFocus_eq_focusMoved]
  rfl

theorem refocused_ensued {s : State} (down : s.dock.link ≠ .up) : Ensued s (refocused s) := by
  unfold refocused
  split
  · exact focusMoved_ensued down _
  · exact .refl s

theorem alertDeparture_eq (s : State) : alertDeparture s =
    { s with alerts := { s.alerts with
        saved := if ownerAt s.alerts.saved s = some .tablet then none else s.alerts.saved } } := by
  rw [alertDeparture, dropSavedOf, ownerOf_eq]
  split <;> rfl

/-! ### The Line Block and the reports (R153, R156, R161) -/

/-- A link that has gone from UP or HOLD is shown as `linkGone` says. -/
theorem reportLink_eq_linkGone {before : LinkState} {s : State} (was : before = .up ∨ before = .hold)
    (gone : s.dock.link = .attaching ∨ s.dock.link = .absent) : reportLink before s = linkGone before s := by
  obtain rfl | rfl := was <;> obtain link | link := gone <;>
    simp [reportLink, link, linkLed, rewriteField_eq_rowTold, linkGone, setLinkLed, setLedTimer, ledToggleMs, rowTold]

end Sys2Proof.Proofs

/-! ## A departure as a whole (R161) -/

namespace Sys2Proof.Proofs

open Sys2Proof.Machine Sys2Proof.Safety

/-! ### The state that a departure makes (R161) -/

/-- The state once the Key Router and the Alert Controller have taken the departure. -/
def leftBehind (cells : List Host.Cell) (used : Nat) (s : State) : State :=
  alertDeparture (refocused (departed cells used s))

/-- The state once what has gone is told: the tablet's lines, TABLET STATE (departed), the TAB field, the LINK LED. -/
def goneTold (before : LinkState) (s : State) : State :=
  linkGone before (handed .vehicle (.notice (.tabletState false)) (releaseTabletLines s))

theorem departed_link (cells : List Host.Cell) (used : Nat) (s : State) :
    (departed cells used s).dock.link = .attaching ∨ (departed cells used s).dock.link = .absent := by
  simp only [departed]
  split <;> simp

theorem departed_down (cells : List Host.Cell) (used : Nat) (s : State) : (departed cells used s).dock.link ≠ .up := by
  obtain link | link := departed_link cells used s <;> simp [link]

theorem leftBehind_ensued (cells : List Host.Cell) (used : Nat) (s : State) :
    Ensued (departed cells used s) (leftBehind cells used s) := by
  rw [leftBehind, alertDeparture_eq]
  exact (refocused_ensued (departed_down cells used s)).trans (alerts_ensued _ _)

/-- A departure from UP or HOLD, block by block. -/
theorem departure_eq {s : State} (eight : s.layout.panes.length = 8)
    (was : s.dock.link = .up ∨ s.dock.link = .hold) : ∃ used,
    departure s = goneTold s.dock.link
      (s.tabletLive.foldl takeClosing (leftBehind (departPanes (portDeparture s)).mem.cells used s)) := by
  obtain ⟨used, panes⟩ := departPanes_portDeparture eight
  generalize (departPanes (portDeparture s)).mem.cells = cells at panes ⊢
  refine ⟨used, ?_⟩
  have closings := (leftBehind_ensued cells used s).trans
    (foldl_takeClosing_ensued s.tabletLive ((leftBehind_ensued cells used s).link (departed_down cells used s)))
  have dock : (handed .vehicle (.notice (.tabletState false)) (releaseTabletLines
      (s.tabletLive.foldl takeClosing (leftBehind cells used s)))).dock = (departed cells used s).dock := closings.dock
  rw [departure, panes, routerGone_departed, handVehicle_eq_handed]
  exact reportLink_eq_linkGone was (dock ▸ departed_link cells used s)

/-- The departure on each record of the pane table. -/
theorem departed_pane? (cells : List Host.Cell) (used : Nat) (s : State) (n : Nat) :
    (departed cells used s).pane? n = departedRecord (s.pane? n) := by
  change ((s.layout.panes.map departedRecord)[n]?).join = _
  rw [List.getElem?_map, State.pane?]
  cases s.layout.panes[n]? <;> rfl

/-- A pane that a departure closes. -/
theorem closedBy_iff {s : State} {n : Nat} :
    closedBy s n = true ↔ ∃ p, s.pane? n = some p ∧ p.owner = .tablet ∧ p.phase = .live := by
  simp [closedBy, Option.any_eq_true]

/-- A pane that a departure closes is the tablet's still, and CLOSING. -/
theorem departed_pane?_of_closedBy {s : State} {n : Nat} (closes : closedBy s n = true) (cells : List Host.Cell)
    (used : Nat) : ∃ q, (departed cells used s).pane? n = some q ∧ q.owner = .tablet ∧ q.phase = .closing := by
  obtain ⟨p, hp, owner, live⟩ := closedBy_iff.1 closes
  exact ⟨{ p with phase := .closing, staged := PendingPart.absent },
    by rw [departed_pane?, hp]; simp [departedRecord, owner, live], owner, rfl⟩

theorem eligible_of_ring_head {s : State} {n : Nat} (h : s.ring.head? = some n) : s.eligible n = true :=
  (List.mem_filter.1 (List.mem_of_mem_head? h)).2

theorem focusMoved_focus (v : Option Nat) (s : State) : (focusMoved v s).router.focus = v := by
  unfold focusMoved
  split
  · assumption
  · have told_router (o : Option Owner) (x : Notice) (t : State) : (told o x t).router = t.router := by
      rcases o with _ | _ | _ | _ <;> rfl
    simp [rowTold, told_router]

/-- A focus fixed up is on no pane of the tablet that closes (R88, R107). -/
theorem refocused_focus {s : State} {n : Nat} {q : Pane} (hq : s.pane? n = some q) (owner : q.owner = .tablet)
    (closing : q.phase = .closing) : (refocused s).router.focus ≠ some n := by
  unfold refocused
  split
  · rw [focusMoved_focus]
    split
    · simp
    · intro focus
      have eligible := eligible_of_ring_head focus
      simp [State.eligible, hq, closing] at eligible
  · next other =>
    intro focus
    simp [focus, ownerAt, hq, owner] at other

theorem refocused_frame (s : State) :
    (refocused s).layout = s.layout ∧ (refocused s).alerts = s.alerts ∧ (refocused s).lines = s.lines := by
  unfold refocused
  split
  · rw [← setFocus_eq_focusMoved]
    simp
  · exact ⟨rfl, rfl, rfl⟩

/-- While no pane that the departure closes is an alert, its closing brings nothing more with it. -/
theorem closings_of_quiet {s : State} (cells : List Host.Cell) (used : Nat)
    (quiet : ∀ n, closedBy s n = true → n ∉ s.alerts.stack ∧ n ∉ s.alerts.unreported) :
    s.tabletLive.foldl takeClosing (leftBehind cells used s) = leftBehind cells used s := by
  refine foldl_takeClosing_of_quiet fun n hn => ?_
  have closes : closedBy s n = true := (List.mem_filter.1 hn).2
  obtain ⟨q, hq, owner, closing⟩ := departed_pane?_of_closedBy closes cells used
  obtain ⟨stack, unreported⟩ := quiet n closes
  obtain ⟨layout, alerts, -⟩ := refocused_frame (departed cells used s)
  rw [leftBehind, alertDeparture_eq, alerts]
  refine takeClosing_of_quiet (refocused_focus hq owner closing) stack unreported ?_
  dsimp only
  split
  · simp
  · next other =>
    intro saved
    rw [ownerAt_congr layout, saved] at other
    simp [ownerAt, hq, owner] at other

/-- Then the departure makes the state that `departedState` gives. -/
theorem goneTold_leftBehind (cells : List Host.Cell) (used : Nat) (s : State) :
    goneTold s.dock.link (leftBehind cells used s) = departedState cells used s := by
  obtain ⟨layout, alerts, lines⟩ := refocused_frame (departed cells used s)
  have saved : (refocused (departed cells used s)).alerts.saved = s.alerts.saved := congrArg Alerts.saved alerts
  have general : (refocused (departed cells used s)).lines.lines = s.lines.lines := congrArg LineBlock.lines lines
  rw [leftBehind, alertDeparture_eq, saved, ownerAt_congr layout, goneTold, releaseTabletLines]
  dsimp only
  rw [general]
  rfl

/-! ### What the departure leaves (R161) -/

theorem linkGone_line (before : LinkState) (s : State) {n : Nat} (hn : n ≠ 4) :
    (linkGone before s).lines.lines[n]? = s.lines.lines[n]? := by
  unfold linkGone
  dsimp only
  split
  · split
    · rfl
    · exact List.getElem?_set_ne hn.symm
  · exact List.getElem?_set_ne hn.symm

/-- The tablet's lines are let go (R156). -/
theorem releaseTabletLines_line (s : State) {n : Nat} (hn : n ∈ [0, 1, 2, 7]) :
    (releaseTabletLines s).lines.lines[n]? = (s.lines.lines[n]?).map fun _ => { out := false, latch := false } := by
  simp only [List.mem_cons, List.not_mem_nil, or_false] at hn
  obtain rfl | rfl | rfl | rfl := hn <;>
    simp [releaseTabletLines, List.getElem?_set_self'] <;> rfl

/-- The vehicle unit's lines stay. -/
theorem releaseTabletLines_other_line (s : State) {n : Nat} (hn : n ∉ [0, 1, 2, 7]) :
    (releaseTabletLines s).lines.lines[n]? = s.lines.lines[n]? := by
  simp only [List.mem_cons, List.not_mem_nil, or_false, not_or] at hn
  obtain ⟨h0, h1, h2, h7⟩ := hn
  simp [releaseTabletLines, List.getElem?_set_ne, Ne.symm h0, Ne.symm h1, Ne.symm h2, Ne.symm h7]

/-- A message that found a place is the last one. -/
theorem getLast?_vehicleOutbound {msg : Message} {s : State} (present : s.vehicle.present = true)
    (room : (vehicleOutbound msg s).length < 16) : (vehicleOutbound msg s).getLast? = some msg := by
  unfold vehicleOutbound at room ⊢
  split
  · simp
  · next full =>
    rw [if_neg full] at room
    exact absurd ⟨present, room⟩ full

/-- What is told of the departure: rows to be written, the lines, and TABLET STATE (departed). -/
theorem goneTold_eq (before : LinkState) (s : State) : ∃ rows lines, goneTold before s =
    { s with
      mem := { s.mem with rowWrites := rows }
      lines := lines
      vehicle := { s.vehicle with outbound := vehicleOutbound (.notice (.tabletState false)) s } } ∧
    ∀ n ≠ 4, lines.lines[n]? = (releaseTabletLines s).lines.lines[n]? :=
  ⟨_, _, rfl, fun _ hn => linkGone_line before _ hn⟩

/-- A departure, block by block: the port, the Layout Controller and the Key Router make `departed`; what the Alert
Controller adds is `Ensued`; the reports are `goneTold`. -/
theorem departure_departedTo {s : State} (eight : s.layout.panes.length = 8)
    (was : s.dock.link = .up ∨ s.dock.link = .hold) : DepartedTo s (departure s) := by
  obtain ⟨used, made⟩ := departure_eq eight was
  have bytes := fun wf kept x => read_departed (s := s) eight wf kept (x := x)
  generalize (departPanes (portDeparture s)).mem.cells = cells at made bytes
  have behind := leftBehind_ensued cells used s
  have closings := behind.trans (foldl_takeClosing_ensued s.tabletLive (behind.link (departed_down cells used s)))
  have whole (quiet : ∀ n, closedBy s n = true → n ∉ s.alerts.stack ∧ n ∉ s.alerts.unreported) :
      departure s = departedState cells used s := by
    rw [made, closings_of_quiet cells used quiet, goneTold_leftBehind]
  generalize s.tabletLive.foldl takeClosing (leftBehind cells used s) = w at made closings
  obtain ⟨rows, lines, told, line⟩ := goneTold_eq s.dock.link w
  have outbox := (handed_grows .vehicle (.notice (.tabletState false)) w).2
  have last := getLast?_vehicleOutbound (msg := .notice (.tabletState false)) (s := w)
  rw [told] at made
  rw [made] at whole ⊢
  obtain ⟨⟨_, _, _, _, _, _, _, rfl⟩, added, same⟩ := closings
  refine ⟨whole, bytes, rfl, rfl, rfl, fun n p hp => ?_, fun n hn => ?_, rfl, rfl, fun n => ?_, rfl, rfl, rfl, rfl, rfl,
    rfl, fun n hn => ?_, fun n hn => ?_, rfl, added.trans outbox, last, rfl, rfl, rfl, rfl, rfl⟩
  · exact (departed_pane? cells used s n).trans (by rw [hp]; rfl)
  · exact (departed_pane? cells used s n).trans (by rw [hn]; rfl)
  · rw [← closedBy_iff]
    exact List.mem_filter.trans (by simp)
  · have general : n ≠ 4 ∧ n ≠ 3 := by
      constructor <;> rintro rfl <;> simp at hn
    obtain ⟨notLed, notAlert⟩ := general
    exact (line n notLed).trans ((releaseTabletLines_line _ hn).trans (congrArg _ (same n notAlert)))
  · have others : n ≠ 4 ∧ n ≠ 3 ∧ n ∉ [0, 1, 2, 7] := by
      simp only [List.mem_cons, List.not_mem_nil, or_false] at hn
      obtain rfl | rfl := hn <;> decide
    obtain ⟨notLed, notAlert, notTablet⟩ := others
    exact (line n notLed).trans ((releaseTabletLines_other_line _ notTablet).trans (same n notAlert))

end Sys2Proof.Proofs

/-! ## The units of RESTART (O57) -/

namespace Sys2Proof.Proofs

open Sys2Proof.Machine Sys2Proof.Safety

/-- The set is done when no unit comes next. -/
theorem nextUnit_eq_none_iff {units done : Nat} (hu : units < 8) (hd : done < 8) :
    nextUnit units done = none ↔ units &&& done = units := by
  have all : ∀ u d : Fin 8, nextUnit u d = none ↔ u.val &&& d.val = u.val := by decide
  exact all ⟨units, hu⟩ ⟨done, hd⟩

/-- From the tablet each unit is refused (R174). -/
theorem restart_tablet_refused {c : Instr} {units unit : Nat} {body : State → State} {s : State}
    (hc : c.request? = some (.tablet, .restart units))
    (he : exec c s = .next (restartUnit unit .tablet units body s)) : RefusedWith c 0x54 .notAllowed s := by
  intro m r request turn
  obtain ⟨rfl, rfl⟩ : .tablet = m ∧ .restart units = r := by simpa [hc] using request
  rw [he, restartUnit, if_pos ((canTake_iff_turn _ _ _).2 turn), popRequest_eq_taken]
  exact congrArg _ (reply_taken _ _ _ _ _)

/-- A set with no unit, or an undefined one, is refused (R174). -/
theorem restart_badSet_refused {c : Instr} {units unit : Nat} {body : State → State} {s : State}
    (bad : units = 0 ∨ 8 ≤ units) (hc : c.request? = some (.vehicle, .restart units))
    (he : exec c s = .next (restartUnit unit .vehicle units body s)) : RefusedWith c 0x54 .badValue s := by
  intro m r request turn
  obtain ⟨rfl, rfl⟩ : .vehicle = m ∧ .restart units = r := by simpa [hc] using request
  rw [he, restartUnit, if_pos ((canTake_iff_turn _ _ _).2 turn), popRequest_eq_taken]
  dsimp only
  rw [if_pos bad]
  exact congrArg _ (reply_taken _ _ _ _ _)

/-- A unit in its turn is restarted, and the reply follows the last one (R174). -/
theorem restartUnit_of_next {units unit : Nat} {s : State} (turn : Turn .vehicle (.restart units) s)
    (some_unit : units ≠ 0) (defined : units < 8) (next : nextUnit units s.vehicle.restartDone = some unit)
    (done : s.vehicle.restartDone ||| 2 ^ unit < 8) (body : State → State) :
    restartUnit unit .vehicle units body s = unitDone units (s.vehicle.restartDone ||| 2 ^ unit) (body s) := by
  rw [restartUnit, if_pos ((canTake_iff_turn _ _ _).2 turn)]
  dsimp only
  rw [if_neg (by omega), if_pos next, unitDone]
  by_cases last : units &&& (s.vehicle.restartDone ||| 2 ^ unit) = units
  · rw [if_pos last, if_pos ((nextUnit_eq_none_iff defined done).2 last), reply_eq_handed]
    rfl
  · rw [if_neg last, if_neg (mt (nextUnit_eq_none_iff defined done).1 last)]
    rfl

/-- Which unit comes next, and the units done with it, at each of the three places of the order (R174). -/
theorem nextUnit_in_order {units : Nat} (defined : units < 8) :
    (units % 2 = 1 → nextUnit units 0 = some 0) ∧
    (units / 2 % 2 = 1 → nextUnit units (units % 2) = some 1 ∧ units % 2 ||| 2 ^ 1 = units % 2 + 2) ∧
    (units / 4 = 1 → nextUnit units (units % 4) = some 2 ∧ units % 4 ||| 2 ^ 2 = units) := by
  have all : ∀ u : Fin 8,
      (u.val % 2 = 1 → nextUnit u 0 = some 0) ∧
      (u.val / 2 % 2 = 1 → nextUnit u (u.val % 2) = some 1 ∧ u.val % 2 ||| 2 ^ 1 = u.val % 2 + 2) ∧
      (u.val / 4 = 1 → nextUnit u (u.val % 4) = some 2 ∧ u.val % 4 ||| 2 ^ 2 = u.val) := by decide
  exact all ⟨units, defined⟩

/-- Settles O57: the refusals, and each unit by `restartUnit_of_next`: DOCK_LINK by `departure_departedTo`, SCANNER by
`flush_flushedTo`. -/
theorem restartTakesUnitsInOrder : Obligations.RestartTakesUnitsInOrder := by
  intro who units s
  refine ⟨?_, ?_, fun turn defined => ?_⟩
  · rintro rfl
    exact ⟨restart_tablet_refused rfl rfl, restart_tablet_refused rfl rfl, restart_tablet_refused rfl rfl⟩
  · rintro rfl bad
    exact ⟨restart_badSet_refused bad rfl rfl, restart_badSet_refused bad rfl rfl, restart_badSet_refused bad rfl rfl⟩
  · obtain ⟨first, second, third⟩ := nextUnit_in_order defined
    refine ⟨fun done member eight => ?_, fun done member => ?_, fun done member => ?_⟩
    · have unit := restartUnit_of_next turn (by omega) defined (by rw [done]; exact first member) (by rw [done]; decide)
      rw [done] at unit
      refine ⟨fun up => ⟨departure s, departure_departedTo eight up, ?_⟩, fun down => ?_⟩
      · exact congrArg _ ((unit restartDock).trans (congrArg _ (if_pos up)))
      · exact congrArg _ ((unit restartDock).trans (congrArg _ (if_neg down)))
    · obtain ⟨next, sum⟩ := second member
      have unit := restartUnit_of_next turn (by omega) defined (by rw [done]; exact next) (by rw [done, sum]; omega)
      rw [done, sum] at unit
      exact ⟨_, flush_flushedTo _, congrArg _ (unit restartScan)⟩
    · obtain ⟨next, sum⟩ := third member
      have unit := restartUnit_of_next turn (by omega) defined (by rw [done]; exact next)
        (by rw [done, sum]; exact defined)
      rw [done, sum] at unit
      exact congrArg _ (unit restartConvert)

end Sys2Proof.Proofs

/-! ## What every step keeps of the keys, the focus and the alert hold: one walk over the commands (R84 to R122) -/

namespace Sys2Proof.Proofs

open Sys2Proof.Machine Sys2Proof.Safety

/-! ### What the Key Router, the Alert Controller and the ALERT LED depend on -/

/-- The tablet is present: the Dock Link is UP or HOLD. -/
def Attached (d : DockPort) : Prop := d.link = .up ∨ d.link = .hold

theorem tabletPresent_iff (s : State) : s.tabletPresent = true ↔ Attached s.dock := by
  simp [State.tabletPresent, Attached]

/-- The two states agree in what the invariants of the keys, the focus and the hold speak of. -/
@[simp] abbrev SameKeys (s t : State) : Prop :=
  t.router.held = s.router.held ∧ t.router.tablet.queue = s.router.tablet.queue ∧
    t.router.vehicle.queue = s.router.vehicle.queue ∧ t.router.focus = s.router.focus ∧ t.router.hold = s.router.hold ∧
    t.alerts.stack = s.alerts.stack ∧ t.alerts.saved = s.alerts.saved ∧ t.light.hold = s.light.hold ∧
    t.lines.lines[3]? = s.lines.lines[3]? ∧ t.lines.lines.length = s.lines.lines.length ∧
    t.scanner.mode = s.scanner.mode ∧ t.scanner.positions = s.scanner.positions ∧ t.inputs.length = s.inputs.length ∧
    t.layout.panes = s.layout.panes ∧ (Attached t.dock ↔ Attached s.dock) ∧ t.vehicle.present = s.vehicle.present

theorem SameKeys.refl (s : State) : SameKeys s s := by simp

theorem SameKeys.trans {s t u : State} (h : SameKeys s t) (h' : SameKeys t u) : SameKeys s u := by
  simp only [SameKeys] at h h' ⊢
  simp [h, h']

theorem foldl_sameKeys {α : Type} {f : State → α → State} (h : ∀ s a, SameKeys s (f s a)) (l : List α) :
    ∀ s, SameKeys s (l.foldl f s) := by
  induction l with
  | nil => exact SameKeys.refl
  | cons a l ih => exact fun s => (h s a).trans (ih _)

/-! ### The lines other than the LINK LED -/

@[simp] theorem setLinkLed_keys (on : Bool) (s : State) : SameKeys s (setLinkLed on s) := by
  simp [setLinkLed]

@[simp] theorem setLedTimer_keys (timer : Option Nat) (s : State) : SameKeys s (setLedTimer timer s) := by
  simp [setLedTimer]

@[simp] theorem linkLed_keys (before after : LinkState) (s : State) : SameKeys s (linkLed before after s) := by
  unfold linkLed
  split
  · simp
  · simp
  · split <;> simp
  · split <;> simp

@[simp] theorem reportLink_keys (before : LinkState) (s : State) : SameKeys s (reportLink before s) := by
  unfold reportLink
  split <;> simp

@[simp] theorem releaseTabletLines_keys (s : State) : SameKeys s (releaseTabletLines s) := by
  simp [releaseTabletLines]

@[simp] theorem toggleLed_keys (s : State) : SameKeys s (toggleLed s) := by
  unfold toggleLed
  split <;> simp

/-! ### Operations of the two ports -/

@[simp] theorem hand_keys (m : Master) (msg : Message) (s : State) : SameKeys s (hand m msg s) := by
  simp [Attached]

@[simp] theorem handTablet_keys (msg : Message) (s : State) : SameKeys s (handTablet msg s) := hand_keys .tablet msg s

@[simp] theorem handVehicle_keys (msg : Message) (s : State) : SameKeys s (handVehicle msg s) :=
  hand_keys .vehicle msg s

@[simp] theorem reply_keys (m : Master) (r : Request) (result : Result) (values : List Byte) (s : State) :
    SameKeys s (reply m r result values s) := hand_keys _ _ _

@[simp] theorem popRequest_keys (m : Master) (s : State) : SameKeys s (s.popRequest m) := by
  cases m <;> simp [Attached]

@[simp] theorem enqueueTablet_keys (r : Request) (s : State) : SameKeys s (enqueueTablet r s) := by simp [Attached]

@[simp] theorem enqueueVehicle_keys (r : Request) (s : State) : SameKeys s (enqueueVehicle r s) := by simp

@[simp] theorem reportFlags_keys (m : Master) (s : State) : SameKeys s (reportFlags m s) := by simp [Attached]

@[simp] theorem writeDone_keys (st : Stream) (result : WriteResult) (missing : Nat) (s : State) :
    SameKeys s (writeDone st result missing s) := handTablet_keys _ s

@[simp] theorem finishStream_keys (s : State) : SameKeys s (finishStream s) := by simp [Attached]

@[simp] theorem openStream_keys (pane buffer : Nat) (rect : Rect) (s : State) :
    SameKeys s (openStream pane buffer rect s) := by simp [Attached]

@[simp] theorem streamPaneGone_keys (n : Nat) (s : State) : SameKeys s (streamPaneGone n s) := by simp [Attached]

@[simp] theorem landPacket_link (st : Stream) (offset : Nat) (data : List Byte) (d : DockPort) :
    (landPacket st offset data d).link = d.link := by
  unfold landPacket DockPort.setRx
  dsimp only
  split
  · rfl
  · cases d.nextBuffer <;> rfl

@[simp] theorem takeWriteData_keys (offset : Nat) (data : List Byte) (s : State) :
    SameKeys s (takeWriteData offset data s) := by
  unfold takeWriteData
  split
  · simp
  · split
    · simp
    · simp [Attached]

/-- The link goes from UP to HOLD (R162). -/
theorem enterHold_keys {s : State} (up : s.dock.link = .up) : SameKeys s (enterHold s) := by
  simp [enterHold, Attached, up]

@[simp] theorem silenceExpires_keys (s : State) : SameKeys s (silenceExpires s) := by
  unfold silenceExpires
  split
  · next up => exact enterHold_keys up.1
  · simp

/-- A BAY edge makes no tablet present, and none absent (R159). -/
@[simp] theorem bayEdge_keys (high : Bool) (s : State) : SameKeys s (bayEdge high s) := by
  unfold bayEdge
  split
  · next absent => simp [Attached, absent]
  · next attaching => simp [Attached, attaching]
  · next up => exact enterHold_keys up
  · simp

/-! ### Requests that change none of it -/

@[simp] theorem doRepeatSet_keys (m : Master) (enabled delay period : Nat) (s : State) :
    SameKeys s (doRepeatSet m enabled delay period s) := by
  unfold doRepeatSet
  dsimp only
  split
  · simp
  · split <;> cases m <;> simp

@[simp] theorem openGate_keys (m : Master) (s : State) : SameKeys s (openGate m s) := by
  cases m <;> simp [openGate]

@[simp] theorem doWriteBegin_keys (n buffer : Nat) (rect : Rect) (s : State) :
    SameKeys s (doWriteBegin n buffer rect s) := by
  unfold doWriteBegin
  dsimp only
  split <;> simp

@[simp] theorem doFillRect_keys (n buffer : Nat) (rect : Rect) (colour : Nat) (s : State) :
    SameKeys s (doFillRect n buffer rect colour s) := by
  unfold doFillRect
  dsimp only
  split <;> simp

@[simp] theorem doTextPut_keys (n buffer row column : Nat) (cells : List TextCell) (s : State) :
    SameKeys s (doTextPut n buffer row column cells s) := by
  unfold doTextPut
  dsimp only
  split <;> simp

@[simp] theorem doTextData_keys (n buffer row column : Nat) (attr : Byte) (codes : List Byte) (s : State) :
    SameKeys s (doTextData n buffer row column attr codes s) := by
  unfold doTextData
  split <;> simp

@[simp] theorem doTextClear_keys (m : Master) (n buffer : Nat) (s : State) :
    SameKeys s (doTextClear m n buffer s) := by
  unfold doTextClear
  split <;> simp

@[simp] theorem doInputAck_keys (m : Master) (n : Nat) (s : State) : SameKeys s (doInputAck m n s) := by
  unfold doInputAck
  split <;> simp

@[simp] theorem raiseFlags_keys (n : Nat) (s : State) : SameKeys s (raiseFlags n s) := by
  unfold raiseFlags
  split
  · dsimp only
    split <;> simp
  · simp

@[simp] theorem doInputMode_keys (m : Master) (n mode sense time : Nat) (s : State) :
    SameKeys s (doInputMode m n mode sense time s) := by
  unfold doInputMode
  dsimp only
  split <;> simp

@[simp] theorem doQueryInputs_keys (m : Master) (input : Option Nat) (s : State) :
    SameKeys s (doQueryInputs m input s) := by
  unfold doQueryInputs
  dsimp only
  split
  · simp
  · split <;> simp

/-- LINE SET does not reach the ALERT LED, which is LOCAL's line (R152, R154). -/
@[simp] theorem doLineSet_keys (m : Master) (n direction latch : Nat) (s : State) :
    SameKeys s (doLineSet m n direction latch s) := by
  unfold doLineSet
  dsimp only
  split_ifs with bad part other
  · simp
  · simp
  · simp
  · have general : n ≠ 3 := fun h => part (by simp [h, lineOwner])
    simp [general]

@[simp] theorem doQueryLight_keys (m : Master) (page : Option Nat) (s : State) :
    SameKeys s (doQueryLight m page s) := by
  unfold doQueryLight
  dsimp only
  split
  · simp
  · split <;> simp

@[simp] theorem doDarkCab_keys (m : Master) (setting : Nat) (s : State) : SameKeys s (doDarkCab m setting s) := by
  unfold doDarkCab
  cases m with
  | tablet => simp
  | vehicle =>
    dsimp only
    split <;> simp

@[simp] theorem doParkDelay_keys (m : Master) (delay : Nat) (s : State) : SameKeys s (doParkDelay m delay s) := by
  cases m <;> simp [doParkDelay]

@[simp] theorem doScanSet_keys (m : Master) (press release : Nat) (s : State) :
    SameKeys s (doScanSet m press release s) := by
  cases m <;> simp [doScanSet]

@[simp] theorem doReorder_keys (m : Master) (r : Request) (n : Nat) (reorder : List Nat → List Nat) (s : State) :
    SameKeys s (doReorder m r n reorder s) := by
  unfold doReorder
  split
  · simp
  · split_ifs <;> simp

/-! ### Events that change none of it -/

@[simp] theorem sendExpires_keys (s : State) : SameKeys s (sendExpires s) := by
  unfold sendExpires
  split
  · simp [Attached]
  · simp

@[simp] theorem toRun_keys (s : State) : SameKeys s (toRun s) := by simp [toRun]

@[simp] theorem beginCountdown_keys (length : Nat) (s : State) : SameKeys s (beginCountdown length s) := by
  simp [beginCountdown]

@[simp] theorem restartCountdown_keys (s : State) : SameKeys s (restartCountdown s) := by simp

@[simp] theorem startScan_keys (s : State) : SameKeys s (startScan s) := by simp [startScan]

@[simp] theorem scheduleScan_keys (s : State) : SameKeys s (scheduleScan s) := by
  unfold scheduleScan
  split <;> simp

@[simp] theorem restartConvert_keys (s : State) : SameKeys s (restartConvert s) := by simp [restartConvert, startScan]

@[simp] theorem convertedLight_hold (ambient supply panelTemp : Nat) (l : Light) :
    (convertedLight ambient supply panelTemp l).hold = l.hold := by
  unfold convertedLight tempAfter supplyAfter
  dsimp only
  split_ifs <;> rfl

@[simp] theorem reportSupply_keys (before : Light) (supply panelTemp : Nat) (s : State) :
    SameKeys s (reportSupply before supply panelTemp s) := by
  have hold : (reportSupply before supply panelTemp s).light.hold = s.light.hold := by
    unfold reportSupply
    dsimp only
    split <;> simp
  simp [hold, Attached]

@[simp] theorem scanCompletes_keys (ambient supply panelTemp : Nat) (s : State) :
    SameKeys s (scanCompletes ambient supply panelTemp s) := by
  unfold scanCompletes
  split
  · simp [backlightUpdate]
  · simp

@[simp] theorem setInput_keys (n : Nat) (i : DiscreteInput) (s : State) : SameKeys s (s.setInput n i) := by
  simp

@[simp] theorem millisecond_keys (s : State) : SameKeys s (millisecond s) := by
  have inputs : (millisecond s).inputs.length = s.inputs.length := by simp [millisecond]
  simp [inputs]

@[simp] theorem edgeForFlag_keys (n : Nat) (level : Bool) (interval : Nat) (s : State) (m : Master) :
    SameKeys s (edgeForFlag n level interval s m) := by
  unfold edgeForFlag
  split
  · dsimp only
    split <;> simp
  · simp

/-! ### Work on the memory -/

@[simp] theorem startWrite_keys (m : Master) (p : Pane) (job : WriteJob) (s : State) :
    SameKeys s (startWrite m p job s) := by simp

@[simp] theorem advanceWork_keys (upTo : Nat) (w : Writer) (s : State) : SameKeys s (advanceWork upTo w s) := by
  simp [Attached]

theorem drainDone_keys (s : State) : SameKeys s (drainDone s) := by
  unfold drainDone
  split
  · next name _ => cases name <;> simp [Attached, DockPort.setRx]
  · simp

theorem writeDoneOf_keys (source : WriteSource) (s : State) : SameKeys s (writeDoneOf source s) := by
  cases source <;> simp [writeDoneOf]

end Sys2Proof.Proofs

/-! ## The walk over the commands, for any property that the Key Router's and the Alert Controller's operations keep -/

namespace Sys2Proof.Proofs

open Sys2Proof.Machine Sys2Proof.Safety

/-- A property of the keys, the focus and the hold that each operation which touches one of them keeps. The frame boundary is
not among them: what it keeps depends on the orders. -/
structure KeyInvariant (P : State → Prop) : Prop where
  same : ∀ {s t}, P s → SameKeys s t → P t
  report : ∀ {s} m, P s → P (tryReport m s)
  repeats : ∀ {s}, P s → P (repeatExpires s)
  scan : ∀ {s} raw, P s → P (takeScan raw s)
  capture : ∀ {s} raw, P s → P (takeCapture raw s)
  park : ∀ {s}, P s → P (enterParked s)
  leave : ∀ {s}, P s → P (leaveParked s)
  rescan : ∀ {s}, P s → P (restartScan s)
  focus : ∀ {s} m n, P s → P (doFocus m n s)
  claim : ∀ {s m ops n run}, P s → s.claimCheck m ops = .ok (n, run) → P (takeClaim n (claimedPane m ops run) s)
  stage : ∀ {s n p part}, P s → s.pane? n = some p → (p.cls = .alert → part.visible = p.staged.visible) →
    P (stage n p part s)
  ready : ∀ {s n p}, P s → s.pane? n = some p → p.phase = .preparing → P (s.setPane n (some { p with phase := .ready }))
  release : ∀ {s} m n, P s → P (doRelease m n s)
  attach : ∀ {s d}, P s → d.link = .up → P { s with dock := d }
  depart : ∀ {s}, P s → P (departure s)
  absent : ∀ {s}, P s → P (vehicleAbsence s)
  back : ∀ {s}, P s → P (vehicleReturn s)
  reset : ∀ ids1 ids0 pins scanOut converting link cells s, P (resetState ids1 ids0 pins scanOut converting link cells s)

namespace KeyInvariant

variable {P : State → Prop} (inv : KeyInvariant P)
include inv

/-! ### Requests -/

theorem reply {m : Master} {r : Request} {result : Result} {values : List Byte} {s : State} (h : P s) :
    P (Machine.reply m r result values s) := inv.same h (by simp)

theorem doKeyAck (m : Master) {s : State} (h : P s) : P (Machine.doKeyAck m s) := by
  have answered : P (Machine.reply m .keyAck .ok [] s) := inv.reply h
  unfold Machine.doKeyAck
  dsimp only
  split
  · exact inv.report m (inv.same answered (openGate_keys m _))
  · exact answered

theorem doClaim (m : Master) (ops : ClaimOps) {s : State} (h : P s) : P (Machine.doClaim m ops s) := by
  unfold Machine.doClaim
  cases check : s.claimCheck m ops with
  | error r => exact inv.reply h
  | ok found => exact inv.reply (inv.claim h check)

theorem doMove (m : Master) (n : Nat) (w : Window) {s : State} (h : P s) : P (Machine.doMove m n w s) := by
  unfold Machine.doMove
  cases check : s.paneCheck m n with
  | error r => exact inv.reply h
  | ok p =>
    dsimp only
    split
    · exact inv.reply h
    · exact inv.reply (inv.stage h (owned_of_paneCheck_ok check).1 fun _ => rfl)

theorem doScroll (m : Master) (n x y : Nat) {s : State} (h : P s) : P (Machine.doScroll m n x y s) := by
  unfold Machine.doScroll
  cases check : s.paneCheck m n with
  | error r => exact inv.reply h
  | ok p => exact inv.reply (inv.stage h (owned_of_paneCheck_ok check).1 fun _ => rfl)

theorem doFlip (m : Master) (n : Nat) {s : State} (h : P s) : P (Machine.doFlip m n s) := by
  unfold Machine.doFlip
  cases check : s.paneCheck m n with
  | error r => exact inv.reply h
  | ok p =>
    dsimp only
    split_ifs
    · exact inv.reply h
    · exact inv.reply h
    · exact inv.reply (inv.stage h (owned_of_paneCheck_ok check).1 fun _ => rfl)

/-- SHOW and HIDE refuse an ALERT pane. -/
theorem doVisible (m : Master) (r : Request) (n : Nat) (shown : Bool) {s : State} (h : P s) :
    P (Machine.doVisible m r n shown s) := by
  unfold Machine.doVisible
  cases check : s.visibilityCheck m n with
  | error r => exact inv.reply h
  | ok p =>
    dsimp only
    split
    · exact inv.reply h
    · next normal => exact inv.reply (inv.stage h (pane?_of_visibilityCheck_ok check) fun alert => absurd alert normal)

theorem wakeUp {s : State} (h : P s) : P (Machine.wakeUp s) := by
  unfold Machine.wakeUp
  split <;> exact inv.leave (inv.same h (by simp))

theorem doWake (m : Master) {s : State} (h : P s) : P (Machine.doWake m s) := by
  unfold Machine.doWake
  cases m with
  | tablet => exact inv.reply h
  | vehicle =>
    have answered : P (Machine.reply .vehicle .wake .ok [] s) := inv.reply h
    dsimp only
    split
    · exact answered
    · exact inv.same answered (restartCountdown_keys _)
    · exact inv.wakeUp answered

/-! ### The two links -/

theorem routerResume {s : State} (h : P s) : P (Machine.routerResume s) :=
  inv.report .tablet (inv.same h (by simp))

theorem routerLinkStart {s : State} (h : P s) : P (Machine.routerLinkStart s) :=
  inv.report .tablet (inv.same h (by simp))

theorem resumeLink {s : State} (h : P s) : P (Machine.resumeLink s) :=
  inv.same (inv.routerResume (inv.attach h rfl)) (reportLink_keys _ _)

theorem linkStart (grace : Nat) {s : State} (h : P s) : P (Machine.linkStart grace s) := by
  have flags (d : DockPort) (up : d.link = .up) : P (reportFlags .tablet (Machine.routerLinkStart { s with dock := d })) :=
    inv.same (inv.routerLinkStart (inv.attach h up)) (reportFlags_keys .tablet _)
  exact inv.same (inv.same (flags _ rfl) (handVehicle_keys _ _)) (reportLink_keys _ _)

theorem linkTakes {hello : Bool} {s t : State} (h : P s) (takes : Machine.linkTakes hello s = some t) : P t := by
  unfold Machine.linkTakes at takes
  split at takes
  · cases takes
  · split at takes <;> cases takes
    exact h
  · cases takes
    exact inv.same h (by simp [Attached])
  · split at takes <;> cases takes
    exact inv.resumeLink h

theorem takeIntake (hello : Bool) (intake : Intake) {s : State} (h : P s) : P (Machine.takeIntake hello intake s) := by
  unfold Machine.takeIntake
  cases takes : Machine.linkTakes hello s with
  | none => exact h
  | some t =>
    have taken : P t := inv.linkTakes h takes
    cases intake with
    | keepalive => exact taken
    | writeData offset data => exact inv.same taken (takeWriteData_keys offset data t)
    | request r => exact inv.same taken (enqueueTablet_keys r t)

theorem helloArrives (grace : Nat) {s : State} (h : P s) : P (Machine.helloArrives grace s) := by
  unfold Machine.helloArrives
  split
  · exact inv.linkStart grace h
  · split
    · exact inv.linkStart grace (inv.depart h)
    · exact h
  · exact h
  · exact h

theorem helloTaken (grace : Nat) {s : State} (h : P s) : P (Machine.helloTaken grace s) := by
  unfold Machine.helloTaken
  split
  · exact inv.linkStart grace (inv.depart h)
  · exact h

theorem takePacket (bytes : List Byte) {s : State} (h : P s) : P (Machine.takePacket bytes s) := by
  unfold Machine.takePacket
  split
  · exact h
  · split
    · split
      · exact inv.takeIntake _ _ h
      · exact inv.helloArrives _ h
    · exact inv.takeIntake _ _ h

theorem graceExpires {s : State} (h : P s) : P (Machine.graceExpires s) := by
  unfold Machine.graceExpires
  split
  · exact inv.depart h
  · exact h

theorem restartDock {s : State} (h : P s) : P (Machine.restartDock s) := by
  unfold Machine.restartDock
  split
  · exact inv.depart h
  · exact h

theorem dockPacketLeaves {s : State} (h : P s) : P (Machine.dockPacketLeaves s) := by
  unfold Machine.dockPacketLeaves
  split
  · exact inv.report .tablet (inv.same h (by simp [Attached]))
  · exact h

theorem vehicleFrameLeaves {s : State} (h : P s) : P (Machine.vehicleFrameLeaves s) := by
  unfold Machine.vehicleFrameLeaves
  split
  · exact inv.report .vehicle (inv.same h (by simp))
  · exact h

theorem vehicleHeard {s : State} (h : P s) : P (Machine.vehicleHeard s) := by
  have heard : P { s with vehicle := { s.vehicle with silence := some (s.now + vehicleSilenceMs) } } :=
    inv.same h (by simp)
  unfold Machine.vehicleHeard
  dsimp only
  split
  · exact heard
  · exact inv.back heard

theorem takeFrame (f : CanFrame) {s : State} (h : P s) : P (Machine.takeFrame f s) := by
  unfold Machine.takeFrame
  split_ifs
  · exact h
  · exact inv.same (inv.vehicleHeard h) (enqueueVehicle_keys _ _)
  · exact inv.same (inv.vehicleHeard h) (enqueueVehicle_keys _ _)
  · exact inv.vehicleHeard h
  · exact h

theorem vehicleSilenceExpires {s : State} (h : P s) : P (Machine.vehicleSilenceExpires s) := by
  unfold Machine.vehicleSilenceExpires
  split
  · exact inv.absent h
  · exact h

theorem restartUnit (unit : Nat) (m : Master) (units : Nat) {body : State → State} (hb : ∀ {s}, P s → P (body s))
    {s : State} (h : P s) : P (Machine.restartUnit unit m units body s) := by
  unfold Machine.restartUnit
  split
  · cases m with
    | tablet => exact inv.reply (inv.same h (popRequest_keys .tablet s))
    | vehicle =>
      dsimp only
      split
      · exact inv.reply (inv.same h (popRequest_keys .vehicle s))
      · split
        · split <;> exact inv.same (hb h) (by simp)
        · exact h
  · exact h

/-! ### The keyboard, the inputs and the park -/

theorem takeWakeSample (senses : BitVec 16) {s : State} (h : P s) : P (Machine.takeWakeSample senses s) := by
  unfold Machine.takeWakeSample
  split_ifs
  · exact h
  · exact inv.same h (by simp)
  · have latched : P { s with scanner := { s.scanner with wakeLatch := true } } := inv.same h (by simp)
    unfold Machine.keyWake
    split
    · exact inv.wakeUp latched
    · exact latched
  · exact h

theorem ignitionEdge (on : Bool) {s : State} (h : P s) : P (Machine.ignitionEdge on s) := by
  unfold Machine.ignitionEdge
  split
  · split
    · exact h
    · exact inv.same h (toRun_keys s)
    · exact inv.leave (inv.same h (toRun_keys s))
  · split
    · split
      · exact inv.park h
      · exact inv.same h (beginCountdown_keys _ s)
    · exact h
    · exact h

theorem handEdge (n : Nat) (level : Bool) {s : State} (h : P s) : P (Machine.handEdge n level s) := by
  unfold Machine.handEdge
  split_ifs
  · exact inv.same h (bayEdge_keys level s)
  · exact inv.ignitionEdge level h
  · exact h

theorem qualifiedEdge (n : Nat) (level : Bool) (i : DiscreteInput) {s : State} (h : P s) :
    P (Machine.qualifiedEdge n level i s) := by
  unfold Machine.qualifiedEdge
  have handed := inv.handEdge n level (inv.same h (setInput_keys n
    { i with qualified := level, latest := level, changeCount := 0, interval := 0 } s))
  exact inv.same handed (foldl_sameKeys (fun t m => edgeForFlag_keys n level i.interval t m) _ _)

theorem sampleInput (sample : Bool × Nat) {s : State} (h : P s) : P (Machine.sampleInput s sample) := by
  unfold Machine.sampleInput
  split
  · split_ifs
    · exact inv.same h (setInput_keys _ _ s)
    · exact inv.qualifiedEdge _ _ _ h
    · exact inv.same h (setInput_keys _ _ s)
  · exact h

theorem takeSample (pins : InputLevels) {s : State} (h : P s) : P (Machine.takeSample pins s) := by
  unfold Machine.takeSample
  generalize (pinList pins).zipIdx = samples
  have passed : P (millisecond s) := inv.same h (millisecond_keys s)
  generalize millisecond s = t at passed
  induction samples generalizing t with
  | nil => exact passed
  | cons sample samples ih => exact ih _ (inv.sampleInput sample passed)

theorem countdownExpires {s : State} (h : P s) : P (Machine.countdownExpires s) := by
  unfold Machine.countdownExpires
  split
  · exact inv.park h
  · exact h

/-! ### Work on the memory -/

theorem fillDone {s : State} (h : P s) : P (Machine.fillDone s) := by
  unfold Machine.fillDone
  split
  · next e rest _ =>
    cases hp : s.pane? e.pane with
    | none => exact inv.same h (by simp)
    | some p =>
      dsimp only
      split
      · next preparing => exact inv.same (inv.ready h hp preparing) (by simp)
      · exact inv.same h (by simp)
  · exact h

theorem finishWork (w : Writer) {s : State} (h : P s) : P (Machine.finishWork w s) := by
  cases w with
  | fill => exact inv.fillDone h
  | drain => exact inv.same h (drainDone_keys s)
  | text source => exact inv.same h (writeDoneOf_keys source s)

theorem completeWork {w : Writer} {s t : State} (h : P s) (next : Machine.completeWork w s = .next t) : P t := by
  obtain ⟨-, rfl⟩ | ⟨-, cells, -, rfl⟩ := completeWork_next next
  · exact h
  · exact inv.finishWork w (inv.same h (by simp))

theorem grantWrite (w : Writer) {s : State} (h : P s) : P (Machine.grantWrite w s) := by
  unfold Machine.grantWrite
  dsimp only
  split
  · have written (upTo : Nat) (m : SurfaceMemory) : P (advanceWork upTo w { s with mem := m }) :=
      inv.same h ((SameKeys.refl s).trans (advanceWork_keys upTo w { s with mem := m }))
    split
    · exact written _ _
    · exact inv.finishWork w (written _ _)
  · exact h

theorem idle {s : State} (h : P s) : P (Machine.idle s) := by
  rw [idle_eq]
  split
  · cases s.nextWriter with
    | none => exact inv.same h (by simp)
    | some w => exact inv.same (inv.grantWrite w h) (by simp)
  · exact h

/-! ### Every command -/

theorem taking {m : Master} {r : Request} {body : State → State} (hb : ∀ {s}, P s → P (body s)) {s t : State} (h : P s)
    (next : Machine.taking m r body s = .next t) : P t := by
  unfold Machine.taking at next
  split at next <;> cases next
  · exact hb (inv.same h (popRequest_keys m s))
  · exact h

/-- Each command but the frame boundary keeps the property. -/
theorem exec {c : Instr} (inFrame : c ≠ .frameBoundary) {s t : State} (h : P s) (next : Machine.exec c s = .next t) :
    P t := by
  cases c
  case frameBoundary => exact absurd rfl inFrame
  case fullReset => cases next; exact inv.reset _ _ _ _ _ _ _ _
  case resetRelease => cases next; exact inv.reset _ _ _ _ _ _ _ _
  case hello =>
    change execHello _ s = _ at next
    unfold execHello at next
    split at next
    · exact inv.taking (inv.helloTaken _) h next
    · exact whenRunning_holds (inv.helloArrives _) h next
  case claim => exact inv.taking (inv.doClaim _ _) h next
  case release => exact inv.taking (inv.release _ _) h next
  case move => exact inv.taking (inv.doMove _ _ _) h next
  case scroll => exact inv.taking (inv.doScroll _ _ _ _) h next
  case showPane => exact inv.taking (inv.doVisible _ _ _ _) h next
  case hidePane => exact inv.taking (inv.doVisible _ _ _ _) h next
  case flip => exact inv.taking (inv.doFlip _ _) h next
  case focus => exact inv.taking (inv.focus _ _) h next
  case keyAck => exact inv.taking (inv.doKeyAck _) h next
  case wake => exact inv.taking (inv.doWake _) h next
  case restartDockLink => cases next; exact inv.restartUnit 0 _ _ inv.restartDock h
  case restartScanner => cases next; exact inv.restartUnit 1 _ _ inv.rescan h
  case restartConverter => cases next; exact inv.restartUnit 2 _ _ (fun h => inv.same h (restartConvert_keys _)) h
  case dockLinkPacketReceived => exact whenRunning_holds (inv.takePacket _) h next
  case keepalive | writeData => exact whenRunning_holds (inv.takeIntake _ _) h next
  case graceTimerExpiry => exact whenRunning_holds inv.graceExpires h next
  case dockPacketSent => exact whenRunning_holds inv.dockPacketLeaves h next
  case vehicleFrameReceived => exact whenRunning_holds (inv.takeFrame _) h next
  case vehicleSilenceExpiry => exact whenRunning_holds inv.vehicleSilenceExpires h next
  case vehicleFrameSent => exact whenRunning_holds inv.vehicleFrameLeaves h next
  case scanEvent => exact whenRunning_holds (inv.scan _) h next
  case captureScan => exact whenRunning_holds (inv.capture _) h next
  case wakeSample => exact whenRunning_holds (inv.takeWakeSample _) h next
  case repeatExpiry => exact whenRunning_holds inv.repeats h next
  case inputSample => exact whenRunning_holds (inv.takeSample _) h next
  case countdownExpiry => exact whenRunning_holds inv.countdownExpires h next
  case fillCompletion | drainComplete | memoryWritesComplete => exact inv.completeWork h next
  case refusedPacket | raise | lower | repeatSet | writeBegin | fillRect | textPut | textDataFrame | textClear | inputAck |
      inputMode | queryInputs | lineSet | queryLines | queryLight | darkCab | parkDelay | scanSet =>
    exact inv.taking (fun {u} h => inv.same h (by simp)) h next
  case sendTimerExpiry | silenceTimerExpiry | converterScanStart | scanCompletion | linkLedToggle =>
    exact whenRunning_holds (fun h => inv.same h (by simp)) h next

/-- Each step keeps the property, if the frame boundary does. -/
theorem step {s t : State} (h : P s) (boundary : P (takeBoundary { s with pending := s.pending.tail }))
    (next : Machine.step s = .next t) : P t := by
  unfold Machine.step at next
  split at next
  · cases next
    exact inv.idle h
  · next c rest pending =>
    have waiting : P { s with pending := rest } := inv.same h (SameKeys.refl s)
    by_cases inFrame : c = .frameBoundary
    · subst inFrame
      rw [pending] at boundary
      exact whenRunning_holds (fun _ => boundary) waiting next
    · exact inv.exec inFrame waiting next

end KeyInvariant

end Sys2Proof.Proofs

/-! ## The Key Router's operations on keys, once each (R87, R90 to R97) -/

namespace Sys2Proof.Proofs

open Sys2Proof.Machine Sys2Proof.Safety

/-- What a key of which the table has an entry to spare does by its role (R87, R93, R94, R116, R135). -/
def roleActs (code : Nat) (s : State) : State :=
  match keyRole code with
  | .ignored => s
  | .focusNext => focusNext (keyHeld code (some .part) s)
  | .brightDown => brightnessStep (-1) (keyHeld code (some .part) s)
  | .brightUp => brightnessStep 1 (keyHeld code (some .part) s)
  | .alertAck => acknowledgePress (keyHeld code (some .part) s)
  | .routed => routedDown code s

@[simp] theorem quieted_router (code : Nat) (s : State) :
    (quieted code s).router.held = s.router.held ∧ (quieted code s).router.tablet = s.router.tablet ∧
    (quieted code s).router.vehicle = s.router.vehicle ∧ (quieted code s).router.focus = s.router.focus ∧
    (quieted code s).router.hold = s.router.hold := by
  unfold quieted
  split <;> simp

@[simp] theorem quieted_frame (code : Nat) (s : State) :
    (quieted code s).layout = s.layout ∧ (quieted code s).mem = s.mem ∧ (quieted code s).scanner = s.scanner ∧
    (quieted code s).alerts = s.alerts ∧ (quieted code s).light = s.light ∧ (quieted code s).inputs = s.inputs ∧
    (quieted code s).lines = s.lines ∧ (quieted code s).dock = s.dock ∧ (quieted code s).vehicle = s.vehicle ∧
    (quieted code s).now = s.now := by
  unfold quieted
  split <;> simp

@[simp] theorem quieted_keys (code : Nat) (s : State) : SameKeys s (quieted code s) := by simp

/-- The DOWN of a key: the repeat of another stops; then, below 10 entries, its role (R91 to R94). -/
theorem keyDown_eq (code : Nat) (s : State) :
    keyDown code s = if 10 ≤ s.router.held.length then quieted code s else roleActs code (quieted code s) := by
  rw [← (quieted_router code s).1]
  unfold keyDown
  cases repeatKey : s.router.repeatKey with
  | none =>
    have silent : quieted code s = s := by simp [quieted, repeatKey]
    rw [silent]
    rfl
  | some r =>
    by_cases own : r.code = code
    · have silent : quieted code s = s := by simp [quieted, repeatKey, own]
      simp only [own, ne_eq, not_true_eq_false, if_false, silent]
      rfl
    · have stopped : quieted code s = stopRepeat s := by simp [quieted, repeatKey, own, stopRepeat]
      simp only [own, ne_eq, not_false_eq_true, if_true, stopped]
      rfl

theorem ownerMaster_eq_some_iff (o : Owner) (m : Master) : ownerMaster o = some m ↔ o = masterOwner m := by
  cases o <;> cases m <;> simp [ownerMaster, masterOwner]

theorem bind_ownerMaster_eq_some_iff (o : Option Owner) (m : Master) :
    o.bind ownerMaster = some m ↔ o = some (masterOwner m) := by
  cases o <;> simp [ownerMaster_eq_some_iff]

theorem bind_ownerMaster_eq_none_iff (o : Option Owner) :
    o.bind ownerMaster = none ↔ ∀ m, o ≠ some (masterOwner m) := by
  simp only [Option.eq_none_iff_forall_ne_some, ne_eq, bind_ownerMaster_eq_some_iff]

/-- A ROUTED DOWN goes to the owner of the focused pane, whose queue must hold fewer than 22 events (R94). -/
theorem routeTarget_eq_some_iff (s : State) (m : Master) :
    s.routeTarget = some m ↔ ownerAt s.router.focus s = some (masterOwner m) ∧ (channel m s).queue.length < 22 := by
  rw [← bind_ownerMaster_eq_some_iff, State.routeTarget, ownerOf_eq]
  cases (ownerAt s.router.focus s).bind ownerMaster with
  | none => simp
  | some k =>
    simp only [channel_eq, downThreshold]
    split
    · next full =>
      simp only [reduceCtorEq, Option.some.injEq, false_iff, not_and, not_lt]
      rintro rfl
      exact full
    · next room =>
      simp only [Option.some.injEq, iff_self_and]
      rintro rfl
      exact not_le.1 room

/-- The repeat starts with a key that is placed, if it is enabled for its target (R101). -/
def repeatArmed (m : Master) (code : Nat) (s : State) : State :=
  if (channel m s).enabled then
    { s with router := { s.router with
        repeatKey := some { code := code, target := m, next := s.now + (channel m s).delay } } }
  else s

@[simp] theorem repeatArmed_router (m : Master) (code : Nat) (s : State) :
    (repeatArmed m code s).router.held = s.router.held ∧ (repeatArmed m code s).router.tablet = s.router.tablet ∧
    (repeatArmed m code s).router.vehicle = s.router.vehicle := by
  unfold repeatArmed
  split <;> simp

theorem placeEvent_eq (m : Master) (code : Nat) (kind : KeyKind) (s : State) :
    placeEvent m code kind s = tryReport m (entered m code kind s) := by
  rw [placeEvent, appendEvent_eq_entered]

theorem routedDown_of_none {s : State} (h : s.routeTarget = none) (code : Nat) :
    routedDown code s = keyHeld code none s := by
  rw [routedDown, h]
  rfl

theorem routedDown_of_some {s : State} {m : Master} (h : s.routeTarget = some m) (code : Nat) :
    routedDown code s =
      repeatArmed m code (keyHeld code (some (masterOwner m)) (tryReport m (entered m code .down s))) := by
  rw [routedDown, h, ← placeEvent_eq]
  dsimp only
  rw [channel_eq]
  rfl

/-- The repeat of a key stops (R102). -/
def repeatDropped (code : Nat) (s : State) : State :=
  if s.router.repeatKey.any (·.code == code) then stopRepeat s else s

@[simp] theorem repeatDropped_router (code : Nat) (s : State) :
    (repeatDropped code s).router.held = s.router.held ∧ (repeatDropped code s).router.tablet = s.router.tablet ∧
    (repeatDropped code s).router.vehicle = s.router.vehicle := by
  unfold repeatDropped stopRepeat
  split <;> simp

/-- The held-key table without the entry of a key (R95). -/
def unheld (code : Nat) (s : State) : State :=
  { s with router := { s.router with held := s.router.held.eraseP (·.code == code) } }

/-- The entry of a key leaves the table, and the others stay as they are (R95). -/
theorem unheld_eq {code : Nat} {s : State} {older newer : List HeldKey} {e : HeldKey}
    (table : s.router.held = older ++ e :: newer) (own : e.code = code) (others : ∀ d ∈ older, d.code ≠ code) :
    unheld code s = { s with router := { s.router with held := older ++ newer } } := by
  have erased : s.router.held.eraseP (·.code == code) = older ++ newer := by
    rw [table, List.eraseP_append_right _ fun d hd => by simpa using others d hd]
    simp [own]
  rw [unheld, erased]

@[simp] theorem entered_held (m : Master) (code : Nat) (kind : KeyKind) (s : State) :
    (entered m code kind s).router.held = s.router.held := by cases m <;> rfl

theorem keyUp_of_not_held {code : Nat} {s : State} (h : s.router.held.find? (·.code == code) = none) :
    keyUp code s = s := by rw [keyUp, h]

/-- The UP of a key that no master is to be told of (R95). -/
theorem keyUp_of_no_target {code : Nat} {s : State} {e : HeldKey}
    (h : s.router.held.find? (·.code == code) = some e) (target : ∀ m, e.target ≠ some (masterOwner m)) :
    keyUp code s = repeatDropped code (unheld code s) := by
  rw [keyUp, h]
  dsimp only
  rw [(bind_ownerMaster_eq_none_iff _).2 target]
  rfl

/-- The UP of a key that goes to a master (R95). -/
theorem keyUp_of_target {code : Nat} {s : State} {e : HeldKey} {m : Master}
    (h : s.router.held.find? (·.code == code) = some e) (target : e.target = some (masterOwner m)) :
    keyUp code s = repeatDropped code (tryReport m (entered m code .up (unheld code s))) := by
  rw [keyUp, h]
  dsimp only
  rw [(bind_ownerMaster_eq_some_iff _ _).2 target, ← placeEvent_eq]
  rfl

/-! ### A master that is gone (R107, R108, R172) -/

/-- The Key Router's queue, held entries and repeat once a master is gone (R107 steps 1 to 3). -/
def routerEmptied (m : Master) (s : State) : State :=
  let t := s.setChannel m { s.router.channel m with queue := [], lastEntry := none, gate := .opened }
  { t with router := { t.router with
      held := retarget (masterOwner m) t.router.held, repeatKey := t.router.repeatKey.filter (·.target != m) } }

/-- The focus is moved last, if it is on a pane of the master. -/
theorem routerGone_eq (m : Master) (s : State) :
    routerGone m s =
      if ownerAt (routerEmptied m s).router.focus (routerEmptied m s) = some (masterOwner m) then
        setFocus (if (routerEmptied m s).router.hold then none else (routerEmptied m s).ring.head?) (routerEmptied m s)
      else routerEmptied m s := rfl

/-- What an absence leaves of the Vehicle Line. -/
def vehicleAway (s : State) : State :=
  { s with vehicle := { s.vehicle with
      present := false, silence := none, requests := [], outbound := [], restartDone := 0 } }

theorem vehicleAbsence_eq (s : State) :
    vehicleAbsence s = vehField true false (alertAbsence (routerGone .vehicle (vehicleAway s))) := rfl

/-! ### PARKED is entered (R141) -/

/-- The Park Controller, the Scan-out Unit and the scanner in PARKED, before the flush. -/
def parkedOff (s : State) : State :=
  { s with
    park := { s.park with state := .parked, countdown := none }
    scanOut := { s.scanOut with panel := .off }
    scanner := s.scanner.enterParked }

theorem enterParked_eq (s : State) :
    enterParked s =
      { flush (parkedOff s) with
        light := { (flush (parkedOff s)).light with parked := true, target := 0, applied := 0 } } := rfl

end Sys2Proof.Proofs

/-! ## Every step keeps 10 held keys, and 32 queued events and held keys for each master (R90, R99) -/

namespace Sys2Proof.Proofs

open Sys2Proof.Machine Sys2Proof.Safety

/-- The events in a master's key queue and the held entries targeted at it (R99). -/
def keyLoad (m : Master) (s : State) : Nat :=
  (channel m s).queue.length + s.router.held.countP fun e => e.target == some (masterOwner m)

theorem keysKept_iff (s : State) : KeysKept s ↔ s.router.held.length ≤ 10 ∧ ∀ m, keyLoad m s ≤ 32 :=
  and_congr_right fun _ => ⟨fun ⟨tablet, vehicle⟩ m => by cases m <;> assumption,
    fun h => ⟨h .tablet, h .vehicle⟩⟩

/-- From `s` to `t` the table and no master's load have grown. -/
def Lighter (s t : State) : Prop := t.router.held.length ≤ s.router.held.length ∧ ∀ m, keyLoad m t ≤ keyLoad m s

theorem Lighter.trans {s t u : State} (h : Lighter s t) (h' : Lighter t u) : Lighter s u :=
  ⟨h'.1.trans h.1, fun m => (h'.2 m).trans (h.2 m)⟩

theorem Lighter.keysKept {s t : State} (h : Lighter s t) (kept : KeysKept s) : KeysKept t := by
  rw [keysKept_iff] at kept ⊢
  exact ⟨h.1.trans kept.1, fun m => (h.2 m).trans (kept.2 m)⟩

theorem lighter_of_queues {s t : State} (held : t.router.held = s.router.held)
    (tablet : t.router.tablet.queue.length ≤ s.router.tablet.queue.length)
    (vehicle : t.router.vehicle.queue.length ≤ s.router.vehicle.queue.length) : Lighter s t := by
  refine ⟨by rw [held], fun m => ?_⟩
  rw [keyLoad, keyLoad, held]
  cases m <;> exact Nat.add_le_add_right ‹_› _

theorem lighter_of_same {s t : State} (same : t.router.held = s.router.held ∧
    t.router.tablet.queue = s.router.tablet.queue ∧ t.router.vehicle.queue = s.router.vehicle.queue) : Lighter s t := by
  obtain ⟨held, tablet, vehicle⟩ := same
  exact lighter_of_queues held (by rw [tablet]) (by rw [vehicle])

/-- A report only takes events off its master's queue (R103, R104). -/
theorem tryReport_lighter (m : Master) (s : State) : Lighter s (tryReport m s) := by
  unfold tryReport
  split
  · cases m <;> exact lighter_of_queues (by simp) (by simp) (by simp)
  · exact lighter_of_same (by simp)

/-! ### A key goes up; the table is flushed (R95, R97) -/

theorem length_unheld_le (code : Nat) (s : State) : (unheld code s).router.held.length ≤ s.router.held.length :=
  List.length_eraseP_le

theorem unheld_lighter (code : Nat) (s : State) : Lighter s (unheld code s) :=
  ⟨length_unheld_le code s, fun _ => Nat.add_le_add_left (List.eraseP_sublist.countP_le) _⟩

/-- An UP in the queue for an entry that leaves the table. -/
theorem entered_unheld_lighter {code : Nat} {s : State} {e : HeldKey} {m : Master}
    (found : s.router.held.find? (·.code == code) = some e) (target : e.target = some (masterOwner m)) :
    Lighter s (entered m code .up (unheld code s)) := by
  obtain ⟨own, older, newer, split, others⟩ := List.find?_eq_some_iff_append.1 found
  have table : (unheld code s).router.held = older ++ newer := by
    rw [unheld_eq split (by simpa using own) fun d hd => by simpa using others d hd]
  refine ⟨by cases m <;> exact length_unheld_le code s, fun k => ?_⟩
  have before : keyLoad k s = (channel k s).queue.length + (older ++ e :: newer).countP
      fun d => d.target == some (masterOwner k) := by rw [keyLoad, split]
  have after : keyLoad k (entered m code .up (unheld code s)) =
      (channel k s).queue.length + (if k = m then 1 else 0) + (older ++ newer).countP
        fun d => d.target == some (masterOwner k) := by
    rw [← table]
    cases m <;> cases k <;> simp [keyLoad, entered, withChannel, channel, unheld]
  rw [before, after, List.countP_append, List.countP_append, List.countP_cons, target]
  cases m <;> cases k <;> simp [masterOwner] <;> omega

theorem keyUp_lighter (code : Nat) (s : State) : Lighter s (keyUp code s) := by
  have dropped (t : State) : Lighter t (repeatDropped code t) := lighter_of_same (by simp)
  cases found : s.router.held.find? (·.code == code) with
  | none =>
    rw [keyUp_of_not_held found]
    exact lighter_of_same (by simp)
  | some e =>
    by_cases target : ∃ m, e.target = some (masterOwner m)
    · obtain ⟨m, target⟩ := target
      rw [keyUp_of_target found target]
      exact ((entered_unheld_lighter found target).trans (tryReport_lighter m _)).trans (dropped _)
    · rw [keyUp_of_no_target found (not_exists.1 target)]
      exact (unheld_lighter code s).trans (dropped _)

/-- The UPs of a flush take the places of the entries. -/
theorem flush_lighter (s : State) : Lighter s (flush s) := by
  have placed : Lighter s (flushed s) := by
    refine ⟨Nat.zero_le _, fun m => le_of_eq ?_⟩
    cases m <;> simp [keyLoad, flushed, flushedChannel, channel, List.countP_eq_length_filter]
  rw [flush_eq]
  exact (placed.trans (tryReport_lighter .tablet _)).trans (tryReport_lighter .vehicle _)

/-- A master that has gone has no event waiting and no entry targeted at it (R107, R108). -/
theorem routerGone_lighter (m : Master) (s : State) : Lighter s (routerGone m s) := by
  have targets (o : Owner) (held : List HeldKey) :
      (retarget (masterOwner m) held).countP (fun e => e.target == some o) ≤
        held.countP fun e => e.target == some o := by
    rw [retarget, List.countP_map]
    refine List.countP_mono_left fun e _ h => ?_
    simp only [Function.comp_apply] at h
    split at h
    · simp at h
    · exact h
  have emptied : Lighter s (routerEmptied m s) := by
    refine ⟨by simp [routerEmptied, retarget], fun k => Nat.add_le_add ?_ ?_⟩
    · cases m <;> cases k <;> simp [routerEmptied, channel]
    · cases m <;> exact targets _ _
  rw [routerGone_eq]
  split
  · exact emptied.trans (lighter_of_same (by simp))
  · exact emptied

/-! ### A key goes down (R91 to R94, R96) -/

/-- An entry that is targeted at no master finds its place below 10 entries. -/
theorem keysKept_keyHeld {s : State} (kept : KeysKept s) (place : s.router.held.length < 10) (code : Nat)
    {target : Option Owner} (local_or_none : ∀ m, target ≠ some (masterOwner m)) :
    KeysKept (keyHeld code target s) := by
  rw [keysKept_iff] at kept ⊢
  refine ⟨by simpa [keyHeld] using place, fun m => ?_⟩
  have same : keyLoad m (keyHeld code target s) = keyLoad m s := by
    cases m <;> simp [keyLoad, keyHeld, channel, List.countP_append, local_or_none]
  rw [same]
  exact kept.2 m

/-- A ROUTED DOWN makes 22 events and 10 entries at most (R94, R99). -/
theorem keysKept_routed {s : State} {m : Master} (kept : KeysKept s) (place : s.router.held.length < 10)
    (room : (channel m s).queue.length < 22) (code : Nat) :
    KeysKept (keyHeld code (some (masterOwner m)) (tryReport m (entered m code .down s))) := by
  obtain ⟨-, lighter⟩ := tryReport_lighter m (entered m code .down s)
  rw [keysKept_iff] at kept ⊢
  refine ⟨by simpa [keyHeld] using place, fun k => ?_⟩
  have one : keyLoad k (keyHeld code (some (masterOwner m)) (tryReport m (entered m code .down s))) =
      keyLoad k (tryReport m (entered m code .down s)) + if k = m then 1 else 0 := by
    cases m <;> cases k <;> simp [keyLoad, keyHeld, channel, List.countP_append, masterOwner, ← Nat.add_assoc]
  have event : keyLoad k (entered m code .down s) = keyLoad k s + if k = m then 1 else 0 := by
    cases m <;> cases k <;> simp [keyLoad, entered, withChannel, channel, Nat.add_right_comm]
  have load := lighter k
  rw [one]
  rw [event] at load
  split
  · next own =>
    subst own
    have targeted := List.countP_le_length (p := fun e : HeldKey => e.target == some (masterOwner k)) (l := s.router.held)
    simp only [if_true, keyLoad] at load ⊢
    omega
  · next other =>
    rw [if_neg other] at load
    exact load.trans (kept.2 k)

theorem keysKept_keyDown (code : Nat) {s : State} (kept : KeysKept s) : KeysKept (keyDown code s) := by
  have quiet : KeysKept (quieted code s) := (lighter_of_same (by simp)).keysKept kept
  rw [keyDown_eq]
  split
  · exact quiet
  · next place =>
    rw [← (quieted_router code s).1, not_le] at place
    have entry : KeysKept (keyHeld code (some .part) (quieted code s)) :=
      keysKept_keyHeld quiet place code fun m => by cases m <;> simp [masterOwner]
    unfold roleActs
    split
    · exact quiet
    · exact (lighter_of_same (by simp)).keysKept entry
    · exact (lighter_of_same (by simp)).keysKept entry
    · exact (lighter_of_same (by simp)).keysKept entry
    · exact (lighter_of_same (by simp)).keysKept entry
    · cases target : (quieted code s).routeTarget with
      | none =>
        rw [routedDown_of_none target]
        exact keysKept_keyHeld quiet place code fun m => by simp
      | some m =>
        rw [routedDown_of_some target]
        have routed := keysKept_routed quiet place ((routeTarget_eq_some_iff _ _).1 target).2 code
        exact (lighter_of_same (by simp)).keysKept routed


/-! ### Every step -/

/-- What each change of a scan keeps, the scan keeps. -/
theorem takeScan_holds {P : State → Prop} (hold : ∀ {s} c, P s → P (takeChange s c)) {raw : BitVec 128} {s : State}
    (kept : P s) (moved : P { s with scanner := s.scanner.debounced raw }) : P (takeScan raw s) := by
  unfold takeScan
  split
  · exact kept
  · generalize s.scanner.changes raw = changes
    generalize ({ s with scanner := s.scanner.debounced raw } : State) = t at moved
    induction changes generalizing t with
    | nil => exact moved
    | cons c changes ih => exact ih _ (hold c moved)

theorem keysKept_takeChange (c : KeyChange) {s : State} (kept : KeysKept s) : KeysKept (takeChange s c) := by
  cases c with
  | down code =>
    exact (lighter_of_same (t := restartCountdown (keyDown code s)) (by simp)).keysKept (keysKept_keyDown code kept)
  | up code => exact (keyUp_lighter code s).keysKept kept

theorem keysKept_takeCapture (raw : BitVec 128) {s : State} (kept : KeysKept s) : KeysKept (takeCapture raw s) := by
  unfold takeCapture
  split
  · exact kept
  · have captured : KeysKept { s with scanner := s.scanner.captured raw } := kept
    generalize s.scanner.capturedCodes raw = codes
    generalize ({ s with scanner := s.scanner.captured raw } : State) = t at captured
    induction codes generalizing t with
    | nil => exact captured
    | cons code codes ih =>
      refine ih (capturedDown code t) ?_
      unfold capturedDown
      split
      · exact captured
      · next place => exact keysKept_keyHeld captured (not_le.1 place) code fun m => by simp

/-- A REPEAT makes 16 events at most (R101). -/
theorem keysKept_repeatExpires {s : State} (kept : KeysKept s) : KeysKept (repeatExpires s) := by
  unfold repeatExpires
  split
  · exact kept
  · next r _ =>
    dsimp only
    split
    · next room =>
      rw [channel_eq, repeatThreshold] at room
      rw [placeEvent_eq]
      refine (tryReport_lighter r.target _).keysKept ?_
      rw [keysKept_iff] at kept ⊢
      obtain ⟨table, load⟩ := kept
      refine ⟨by simpa using table, fun m => ?_⟩
      have targeted := List.countP_le_length (p := fun e : HeldKey => e.target == some (masterOwner m))
        (l := s.router.held)
      have own := load m
      revert room
      cases r.target <;> cases m <;> simp only [keyLoad, entered, withChannel, channel, List.length_append,
        List.length_singleton] at own ⊢ <;> omega
    · exact kept

theorem departure_lighter (s : State) : Lighter s (departure s) := by
  have closings := fun l t => foldl_same (fun t : State => (t.router.held, t.router.tablet, t.router.vehicle)) takeClosing
    (fun u n => by simp) l t
  simp only [Prod.mk.injEq] at closings
  have port : Lighter s (departPanes (portDeparture s)) := lighter_of_same (by simp)
  refine (port.trans (routerGone_lighter .tablet _)).trans ?_
  exact lighter_of_same (by simp [departure, closings])

theorem enterParked_lighter (s : State) : Lighter s (enterParked s) := by
  have flushed : Lighter s (flush (parkedOff s)) :=
    .trans (t := parkedOff s) (lighter_of_same ⟨rfl, rfl, rfl⟩) (flush_lighter _)
  exact flushed.trans (lighter_of_same (by rw [enterParked_eq]; exact ⟨rfl, rfl, rfl⟩))

theorem restartScan_lighter (s : State) : Lighter s (restartScan s) :=
  .trans (t := { s with scanner := s.scanner.restarted }) (lighter_of_same (by simp)) (flush_lighter _)

theorem vehicleAbsence_lighter (s : State) : Lighter s (vehicleAbsence s) := by
  have gone : Lighter s (routerGone .vehicle (vehicleAway s)) :=
    .trans (t := vehicleAway s) (lighter_of_same ⟨rfl, rfl, rfl⟩) (routerGone_lighter .vehicle _)
  exact gone.trans (lighter_of_same (by simp [vehicleAbsence_eq, vehField]))

theorem keysKept_reset {s : State} (router : s.router = Router.afterReset) : KeysKept s := by
  unfold KeysKept
  rw [router]
  decide

/-- The key bounds are kept by each operation on the keys. -/
theorem keysKept_invariant : KeyInvariant KeysKept where
  same kept same := by
    obtain ⟨held, tablet, vehicle, -⟩ := same
    exact (lighter_of_same ⟨held, tablet, vehicle⟩).keysKept kept
  report m kept := (tryReport_lighter m _).keysKept kept
  repeats := keysKept_repeatExpires
  scan raw kept := takeScan_holds (fun c => keysKept_takeChange c) kept kept
  capture raw kept := keysKept_takeCapture raw kept
  park kept := (enterParked_lighter _).keysKept kept
  leave kept := (lighter_of_same (by simp)).keysKept kept
  rescan kept := (restartScan_lighter _).keysKept kept
  focus m n kept := by
    refine (lighter_of_same ?_).keysKept kept
    unfold doFocus
    split
    · simp
    · split_ifs <;> simp
  claim kept _ := kept
  stage kept _ _ := kept
  ready kept _ _ := kept
  release m n kept := by
    refine (lighter_of_same ?_).keysKept kept
    unfold doRelease
    split
    · simp
    · split_ifs <;> simp
  attach kept _ := kept
  depart kept := (departure_lighter _).keysKept kept
  absent kept := (vehicleAbsence_lighter _).keysKept kept
  back kept := (lighter_of_same (by simp)).keysKept kept
  reset _ _ _ _ _ _ _ _ := keysKept_reset rfl

@[simp] theorem eventsTaken_channels (lives hidden : List Nat) (s : State) :
    (eventsTaken lives hidden s).router.tablet = s.router.tablet ∧
    (eventsTaken lives hidden s).router.vehicle = s.router.vehicle := by
  have alive := foldl_same (fun t : State => (t.router.tablet, t.router.vehicle)) (fun t n => alertPaneLive n t)
    (fun t n => by simp) lives s
  have hid := foldl_same (fun t : State => (t.router.tablet, t.router.vehicle)) takeHidden (fun t n => by simp) hidden
    (lives.foldl (fun t n => alertPaneLive n t) s)
  simpa [eventsTaken] using hid.trans alive

theorem keysKept_takeBoundary {s : State} (kept : KeysKept s) : KeysKept (takeBoundary s) :=
  (lighter_of_same (by simp [takeBoundary_eq])).keysKept kept

end Sys2Proof.Proofs

/-! ## Every step keeps the entries' codes apart, each of a key that is down, and none outside SCANNING (R82, R90) -/

namespace Sys2Proof.Proofs

open Sys2Proof.Machine Sys2Proof.Safety

/-- The key codes of the held-key table, oldest first (R90). -/
def heldCodes (s : State) : List Nat := s.router.held.map (·.code)

/-- The scanner holds a key to be down (R82). -/
def DownAt (s : State) (c : Nat) : Prop :=
  (positionOf s c).state = .stableDown ∨ (positionOf s c).state = .releasePending

theorem heldKept_iff (s : State) : HeldKept s ↔
    (heldCodes s).Nodup ∧ (s.scanner.mode ≠ .scanning → heldCodes s = []) ∧ ∀ c ∈ heldCodes s, DownAt s c := by
  simp [HeldKept, heldCodes, DownAt]

theorem downAt_congr {s t : State} (positions : t.scanner.positions = s.scanner.positions) (c : Nat) :
    DownAt t c ↔ DownAt s c := by
  rw [DownAt, DownAt, positionOf, positionOf, positions]

/-- Entries may leave the table while the scanner stays as it is. -/
theorem heldKept_of_sublist {s t : State} (kept : HeldKept s) (codes : (heldCodes t).Sublist (heldCodes s))
    (mode : t.scanner.mode = s.scanner.mode) (positions : t.scanner.positions = s.scanner.positions) : HeldKept t := by
  rw [heldKept_iff] at kept ⊢
  obtain ⟨apart, scanning, down⟩ := kept
  refine ⟨apart.sublist codes, fun other => ?_, fun c hc => (downAt_congr positions c).2 (down c (codes.subset hc))⟩
  rw [scanning (mode ▸ other)] at codes
  exact List.sublist_nil.1 codes

theorem heldKept_of_same {s t : State} (kept : HeldKept s) (same : t.router.held = s.router.held ∧
    t.scanner.mode = s.scanner.mode ∧ t.scanner.positions = s.scanner.positions) : HeldKept t := by
  obtain ⟨held, mode, positions⟩ := same
  exact heldKept_of_sublist kept (by rw [heldCodes, heldCodes, held]) mode positions

theorem heldKept_of_empty {s : State} (empty : s.router.held = []) : HeldKept s := by
  simp [HeldKept, empty]

/-! ### What one key makes of the codes -/

theorem keyDown_heldCodes (code : Nat) (s : State) :
    heldCodes (keyDown code s) = heldCodes s ∨ heldCodes (keyDown code s) = heldCodes s ++ [code] := by
  have entry (target : Option Owner) (t : State) : heldCodes (keyHeld code target t) = heldCodes t ++ [code] := by
    simp [heldCodes, keyHeld]
  have same {t u : State} (held : t.router.held = u.router.held) : heldCodes t = heldCodes u := by
    rw [heldCodes, heldCodes, held]
  have quiet : heldCodes (quieted code s) = heldCodes s := same (by simp)
  have entered : heldCodes (keyHeld code (some .part) (quieted code s)) = heldCodes s ++ [code] := by
    rw [entry, quiet]
  rw [keyDown_eq]
  split
  · exact .inl quiet
  · unfold roleActs
    split
    · exact .inl quiet
    · exact .inr ((same (by simp)).trans entered)
    · exact .inr ((same (by simp)).trans entered)
    · exact .inr ((same (by simp)).trans entered)
    · exact .inr ((same (by simp)).trans entered)
    · right
      cases target : (quieted code s).routeTarget with
      | none => rw [routedDown_of_none target, entry, quiet]
      | some m =>
        have table : heldCodes (tryReport m (Safety.entered m code .down (quieted code s))) = heldCodes s :=
          (same (by simp)).trans quiet
        rw [routedDown_of_some target, same (repeatArmed_router m code _).1, entry, table]

theorem keyUp_heldCodes (code : Nat) (s : State) : heldCodes (keyUp code s) = (heldCodes s).erase code := by
  have same {t u : State} (held : t.router.held = u.router.held) : heldCodes t = heldCodes u := by
    rw [heldCodes, heldCodes, held]
  have gone : heldCodes (unheld code s) = (heldCodes s).erase code := by
    simp only [heldCodes, unheld, List.erase_eq_eraseP, List.eraseP_map]
    congr 2
    funext e
    exact Bool.beq_comm
  cases found : s.router.held.find? (·.code == code) with
  | none =>
    have absent : code ∉ heldCodes s := by simpa [heldCodes] using found
    rw [keyUp_of_not_held found, List.erase_of_not_mem absent]
  | some e =>
    rw [← gone]
    by_cases target : ∃ m, e.target = some (masterOwner m)
    · obtain ⟨m, target⟩ := target
      rw [keyUp_of_target found target]
      exact same (by simp)
    · rw [keyUp_of_no_target found (not_exists.1 target)]
      exact same (by simp)

/-! ### The changes of a scan (R72, R74) -/

/-- The key code of a change. -/
def changeCode : KeyChange → Nat
  | .down code => code
  | .up code => code

/-- What holds of the table while `changes` of a scan are still to be handed on: an entry's key is down, or goes up; a key
that goes down is not in the table; and no key changes twice. -/
structure Awaiting (changes : List KeyChange) (s : State) : Prop where
  apart : (heldCodes s).Nodup
  held : ∀ c ∈ heldCodes s, DownAt s c ∨ .up c ∈ changes
  pressed : ∀ c, .down c ∈ changes → DownAt s c ∧ c ∉ heldCodes s
  once : (changes.map changeCode).Nodup

theorem Awaiting.next {change : KeyChange} {changes : List KeyChange} {s : State} (h : Awaiting (change :: changes) s) :
    Awaiting changes (takeChange s change) := by
  obtain ⟨apart, held, pressed, once⟩ := h
  rw [List.map_cons, List.nodup_cons] at once
  obtain ⟨new, once⟩ := once
  have others {c : KeyChange} (hc : c ∈ changes) : changeCode c ≠ changeCode change :=
    ne_of_mem_of_not_mem (List.mem_map_of_mem hc) new
  cases change with
  | down code =>
    have positions : (takeChange s (.down code)).scanner.positions = s.scanner.positions := by simp [takeChange]
    have codes : heldCodes (keyDown code s) = heldCodes (takeChange s (.down code)) := by simp [takeChange, heldCodes]
    obtain ⟨down, absent⟩ := pressed code (by simp)
    have kept (c : Nat) (hc : c ∈ heldCodes s) : DownAt s c ∨ .up c ∈ changes := by simpa using held c hc
    obtain same | added := codes ▸ keyDown_heldCodes code s
    · refine ⟨same ▸ apart, fun c hc => ?_, fun c hc => ?_, once⟩
      · rw [downAt_congr positions]
        exact kept c (same ▸ hc)
      · rw [downAt_congr positions, same]
        exact pressed c (by simp [hc])
    · refine ⟨?_, fun c hc => ?_, fun c hc => ?_, once⟩
      · rw [added]
        exact List.nodup_append.2 ⟨apart, by simp, by simpa using fun c hc => ne_of_mem_of_not_mem hc absent⟩
      · rw [downAt_congr positions]
        rw [added, List.mem_append, List.mem_singleton] at hc
        obtain hc | rfl := hc
        · exact kept c hc
        · exact .inl down
      · have apartFrom : c ≠ code := others hc
        rw [downAt_congr positions, added]
        simpa [apartFrom] using pressed c (by simp [hc])
  | up code =>
    have positions : (takeChange s (.up code)).scanner.positions = s.scanner.positions := by simp [takeChange]
    have codes : heldCodes (takeChange s (.up code)) = (heldCodes s).erase code := keyUp_heldCodes code s
    refine ⟨codes ▸ apart.erase code, fun c hc => ?_, fun c hc => ?_, once⟩
    · rw [codes, apart.mem_erase_iff] at hc
      obtain ⟨apartFrom, hc⟩ := hc
      rw [downAt_congr positions]
      simpa [apartFrom] using held c hc
    · rw [downAt_congr positions, codes, apart.mem_erase_iff]
      obtain ⟨down, absent⟩ := pressed c (by simp [hc])
      exact ⟨down, fun h => absent h.2⟩

theorem Awaiting.done {changes : List KeyChange} {s : State} (h : Awaiting changes s) :
    Awaiting [] (changes.foldl takeChange s) := by
  induction changes generalizing s with
  | nil => exact h
  | cons change changes ih => exact ih h.next

/-- The state of a position after a scan, and what it hands on (R72). -/
theorem mem_changes_iff (sc : Scanner) (raw : BitVec 128) (change : KeyChange) :
    change ∈ sc.changes raw ↔ ∃ p, sc.positions[changeCode change]? = some p ∧
      p.accepted sc.pressCount sc.releaseCount (readsDown raw (changeCode change)) (changeCode change) = some change := by
  have own {p : Position} {c : Nat} (h : p.accepted sc.pressCount sc.releaseCount (readsDown raw c) c = some change) :
      c = changeCode change := by
    rw [accepted_eq_scanHands, scanHands] at h
    split_ifs at h <;> cases h <;> rfl
  simp only [Scanner.changes, Scanner.numbered, List.mem_filterMap, Prod.exists, List.mem_zipIdx_iff_getElem?]
  constructor
  · rintro ⟨p, c, hp, h⟩
    obtain rfl := own h
    exact ⟨p, hp, h⟩
  · rintro ⟨p, hp, h⟩
    exact ⟨p, _, hp, h⟩

theorem changes_once (sc : Scanner) (raw : BitVec 128) : ((sc.changes raw).map changeCode).Nodup := by
  have inOrder : ((sc.changes raw).map changeCode).Sublist (sc.numbered.map Prod.snd) := by
    unfold Scanner.changes
    generalize sc.numbered = numbered
    induction numbered with
    | nil => simp
    | cons x numbered ih =>
      obtain ⟨p, c⟩ := x
      rw [List.filterMap_cons]
      split
      · exact ih.cons _
      · next change h =>
        have own : changeCode change = c := by
          simp only [accepted_eq_scanHands, scanHands] at h
          split_ifs at h <;> cases h <;> rfl
        rw [List.map_cons, List.map_cons, own]
        exact ih.cons_cons _
  refine inOrder.nodup ?_
  rw [Scanner.numbered, List.zipIdx_map_snd]
  exact List.nodup_range'

theorem positionOf_debounced {s : State} {raw : BitVec 128} {c : Nat} {p : Position}
    (hp : s.scanner.positions[c]? = some p) :
    positionOf { s with scanner := s.scanner.debounced raw } c =
      scanRow s.scanner.pressCount s.scanner.releaseCount (readsDown raw c) p := by
  simp [positionOf, Scanner.debounced, Scanner.numbered, hp, move_eq_scanRow]

/-- A key of the table has a position record. -/
theorem position_of_downAt {s : State} {c : Nat} (down : DownAt s c) :
    ∃ p, s.scanner.positions[c]? = some p ∧ (p.state = .stableDown ∨ p.state = .releasePending) := by
  cases hp : s.scanner.positions[c]? with
  | none => simp [DownAt, positionOf, hp, Position.up] at down
  | some p => exact ⟨p, rfl, by simpa [DownAt, positionOf, hp] using down⟩

/-- A scan in SCANNING begins with a table of keys that stay down or go up. -/
theorem awaiting_changes {s : State} (kept : HeldKept s) (raw : BitVec 128) :
    Awaiting (s.scanner.changes raw) { s with scanner := s.scanner.debounced raw } := by
  rw [heldKept_iff] at kept
  obtain ⟨apart, -, down⟩ := kept
  refine ⟨apart, fun c hc => ?_, fun c hc => ?_, changes_once _ _⟩
  · obtain ⟨p, hp, state⟩ := position_of_downAt (down c hc)
    simp only [DownAt, positionOf_debounced hp, mem_changes_iff, changeCode, hp, Option.some.injEq, exists_eq_left',
      accepted_eq_scanHands]
    cases reads : readsDown raw c
    · by_cases last : s.scanner.releaseCount ≤ p.count + 1
      · obtain state | state := state
        · simp [scanRow, state]
        · exact .inr (by simp [scanHands, state, last])
      · obtain state | state := state <;> simp [scanRow, state, not_le.1 last]
    · obtain state | state := state <;> simp [scanRow, state]
  · obtain ⟨p, hp, h⟩ := (mem_changes_iff _ _ _).1 hc
    rw [accepted_eq_scanHands, scanHands] at h
    split_ifs at h with pressed released
    · obtain ⟨pending, reads, last⟩ := pressed
      refine ⟨.inl ?_, fun held => ?_⟩
      · rw [changeCode] at hp
        rw [changeCode, readsDown_eq] at reads
        rw [positionOf_debounced hp]
        simp [scanRow, pending, reads, not_lt.2 last]
      · obtain ⟨q, hq, state⟩ := position_of_downAt (down c held)
        obtain rfl : p = q := Option.some.inj (hp.symm.trans hq)
        simp [pending] at state
    · cases h

theorem heldKept_takeScan (raw : BitVec 128) {s : State} (kept : HeldKept s) : HeldKept (takeScan raw s) := by
  unfold takeScan
  split
  · exact kept
  · next calm =>
    obtain ⟨scanning, -⟩ := not_or.1 calm
    have done := (awaiting_changes kept raw).done
    have scanner := foldl_same State.scanner takeChange (fun t c => by cases c <;> simp [takeChange])
      (s.scanner.changes raw) { s with scanner := s.scanner.debounced raw }
    rw [heldKept_iff, scanner]
    exact ⟨done.apart, fun other => absurd (not_not.1 scanning) other, fun c hc => by simpa using done.held c hc⟩


/-! ### The capture scan (R79, R96) -/

theorem capturedCodes_eq_filter (sc : Scanner) (raw : BitVec 128) :
    sc.capturedCodes raw = (List.range' 0 sc.positions.length).filter (readsDown raw) := by
  have numbers : List.range' 0 sc.positions.length = sc.numbered.map Prod.snd := by
    rw [Scanner.numbered, List.zipIdx_map_snd]
  rw [numbers, ← List.filterMap_eq_filter, List.filterMap_map, Scanner.capturedCodes]
  refine List.filterMap_congr fun x _ => ?_
  simp [Option.guard]

theorem heldKept_takeCapture (raw : BitVec 128) {s : State} (kept : HeldKept s) : HeldKept (takeCapture raw s) := by
  unfold takeCapture
  split
  · exact kept
  · next capture =>
    have empty : s.router.held = [] := kept.2.1 (by simp [not_not.1 capture])
    rw [foldl_capturedDown, heldKept_iff]
    have codes : heldCodes { s with
        scanner := s.scanner.captured raw
        router := { s.router with
          held := s.router.held ++ ((s.scanner.capturedCodes raw).take (10 - s.router.held.length)).map fun c =>
            { code := c, target := none, time := s.now } } } = (s.scanner.capturedCodes raw).take 10 := by
      simp [heldCodes, empty, Function.comp_def]
    refine ⟨codes ▸ ?_, fun other => absurd rfl other, fun c hc => ?_⟩
    · refine List.Nodup.sublist (List.take_sublist _ _) ?_
      rw [capturedCodes_eq_filter]
      exact List.Nodup.filter _ List.nodup_range'
    · have captured := List.mem_of_mem_take (codes ▸ hc)
      rw [capturedCodes_eq_filter, List.mem_filter, List.mem_range'_1, Nat.zero_add] at captured
      obtain ⟨⟨-, inTable⟩, reads⟩ := captured
      left
      rw [readsDown_eq] at reads
      simp [positionOf, Scanner.captured, Scanner.numbered, inTable, reads]

/-! ### Every step -/

theorem heldKept_routerGone (m : Master) {s : State} (kept : HeldKept s) : HeldKept (routerGone m s) := by
  have held : (routerGone m s).router.held = retarget (masterOwner m) s.router.held := by
    rw [routerGone_eq]
    split <;> simp [routerEmptied]
  have codes : heldCodes (routerGone m s) = heldCodes s := by
    rw [heldCodes, held, retarget, List.map_map]
    refine List.map_congr_left fun e _ => ?_
    simp only [Function.comp_apply]
    split <;> rfl
  exact heldKept_of_sublist kept (by rw [codes]) (by simp) (by simp)

theorem heldKept_departure {s : State} (kept : HeldKept s) : HeldKept (departure s) := by
  have closings := fun l t => foldl_same (fun t : State => (t.router.held, t.scanner)) takeClosing (fun u n => by simp) l t
  simp only [Prod.mk.injEq] at closings
  have port : HeldKept (departPanes (portDeparture s)) := heldKept_of_same kept (by simp)
  exact heldKept_of_same (heldKept_routerGone .tablet port) (by simp [departure, closings])

/-- The leaving of PARKED takes the scanner out of WAKE_DETECT, in which no key is held (R78). -/
theorem heldKept_leaveParked {s : State} (kept : HeldKept s) : HeldKept (leaveParked s) := by
  by_cases waking : s.scanner.mode = .wakeDetect
  · have empty : s.router.held = [] := kept.2.1 (by simp [waking])
    exact heldKept_of_empty (by simpa using empty)
  · have scanner : s.scanner.leaveParked = s.scanner := if_neg waking
    exact heldKept_of_same kept (by simp [leaveParked_eq, scanner])

/-- No key is held after a flush (R97). -/
theorem flush_held (s : State) : (flush s).router.held = [] := by
  rw [flush_eq]
  simp [flushed]

/-- The held-key table is kept by each operation on the keys. -/
theorem heldKept_invariant : KeyInvariant HeldKept where
  same kept same := by
    obtain ⟨held, -, -, -, -, -, -, -, -, -, mode, positions, -⟩ := same
    exact heldKept_of_same kept ⟨held, mode, positions⟩
  report m kept := heldKept_of_same kept (by simp)
  repeats kept := heldKept_of_same kept (by
    unfold repeatExpires
    split
    · simp
    · dsimp only
      split <;> simp)
  scan raw kept := heldKept_takeScan raw kept
  capture raw kept := heldKept_takeCapture raw kept
  park _ := heldKept_of_empty (flush_held _)
  leave kept := heldKept_leaveParked kept
  rescan _ := heldKept_of_empty (flush_held _)
  focus m n kept := heldKept_of_same kept (by
    unfold doFocus
    split
    · simp
    · split_ifs <;> simp)
  claim kept _ := kept
  stage kept _ _ := kept
  ready kept _ _ := kept
  release m n kept := heldKept_of_same kept (by
    unfold doRelease
    split
    · simp
    · split_ifs <;> simp)
  attach kept _ := kept
  depart kept := heldKept_departure kept
  absent {s} kept := by
    have gone : HeldKept (routerGone .vehicle (vehicleAway s)) := heldKept_routerGone .vehicle kept
    exact heldKept_of_same gone (by simp [vehicleAbsence_eq, vehField])
  back kept := heldKept_of_same kept (by simp)
  reset _ _ _ _ _ _ _ _ := heldKept_of_empty rfl

/-- Settles O39: both parts by the walk over the commands, `keysKept_invariant` and `heldKept_invariant`; the frame boundary
changes no key. -/
theorem stepsKeepTheKeyBounds : Obligations.StepsKeepTheKeyBounds :=
  ⟨fun s _ kept next => keysKept_invariant.step kept
      (keysKept_takeBoundary (s := { s with pending := s.pending.tail }) kept) next,
    fun _ _ kept next => heldKept_invariant.step kept (heldKept_of_same kept (by simp [takeBoundary_eq])) next⟩

end Sys2Proof.Proofs

/-! ## Every step keeps the hold (R89, R111, R113, R137, R153) -/

namespace Sys2Proof.Proofs

open Sys2Proof.Machine Sys2Proof.Safety

/-! ### What the hold and the focus depend on -/

/-- The two states agree in what the invariants of the focus and of the hold speak of. -/
@[simp] abbrev SameFocus (s t : State) : Prop :=
  t.router.focus = s.router.focus ∧ t.router.hold = s.router.hold ∧ t.alerts.stack = s.alerts.stack ∧
    t.alerts.saved = s.alerts.saved ∧ t.light.hold = s.light.hold ∧ t.lines.lines[3]? = s.lines.lines[3]? ∧
    t.lines.lines.length = s.lines.lines.length ∧
    (s.scanner.positions.length = 128 → t.scanner.positions.length = 128) ∧
    t.inputs.length = s.inputs.length ∧ t.layout.panes = s.layout.panes ∧ (Attached t.dock ↔ Attached s.dock) ∧
    t.vehicle.present = s.vehicle.present

theorem SameKeys.sameFocus {s t : State} (h : SameKeys s t) : SameFocus s t := by
  simp only [SameKeys] at h
  simp [h]

theorem SameFocus.trans {s t u : State} (h : SameFocus s t) (h' : SameFocus t u) : SameFocus s u := by
  simp only [SameFocus] at h h' ⊢
  simp +contextual [h, h']

/-! ### Operations on keys that leave both alone -/

@[simp] theorem tryReport_sameFocus (m : Master) (s : State) : SameFocus s (tryReport m s) := by simp [Attached]

@[simp] theorem appendEvent_sameFocus (m : Master) (code : Nat) (kind : KeyKind) (s : State) :
    SameFocus s (appendEvent m code kind s) := by
  cases m <;> simp [appendEvent_eq_entered, entered, withChannel]

@[simp] theorem repeatExpires_sameFocus (s : State) : SameFocus s (repeatExpires s) := by
  unfold repeatExpires
  split
  · simp
  · dsimp only
    split <;> simp [Attached]

@[simp] theorem routedDown_sameFocus (code : Nat) (s : State) : SameFocus s (routedDown code s) := by
  cases target : s.routeTarget with
  | none =>
    rw [routedDown_of_none target]
    simp [keyHeld]
  | some m =>
    rw [routedDown_of_some target, ← placeEvent_eq]
    unfold repeatArmed
    split <;> simp [keyHeld, Attached]

@[simp] theorem keyUp_sameFocus (code : Nat) (s : State) : SameFocus s (keyUp code s) := by simp [Attached]

@[simp] theorem capturedDown_sameFocus (code : Nat) (s : State) : SameFocus s (capturedDown code s) := by simp

@[simp] theorem leaveParked_positions (sc : Scanner) : sc.leaveParked.positions = sc.positions := by
  unfold Scanner.leaveParked
  split <;> rfl

@[simp] theorem brightnessStep_sameFocus (step : Int) (s : State) : SameFocus s (brightnessStep step s) := by
  simp [brightnessStep]

/-! ### Operations on the focus and the hold, as the values they leave -/

/-- The state with the focus at a value. -/
def focused (v : Option Nat) (s : State) : State := { s with router := { s.router with focus := v } }

/-- The state with the hold in force or not, in the three blocks that hold it (R89, R137, R153). -/
def heldFast (on : Bool) (s : State) : State :=
  { s with
    router := { s.router with hold := on }
    light := { s.light with hold := on }
    lines := { s.lines with lines := s.lines.lines.set 3 { out := true, latch := on } } }

/-- The state with another alert stack. -/
def stacked (stack : List Nat) (s : State) : State := { s with alerts := { s.alerts with stack := stack } }

/-- The state with another saved focus. -/
def savedAs (v : Option Nat) (s : State) : State := { s with alerts := { s.alerts with saved := v } }

theorem setFocus_sameFocus (v : Option Nat) (s : State) : SameFocus (focused v s) (setFocus v s) := by
  have focus : (setFocus v s).router.focus = v := by rw [setFocus_eq_focusMoved, focusMoved_focus]
  simp [focused, focus, Attached]

/-- The state in a hold over another stack: the focus is the alert focus (R113). -/
def restacked (stack : List Nat) (s : State) : State := focused (alertValue (stacked stack s)) (stacked stack s)

/-- The state in a hold that has begun with pane `n`: the focus is saved (R114). -/
def holdBegun (n : Nat) (s : State) : State := heldFast true (restacked [n] (savedAs s.router.focus s))

/-- The state after a hold: the stack is empty and the focus returned (R115). -/
def holdEnded (s : State) : State := savedAs none (focused s.returnFocus (heldFast false (stacked [] s)))

@[simp] theorem reportAcknowledged_sameFocus (n : Nat) (s : State) : SameFocus s (reportAcknowledged n s) := by
  unfold reportAcknowledged
  split <;> simp [Attached]

theorem alertValue_congr {s t : State} (stack : t.alerts.stack = s.alerts.stack)
    (panes : t.layout.panes = s.layout.panes) (present : t.vehicle.present = s.vehicle.present) :
    alertValue t = alertValue s := by
  rw [alertValue, alertValue, stack, present, funext fun n => pane?_congr panes n]

theorem topChanged_sameFocus (size : Nat) (s : State) : SameFocus (focused (alertValue s) s) (topChanged size s) := by
  have moved := setFocus_sameFocus s.alertFocus s
  rw [alertFocus_eq] at moved
  exact moved.trans (by simp [topChanged, alertFocus_eq])

theorem holdBegins_sameFocus (s : State) : SameFocus (heldFast true (focused (alertValue s) s)) (holdBegins s) := by
  have moved := setFocus_sameFocus (alertValue s) { s with router := { s.router with hold := true } }
  rw [holdBegins, alertFocus_eq]
  simp only [SameFocus, focused] at moved
  simp [focused, heldFast, setAlertLed, moved, Attached]

theorem holdEnds_sameFocus (size : Nat) (s : State) :
    SameFocus (savedAs none (focused s.returnFocus (heldFast false s))) (holdEnds size s) := by
  have moved := setFocus_sameFocus s.returnFocus { s with router := { s.router with hold := false } }
  simp only [SameFocus, focused] at moved
  simp [holdEnds, savedAs, focused, heldFast, setAlertLed, moved, Attached]

/-- Where the parts stand on which eligibility depends, it does (R84). -/
theorem eligible_congr {s t : State} (panes : t.layout.panes = s.layout.panes) (attached : Attached t.dock ↔ Attached s.dock)
    (present : t.vehicle.present = s.vehicle.present) : t.eligible = s.eligible := by
  have owners (o : Owner) : t.present o = s.present o := by
    cases o
    · exact Bool.eq_iff_iff.2 ((tabletPresent_iff t).trans (attached.trans (tabletPresent_iff s).symm))
    · exact present
    · rfl
  funext n
  simp only [State.eligible, pane?_congr panes, owners]

/-- The hold that ends over an emptied stack. -/
theorem holdEnds_of_same {s t : State} (same : SameFocus (stacked [] s) t) (layout : t.layout = s.layout) (size : Nat) :
    SameFocus (holdEnded s) (holdEnds size t) := by
  have back : t.returnFocus = s.returnFocus := by
    obtain ⟨-, -, -, saved, -, -, -, -, -, panes, attached, present⟩ := same
    have saved : t.alerts.saved = s.alerts.saved := saved
    rw [State.returnFocus, State.returnFocus, saved, State.ring, State.ring, layout, eligible_congr panes attached present]
    rfl
  refine .trans ?_ (holdEnds_sameFocus size t)
  rw [back]
  simp only [SameFocus] at same
  simp +contextual [holdEnded, savedAs, focused, heldFast, List.getElem?_set, same]

/-- The top that changes over another stack. -/
theorem topChanged_of_same {s t : State} {stack : List Nat} (same : SameFocus (stacked stack s) t) (size : Nat) :
    SameFocus (restacked stack s) (topChanged size t) := by
  refine .trans ?_ (topChanged_sameFocus size t)
  have value : alertValue t = alertValue (stacked stack s) := by
    obtain ⟨-, -, stack, -, -, -, -, -, -, panes, -, present⟩ := same
    exact alertValue_congr stack panes present
  rw [value]
  simp only [SameFocus] at same
  simp +contextual [restacked, focused, same]

/-! ### The events of the Alert Controller, as the values they leave (R114, R116, R118) -/

/-- A pane live event of an ALERT pane begins a hold, or the pane goes on top of the stack (R114). -/
theorem alertPaneLive_sameFocus {s : State} {n : Nat} {p : Pane} (record : s.pane? n = some p) (alert : p.cls = .alert) :
    SameFocus (if s.alerts.stack = [] then holdBegun n s else restacked (n :: s.alerts.stack) s) (alertPaneLive n s) := by
  simp only [alertPaneLive, record, alert, if_true]
  split
  · exact holdBegins_sameFocus _
  · exact topChanged_sameFocus _ _

theorem alertPaneLive_of_normal {s : State} {n : Nat} {p : Pane} (record : s.pane? n = some p) (normal : p.cls ≠ .alert) :
    alertPaneLive n s = s := by
  simp only [alertPaneLive, record, if_neg normal]

/-- An acknowledge press takes the top pane off the stack, and ends the hold with the last one (R116). -/
theorem acknowledgePress_sameFocus {s : State} {top : Nat} {rest : List Nat} (stack : s.alerts.stack = top :: rest) :
    SameFocus (if rest = [] then holdEnded s else restacked rest s) (acknowledgePress s) := by
  have same := reportAcknowledged_sameFocus top (stacked rest s)
  have layout : (reportAcknowledged top (stacked rest s)).layout = s.layout := (reportAcknowledged_frame _ _).1
  simp only [acknowledgePress, stack]
  split
  · next empty =>
    subst empty
    exact holdEnds_of_same same layout _
  · exact topChanged_of_same same _

/-- A pane that closes leaves the stack: not in it, the last one, the top one or another (R118). -/
theorem alertPaneClosing_sameFocus (n : Nat) (s : State) :
    SameFocus (dropSaved n
        (if n ∉ s.alerts.stack then s
        else if s.alerts.stack.filter (· != n) = [] then holdEnded s
        else if s.alerts.stack.head? = some n then restacked (s.alerts.stack.filter (· != n)) s
        else stacked (s.alerts.stack.filter (· != n)) s))
      (alertPaneClosing n s) := by
  have dropped {t u : State} (same : SameFocus t u) : SameFocus (dropSaved n t) (dropSaved n u) := by
    have saved : u.alerts.saved = t.alerts.saved := same.2.2.2.1
    simp only [SameFocus] at same
    unfold dropSaved
    rw [saved]
    split <;> simp +contextual [same]
  unfold alertPaneClosing
  refine dropped ?_
  simp only [List.contains_iff_mem, ite_not]
  split_ifs with member empty top
  · exact holdEnds_of_same (by simp [stacked, empty]) rfl _
  · exact topChanged_of_same (by simp [stacked]) _
  · simp [stacked]
  · have whole : s.alerts.stack.filter (· != n) = s.alerts.stack := by
      rw [List.filter_eq_self]
      intro k hk
      simpa using fun same : k = n => member (same ▸ hk)
    simp [whole]

/-- The pane closing events of a departure reach the Alert Controller when the focus of the tablet is gone; what follows them
concerns neither (R161). -/
theorem departure_sameFocus (s : State) :
    SameFocus (s.tabletLive.foldl takeClosing (alertDeparture (routerGone .tablet (departPanes (portDeparture s)))))
      (departure s) :=
  (((releaseTabletLines_keys _).trans (handVehicle_keys _ _)).trans (reportLink_keys _ _)).sameFocus

/-- FOCUS sets the focus, or during a hold the saved focus, to an eligible pane (R86, R120). -/
theorem doFocus_sameFocus (m : Master) (n : Nat) (s : State) :
    SameFocus s (doFocus m n s) ∨ s.eligible n = true ∧
      SameFocus (if s.router.hold ∧ s.alerts.stack ≠ [] then savedAs (some n) s else focused (some n) s)
        (doFocus m n s) := by
  have answer (result : Result) (values : List Byte) := (reply_keys m (.focus n) result values s).sameFocus
  unfold doFocus
  cases check : s.paneCheck m n with
  | error r => exact .inl (answer _ _)
  | ok p =>
    dsimp only
    by_cases can : s.eligible n = true
    · rw [if_pos can]
      refine .inr ⟨can, ?_⟩
      by_cases hold : s.router.hold = true
      · obtain ⟨-, -, stack, -, -, -, -, -, -, panes, attached, present⟩ := answer .deferred [byte n]
        rw [if_pos hold, deferredFocus, stack, eligible_congr panes attached present, if_pos can]
        by_cases empty : s.alerts.stack = []
        · rw [if_neg fun h => h.2 empty, if_pos empty]
          exact .trans (by simp [focused, Attached]) (setFocus_sameFocus (some n) _)
        · rw [if_pos ⟨hold, empty⟩, if_neg empty]
          simp [savedAs, can, Attached]
      · rw [if_neg hold, if_neg fun h => hold h.1]
        exact .trans (by simp [focused, Attached]) (setFocus_sameFocus (some n) _)
    · rw [if_neg can]
      exact .inl (answer _ _)

/-- RELEASE closes a LIVE pane and frees another (R19, R20). -/
theorem doRelease_sameFocus (m : Master) (n : Nat) (s : State) :
    SameFocus s (doRelease m n s) ∨ ∃ p, s.pane? n = some p ∧
      (p.phase = .live ∧ (∃ t, SameFocus (closePane n p s) t ∧ doRelease m n s = takeClosing t n) ∨
        p.phase ≠ .live ∧ SameFocus (freePane n p s) (doRelease m n s)) := by
  unfold doRelease
  cases check : s.paneCheck m n with
  | error r => exact .inl (reply_keys _ _ _ _ _).sameFocus
  | ok p =>
    have sent (t : State) := ((streamPaneGone_keys n t).trans (reply_keys m (.release n) .ok [] _)).sameFocus
    refine .inr ⟨p, (owned_of_paneCheck_ok check).1, ?_⟩
    dsimp only
    split
    · next live => exact .inl ⟨live, _, sent _, rfl⟩
    · next dead => exact .inr ⟨dead, sent _⟩

/-- The state with the vehicle unit present or not. -/
def vehicleThere (present : Bool) (s : State) : State := { s with vehicle := { s.vehicle with present := present } }

/-- The focus set to the alert focus (R113). -/
theorem setAlertFocus_sameFocus {s t : State} (same : SameFocus s t) :
    SameFocus (restacked s.alerts.stack s) (setFocus t.alertFocus t) := by
  refine .trans ?_ (setFocus_sameFocus _ t)
  have value : alertValue t = alertValue s := by
    obtain ⟨-, -, stack, -, -, -, -, -, -, panes, -, present⟩ := same
    exact alertValue_congr stack panes present
  rw [alertFocus_eq, value]
  simp only [SameFocus] at same
  simp +contextual [restacked, focused, stacked, same]

theorem alertReturn_sameFocus (s : State) :
    SameFocus (if s.alerts.stack = [] then s else restacked s.alerts.stack s) (alertReturn s) := by
  have waiting := (foldl_sameKeys (fun t n => handVehicle_keys (.notice (.alertAcknowledged n)) t)
    s.alerts.unreported s).sameFocus
  unfold alertReturn
  dsimp only
  split
  · next empty =>
    rw [if_pos (waiting.2.2.1.trans empty)]
    exact waiting.trans (by simp)
  · next full =>
    rw [if_neg fun empty => full (waiting.2.2.1.symm.trans empty)]
    exact setAlertFocus_sameFocus (waiting.trans (by simp))

/-- The vehicle unit's return gives the alert focus back during a hold (R121, R172). -/
theorem vehicleReturn_sameFocus (s : State) :
    SameFocus
      (if s.alerts.stack = [] then vehicleThere true s else restacked s.alerts.stack (vehicleThere true s))
      (vehicleReturn s) := by
  have flags := reportFlags_keys .vehicle (alertReturn (vehicleThere true s))
  have field : SameFocus (reportFlags .vehicle (alertReturn (vehicleThere true s))) (vehicleReturn s) := by
    simp [vehicleReturn, vehicleThere, Attached]
  exact (alertReturn_sameFocus (vehicleThere true s)).trans (flags.sameFocus.trans field)

/-! ### The walk for a property of the focus and the hold -/

/-- A property of the focus and the hold that each operation which touches one of them keeps. -/
structure FocusInvariant (P : State → Prop) : Prop where
  same : ∀ {s t}, P s → SameFocus s t → P t
  next : ∀ {s}, P s → P (focusNext s)
  acknowledge : ∀ {s}, P s → P (acknowledgePress s)
  focus : ∀ {s} m n, P s → P (doFocus m n s)
  claim : ∀ {s m ops n run}, P s → s.claimCheck m ops = .ok (n, run) → P (takeClaim n (claimedPane m ops run) s)
  stage : ∀ {s n p part}, P s → s.pane? n = some p → (p.cls = .alert → part.visible = p.staged.visible) →
    P (stage n p part s)
  ready : ∀ {s n p}, P s → s.pane? n = some p → p.phase = .preparing → P (s.setPane n (some { p with phase := .ready }))
  release : ∀ {s} m n, P s → P (doRelease m n s)
  attach : ∀ {s d}, P s → d.link = .up → P { s with dock := d }
  depart : ∀ {s}, P s → P (departure s)
  absent : ∀ {s}, P s → P (vehicleAbsence s)
  back : ∀ {s}, P s → P (vehicleReturn s)
  reset : ∀ ids1 ids0 pins scanOut converting link cells s, P (resetState ids1 ids0 pins scanOut converting link cells s)

namespace FocusInvariant

variable {P : State → Prop} (inv : FocusInvariant P)
include inv

/-- A key's DOWN by its role: FOCUS_NEXT and ALERT_ACK are the ones that act on the focus and the hold. -/
theorem keyDown (code : Nat) {s : State} (h : P s) : P (Machine.keyDown code s) := by
  have quiet : P (quieted code s) := inv.same h (quieted_keys code s).sameFocus
  have entry : P (keyHeld code (some .part) (quieted code s)) := inv.same quiet (by simp [keyHeld])
  rw [keyDown_eq]
  split
  · exact quiet
  · unfold roleActs
    split
    · exact quiet
    · exact inv.next entry
    · exact inv.same entry (brightnessStep_sameFocus _ _)
    · exact inv.same entry (brightnessStep_sameFocus _ _)
    · exact inv.acknowledge entry
    · exact inv.same quiet (routedDown_sameFocus code _)

theorem takeChange (c : KeyChange) {s : State} (h : P s) : P (Machine.takeChange s c) := by
  cases c with
  | down code => exact inv.same (inv.keyDown code h) (restartCountdown_keys _).sameFocus
  | up code => exact inv.same h (keyUp_sameFocus code s)

theorem takeCapture (raw : BitVec 128) {s : State} (h : P s) : P (Machine.takeCapture raw s) := by
  unfold Machine.takeCapture
  split
  · exact h
  · have captured : P { s with scanner := s.scanner.captured raw } :=
      inv.same h (by simp [Scanner.captured, Scanner.numbered])
    generalize ({ s with scanner := s.scanner.captured raw } : State) = t at captured
    generalize s.scanner.capturedCodes raw = codes
    induction codes generalizing t with
    | nil => exact captured
    | cons code codes ih => exact ih _ (inv.same captured (capturedDown_sameFocus code t))

/-- The operations on the keys and the scanner are among those of the walk over the commands. -/
theorem toKeyInvariant : KeyInvariant P where
  same h same := inv.same h same.sameFocus
  report m h := inv.same h (tryReport_sameFocus m _)
  repeats h := inv.same h (repeatExpires_sameFocus _)
  scan raw h := takeScan_holds (fun c => inv.takeChange c) h (inv.same h (by simp [Scanner.debounced, Scanner.numbered]))
  capture raw h := inv.takeCapture raw h
  park h := inv.same h (by simp [enterParked, Scanner.enterParked, allUp, Attached])
  leave h := inv.same h (by simp [leaveParked_eq])
  rescan h := inv.same h (by simp [restartScan, Scanner.restarted, allUp, Attached])
  focus := inv.focus
  claim := inv.claim
  stage := inv.stage
  ready := inv.ready
  release := inv.release
  attach := inv.attach
  depart := inv.depart
  absent := inv.absent
  back := inv.back
  reset := inv.reset

end FocusInvariant

/-! ### The hold (R89, R113, R137, R153) -/

/-- The numbers of positions, inputs and lines (R71, R145, R152). -/
def TablesKept (s : State) : Prop :=
  s.scanner.positions.length = 128 ∧ s.inputs.length = 5 ∧ s.lines.lines.length = 8

theorem tablesKept_of_holdKept {s : State} (kept : HoldKept s) : TablesKept s := by
  obtain ⟨-, -, -, positions, inputs, lines⟩ := kept
  exact ⟨positions, inputs, lines⟩

theorem tablesKept_of_same {s t : State} (kept : TablesKept s) (same : SameFocus s t) : TablesKept t := by
  obtain ⟨positions, inputs, lines⟩ := kept
  obtain ⟨-, -, -, -, -, -, lines', positions', inputs', -⟩ := same
  exact ⟨positions' positions, inputs'.trans inputs, lines'.trans lines⟩

theorem holdKept_of_same {s t : State} (kept : HoldKept s) (same : SameFocus s t) : HoldKept t := by
  have tables := tablesKept_of_same (tablesKept_of_holdKept kept) same
  obtain ⟨force, light, led, -⟩ := kept
  obtain ⟨-, hold, stack, -, light', led', -⟩ := same
  exact ⟨by rw [hold, stack, force], by rw [light', hold, light], by rw [led', hold, led], tables⟩

/-- The three blocks follow the stack. -/
theorem holdKept_heldFast {s : State} (tables : TablesKept s) {on : Bool} (stack : on = true ↔ s.alerts.stack ≠ []) :
    HoldKept (heldFast on s) := by
  obtain ⟨positions, inputs, lines⟩ := tables
  exact ⟨stack, rfl, by simp [heldFast, lines], positions, inputs, by simpa [heldFast] using lines⟩

theorem holdKept_holdEnded {s : State} (tables : TablesKept s) : HoldKept (holdEnded s) := by
  have ended : HoldKept (heldFast false (stacked [] s)) :=
    holdKept_heldFast (s := stacked [] s) tables (by simp [stacked])
  exact ended

theorem holdKept_holdBegun (n : Nat) {s : State} (tables : TablesKept s) : HoldKept (holdBegun n s) :=
  holdKept_heldFast (s := restacked [n] (savedAs s.router.focus s)) tables (by simp [restacked, focused, stacked])

/-- Another stack that is not empty. -/
theorem holdKept_restacked {s : State} (kept : HoldKept s) {stack : List Nat} (before : s.alerts.stack ≠ [])
    (after : stack ≠ []) : HoldKept (restacked stack s) := by
  obtain ⟨force, rest⟩ := kept
  exact ⟨iff_of_true (force.2 before) after, rest⟩

theorem holdKept_setFocus (v : Option Nat) {s : State} (kept : HoldKept s) : HoldKept (setFocus v s) :=
  holdKept_of_same (s := focused v s) kept (setFocus_sameFocus v s)

theorem holdKept_alertPaneLive (n : Nat) {s : State} (kept : HoldKept s) : HoldKept (alertPaneLive n s) := by
  cases record : s.pane? n with
  | none => simpa [alertPaneLive, record] using kept
  | some p =>
    by_cases alert : p.cls = .alert
    · refine holdKept_of_same ?_ (alertPaneLive_sameFocus record alert)
      split
      · exact holdKept_holdBegun n (tablesKept_of_holdKept kept)
      · next full => exact holdKept_restacked kept full (by simp)
    · rwa [alertPaneLive_of_normal record alert]

theorem holdKept_acknowledgePress {s : State} (kept : HoldKept s) : HoldKept (acknowledgePress s) := by
  cases stack : s.alerts.stack with
  | nil => simpa [acknowledgePress, stack] using kept
  | cons top rest =>
    refine holdKept_of_same ?_ (acknowledgePress_sameFocus stack)
    split
    · exact holdKept_holdEnded (tablesKept_of_holdKept kept)
    · next full => exact holdKept_restacked kept (by simp [stack]) full

theorem holdKept_dropSaved (n : Nat) {s : State} (kept : HoldKept s) : HoldKept (dropSaved n s) := by
  unfold dropSaved
  split <;> exact kept

theorem holdKept_routerPaneLost (n : Nat) {s : State} (kept : HoldKept s) : HoldKept (routerPaneLost n s) := by
  unfold routerPaneLost
  split
  · exact holdKept_setFocus _ kept
  · exact kept

theorem holdKept_takeClosing (n : Nat) {s : State} (kept : HoldKept s) : HoldKept (takeClosing s n) := by
  have lost : HoldKept (routerPaneLost n s) := holdKept_routerPaneLost n kept
  refine holdKept_of_same ?_ (alertPaneClosing_sameFocus n (routerPaneLost n s))
  generalize routerPaneLost n s = t at lost
  refine holdKept_dropSaved n ?_
  split_ifs with member empty top
  · exact holdKept_holdEnded (tablesKept_of_holdKept lost)
  · exact holdKept_restacked lost (List.ne_nil_of_mem member) empty
  · exact holdKept_restacked (s := t) lost (List.ne_nil_of_mem member) empty
  · exact lost

theorem holdKept_takeHidden (n : Nat) {s : State} (kept : HoldKept s) : HoldKept (takeHidden s n) :=
  holdKept_dropSaved n (holdKept_routerPaneLost n kept)

theorem holdKept_routerGone (m : Master) {s : State} (kept : HoldKept s) : HoldKept (routerGone m s) := by
  unfold routerGone
  dsimp only
  split
  · exact holdKept_setFocus _ (by simpa [HoldKept] using kept)
  · simpa [HoldKept] using kept

theorem holdKept_dropSavedOf (o : Owner) {s : State} (kept : HoldKept s) : HoldKept (dropSavedOf o s) := by
  unfold dropSavedOf
  split <;> exact kept

theorem holdKept_departure {s : State} (kept : HoldKept s) : HoldKept (departure s) := by
  have port : HoldKept (departPanes (portDeparture s)) := by
    obtain ⟨force, light, led, positions, inputs, lines⟩ := kept
    exact ⟨by simpa using force, by simpa using light, by simpa using led, by simpa using positions,
      by simpa using inputs, by simpa using lines⟩
  have dropped : HoldKept (alertDeparture (routerGone .tablet (departPanes (portDeparture s)))) :=
    holdKept_dropSavedOf _ (holdKept_routerGone .tablet port)
  exact holdKept_of_same (foldl_holds (fun n _ kept => holdKept_takeClosing n kept) s.tabletLive _ dropped)
    (departure_sameFocus s)

/-- The hold is kept by each operation on the focus and the hold. -/
theorem holdKept_invariant : FocusInvariant HoldKept where
  same := holdKept_of_same
  next kept := by
    unfold focusNext
    split_ifs
    · exact kept
    · split <;> exact holdKept_setFocus _ kept
  acknowledge := holdKept_acknowledgePress
  focus {s} m n kept := by
    obtain same | ⟨-, same⟩ := doFocus_sameFocus m n s
    · exact holdKept_of_same kept same
    · refine holdKept_of_same ?_ same
      split <;> exact kept
  claim kept _ := kept
  stage kept _ _ := kept
  ready kept _ _ := kept
  release {s} m n kept := by
    obtain same | ⟨p, -, ⟨-, t, same, closed⟩ | ⟨-, same⟩⟩ := doRelease_sameFocus m n s
    · exact holdKept_of_same kept same
    · rw [closed]
      exact holdKept_takeClosing n (holdKept_of_same (s := closePane n p s) kept same)
    · refine holdKept_of_same ?_ same
      simpa [HoldKept] using kept
  attach kept _ := kept
  depart := holdKept_departure
  absent {s} kept := by simpa [HoldKept] using kept
  back {s} kept := by simpa [HoldKept] using kept
  reset ids1 ids0 pins scanOut converting link cells s :=
    ⟨by simp [resetState, Router.afterReset, Alerts.afterReset], rfl, rfl, rfl, rfl, rfl⟩

theorem holdKept_takeBoundary {s : State} (kept : HoldKept s) : HoldKept (takeBoundary s) := by
  have laid : HoldKept { boundaryLayout s with scanOut := s.scanOut.nextFrame } := by
    simpa [HoldKept] using kept
  rw [takeBoundary_eq]
  exact foldl_holds (fun n _ kept => holdKept_takeHidden n kept) _ _
    (foldl_holds (fun n _ kept => holdKept_alertPaneLive n kept) _ _ laid)

end Sys2Proof.Proofs

/-! ## Every step keeps the focus, the alert stack and the saved focus (R84, R112, R119) -/

namespace Sys2Proof.Proofs

open Sys2Proof.Machine Sys2Proof.Safety

/-! ### Eligible panes and the alert focus -/

theorem eligible_iff (s : State) (n : Nat) :
    s.eligible n = true ↔ ∃ p, s.pane? n = some p ∧ p.phase = .live ∧ p.visible = true ∧ p.acceptsKeys = true ∧
      s.present p.owner = true := by
  unfold State.eligible
  cases s.pane? n <;> simp [and_assoc]

theorem alertValue_eq_some {s : State} {n : Nat} (h : alertValue s = some n) :
    s.alerts.stack.head? = some n ∧ s.vehicle.present = true ∧ ∃ p, s.pane? n = some p ∧ p.acceptsKeys = true := by
  unfold alertValue at h
  split at h
  · next accepts => simpa [h, Option.any_eq_true, and_comm] using accepts
  · cases h

/-- Pane `n` is a LIVE ALERT pane. -/
def LiveAlert (s : State) (n : Nat) : Prop := ∃ p, s.pane? n = some p ∧ p.phase = .live ∧ p.cls = .alert

/-- ALERT panes are the vehicle unit's and shown (R8, R9, R15). -/
def AlertsShown (s : State) : Prop :=
  ∀ n p, s.pane? n = some p → p.cls = .alert → p.owner = .vehicle ∧ p.visible = true ∧ p.staged.visible = none

/-! ### The invariant, but for the panes that a step takes away -/

/-- The invariant of the focus, with panes `lost` of which the focus, the stack and the saved focus do not yet know. -/
structure FocusBut (lost : Nat → Prop) (s : State) : Prop where
  focus : ∀ n, s.router.focus = some n → s.eligible n = true ∨ lost n
  hold : s.router.hold = true ↔ s.alerts.stack ≠ []
  apart : s.alerts.stack.Nodup
  live : ∀ n ∈ s.alerts.stack, LiveAlert s n ∨ lost n
  free : s.router.hold = false → s.alerts.saved = none
  saved : ∀ n, s.alerts.saved = some n → s.eligible n = true ∨ lost n
  shown : AlertsShown s

/-- During a hold the focus is the alert focus (R113). -/
def AlertFocused (s : State) : Prop := s.router.hold = true → s.router.focus = alertValue s

theorem focusKept_iff (s : State) : FocusKept s ↔ FocusBut (fun _ => False) s ∧ AlertFocused s := by
  constructor
  · rintro ⟨focus, hold, alert, apart, live, free, saved, shown⟩
    exact ⟨⟨fun n h => .inl (focus n h), hold, apart, fun n h => .inl (live n h), free, fun n h => .inl (saved n h),
      shown⟩, alert⟩
  · rintro ⟨⟨focus, hold, apart, live, free, saved, shown⟩, alert⟩
    exact ⟨fun n h => (focus n h).resolve_right id, hold, alert, apart, fun n h => (live n h).resolve_right id, free,
      fun n h => (saved n h).resolve_right id, shown⟩

theorem FocusBut.mono {lost gone : Nat → Prop} {s : State} (kept : FocusBut lost s) (h : ∀ n, lost n → gone n) :
    FocusBut gone s where
  focus n hn := (kept.focus n hn).imp_right (h n)
  hold := kept.hold
  apart := kept.apart
  live n hn := (kept.live n hn).imp_right (h n)
  free := kept.free
  saved n hn := (kept.saved n hn).imp_right (h n)
  shown := kept.shown

theorem FocusBut.same {lost : Nat → Prop} {s t : State} (kept : FocusBut lost s) (same : SameFocus s t) :
    FocusBut lost t := by
  obtain ⟨focus, hold, stack, saved, -, -, -, -, -, panes, attached, present⟩ := same
  have can := eligible_congr panes attached present
  have record (n : Nat) : t.pane? n = s.pane? n := pane?_congr panes n
  refine ⟨?_, by rw [hold, stack]; exact kept.hold, stack ▸ kept.apart, ?_, by rw [hold, saved]; exact kept.free, ?_, ?_⟩
  · rw [focus, can]; exact kept.focus
  · simp only [stack, LiveAlert, record]; exact kept.live
  · rw [saved, can]; exact kept.saved
  · simp only [AlertsShown, record]; exact kept.shown

theorem AlertFocused.same {s t : State} (alert : AlertFocused s) (same : SameFocus s t) : AlertFocused t := by
  obtain ⟨focus, hold, stack, -, -, -, -, -, -, panes, -, present⟩ := same
  rw [AlertFocused, hold, focus, alertValue_congr stack panes present]
  exact alert

theorem focusKept_of_same {s t : State} (kept : FocusKept s) (same : SameFocus s t) : FocusKept t := by
  rw [focusKept_iff] at kept ⊢
  exact ⟨kept.1.same same, kept.2.same same⟩

/-! ### States in a hold and outside one -/

/-- In a hold the focus is on the top pane of the stack, which is eligible if it is a LIVE ALERT pane. -/
theorem focusBut_of_hold {lost : Nat → Prop} {s : State} (hold : s.router.hold = true) (full : s.alerts.stack ≠ [])
    (focus : AlertFocused s) (apart : s.alerts.stack.Nodup) (live : ∀ n ∈ s.alerts.stack, LiveAlert s n ∨ lost n)
    (saved : ∀ n, s.alerts.saved = some n → s.eligible n = true ∨ lost n) (shown : AlertsShown s) : FocusBut lost s where
  focus n hn := by
    obtain ⟨top, present, p, hp, accepts⟩ := alertValue_eq_some ((focus hold).symm.trans hn)
    refine (live n (List.mem_of_mem_head? top)).imp_left fun ⟨q, hq, phase, cls⟩ => ?_
    obtain rfl : p = q := Option.some.inj (hp.symm.trans hq)
    obtain ⟨owner, visible, -⟩ := shown n p hp cls
    exact (eligible_iff s n).2 ⟨p, hp, phase, visible, accepts, by rw [owner]; exact present⟩
  hold := iff_of_true hold full
  apart := apart
  live := live
  free off := absurd (hold.symm.trans off) nofun
  saved := saved
  shown := shown

theorem focusBut_of_free {lost : Nat → Prop} {s : State} (off : s.router.hold = false) (empty : s.alerts.stack = [])
    (focus : ∀ n, s.router.focus = some n → s.eligible n = true ∨ lost n) (saved : s.alerts.saved = none)
    (shown : AlertsShown s) : FocusBut lost s where
  focus := focus
  hold := iff_of_false (by simp [off]) (by simp [empty])
  apart := empty ▸ .nil
  live := by simp [empty]
  free _ := saved
  saved := by simp [saved]
  shown := shown

theorem alertFocused_of_free {s : State} (off : s.router.hold = false) : AlertFocused s :=
  fun hold => absurd (hold.symm.trans off) nofun

/-- A hold goes on over another stack. -/
theorem focusBut_restacked {lost : Nat → Prop} {s : State} (hold : s.router.hold = true) {stack : List Nat}
    (full : stack ≠ []) (apart : stack.Nodup) (live : ∀ n ∈ stack, LiveAlert s n ∨ lost n)
    (saved : ∀ n, s.alerts.saved = some n → s.eligible n = true ∨ lost n) (shown : AlertsShown s) :
    FocusBut lost (restacked stack s) ∧ AlertFocused (restacked stack s) := by
  have focus : AlertFocused (restacked stack s) := fun _ => rfl
  exact ⟨focusBut_of_hold hold full focus apart live saved shown, focus⟩

/-- A hold that ends gives the focus to an eligible pane (R115). -/
theorem focusBut_holdEnded {lost : Nat → Prop} {s : State} (shown : AlertsShown s) :
    FocusBut lost (holdEnded s) ∧ AlertFocused (holdEnded s) := by
  refine ⟨focusBut_of_free rfl rfl (fun n hn => .inl ?_) rfl shown, alertFocused_of_free rfl⟩
  change s.returnFocus = some n at hn
  change s.eligible n = true
  unfold State.returnFocus at hn
  split at hn
  · split at hn
    · next can => cases hn; exact can
    · exact eligible_of_ring_head hn
  · exact eligible_of_ring_head hn

/-- A hold begins with a LIVE ALERT pane and saves the focus (R114). -/
theorem FocusBut.holdBegun {lost : Nat → Prop} {s : State} (kept : FocusBut lost s) {n : Nat} (live : LiveAlert s n) :
    FocusBut lost (holdBegun n s) ∧ AlertFocused (holdBegun n s) := by
  have focus : AlertFocused (Proofs.holdBegun n s) := fun _ => rfl
  refine ⟨focusBut_of_hold rfl (List.cons_ne_nil n []) focus (List.nodup_singleton n) (fun k hk => ?_) kept.focus
    kept.shown, focus⟩
  obtain rfl := List.mem_singleton.1 hk
  exact .inl live

/-- Outside a hold, the focus goes to an eligible pane or to none. -/
theorem FocusBut.focused {lost gone : Nat → Prop} {s : State} (kept : FocusBut lost s) (off : s.router.hold = false)
    {v : Option Nat} (can : ∀ n, v = some n → s.eligible n = true ∨ gone n) : FocusBut gone (focused v s) := by
  refine focusBut_of_free off ?_ can (kept.free off) kept.shown
  by_contra full
  simpa [off] using kept.hold.2 full

/-! ### Panes that close or are hidden -/

/-- The Key Router's fix-up takes the focus off pane `n`; during a hold it takes the alert focus off the top pane (R88). -/
theorem FocusBut.routerPaneLost {lost : Nat → Prop} {s : State} (kept : FocusBut lost s) (alert : AlertFocused s) (n : Nat) :
    FocusBut lost (routerPaneLost n s) ∧
      (∀ k, (Machine.routerPaneLost n s).router.focus = some k →
        (Machine.routerPaneLost n s).eligible k = true ∨ lost k ∧ k ≠ n) ∧
      (s.alerts.stack.head? ≠ some n → AlertFocused (Machine.routerPaneLost n s)) := by
  unfold Machine.routerPaneLost fixUp
  split
  · next on =>
    by_cases hold : s.router.hold = true
    · rw [if_pos hold]
      have same := setFocus_sameFocus none s
      have unfocused : FocusBut lost (Proofs.focused none s) := { kept with focus := nofun }
      refine ⟨unfocused.same same, fun k hk => absurd (same.1.symm.trans hk) nofun, fun other => ?_⟩
      exact absurd (alertValue_eq_some ((alert hold).symm.trans on)).1 other
    · rw [if_neg hold]
      have off : s.router.hold = false := by simpa using hold
      have moved : FocusBut (fun _ => False) (Proofs.focused s.ring.head? s) :=
        kept.focused off fun k hk => .inl (eligible_of_ring_head hk)
      have settled := moved.same (setFocus_sameFocus s.ring.head? s)
      refine ⟨settled.mono nofun, fun k hk => (settled.focus k hk).imp_right False.elim, fun _ => ?_⟩
      exact (alertFocused_of_free (s := Proofs.focused s.ring.head? s) off).same (setFocus_sameFocus _ s)
  · next off =>
    exact ⟨kept, fun k hk => (kept.focus k hk).imp_right fun gone => ⟨gone, fun same => off (same ▸ hk)⟩, fun _ => alert⟩

theorem dropSaved_eq_savedAs (n : Nat) (s : State) : dropSaved n s = savedAs (s.alerts.saved.filter (· != n)) s := by
  unfold dropSaved
  split
  · next saved => simp [savedAs, saved, Option.filter]
  · next other =>
    have same : s.alerts.saved.filter (· != n) = s.alerts.saved := by
      cases saved : s.alerts.saved with
      | none => rfl
      | some k => simp_all [Option.filter]
    simp [savedAs, same]

/-- What is dropped from the saved focus is known there from then on. -/
theorem saved_filter {lost : Nat → Prop} {s : State} (kept : FocusBut lost s) {n k : Nat}
    (saved : s.alerts.saved.filter (· != n) = some k) : s.eligible k = true ∨ lost k ∧ k ≠ n := by
  obtain ⟨saved, other⟩ := Option.filter_eq_some_iff.1 saved
  exact (kept.saved k saved).imp_right fun gone => ⟨gone, by simpa using other⟩

/-- Where the focus and the stack know of pane `n` already, the saved focus is told last. -/
theorem FocusBut.savedFiltered {lost : Nat → Prop} {s : State} (kept : FocusBut lost s) {n : Nat}
    (focus : ∀ k, s.router.focus = some k → s.eligible k = true ∨ lost k ∧ k ≠ n) (absent : n ∉ s.alerts.stack) :
    FocusBut (fun k => lost k ∧ k ≠ n) (savedAs (s.alerts.saved.filter (· != n)) s) where
  focus := focus
  hold := kept.hold
  apart := kept.apart
  live k hk := (kept.live k hk).imp_right fun gone => ⟨gone, fun same => absent (same ▸ hk)⟩
  free off := congrArg (Option.filter (· != n)) (kept.free off)
  saved _ := saved_filter kept
  shown := kept.shown

/-- The Alert Controller's part in the closing of pane `n` (R118): the stack and the saved focus then know of it. -/
theorem FocusBut.alertPaneClosing {lost : Nat → Prop} {s : State} (kept : FocusBut lost s) {n : Nat}
    (focus : ∀ k, s.router.focus = some k → s.eligible k = true ∨ lost k ∧ k ≠ n)
    (alert : s.alerts.stack.head? ≠ some n → AlertFocused s) :
    FocusBut (fun k => lost k ∧ k ≠ n) (alertPaneClosing n s) ∧ AlertFocused (Machine.alertPaneClosing n s) := by
  have settled {t : State} (h : FocusBut (fun k => lost k ∧ k ≠ n) t ∧ AlertFocused t)
      (same : SameFocus t (Machine.alertPaneClosing n s)) :
      FocusBut (fun k => lost k ∧ k ≠ n) (Machine.alertPaneClosing n s) ∧
        AlertFocused (Machine.alertPaneClosing n s) := ⟨h.1.same same, h.2.same same⟩
  have apart : (s.alerts.stack.filter (· != n)).Nodup := kept.apart.filter _
  have live : ∀ k ∈ s.alerts.stack.filter (· != n), LiveAlert s k ∨ lost k ∧ k ≠ n := fun k hk => by
    obtain ⟨member, other⟩ := List.mem_filter.1 hk
    exact (kept.live k member).imp_right fun gone => ⟨gone, by simpa using other⟩
  have hold (member : n ∈ s.alerts.stack) : s.router.hold = true := kept.hold.2 (List.ne_nil_of_mem member)
  refine settled ?_ (alertPaneClosing_sameFocus n s)
  rw [dropSaved_eq_savedAs]
  split_ifs with member empty top
  · exact focusBut_holdEnded (s := s) kept.shown
  · exact focusBut_restacked (s := savedAs (s.alerts.saved.filter (· != n)) s) (hold member) empty apart live
      (fun k => saved_filter kept) kept.shown
  · have top' : (s.alerts.stack.filter (· != n)).head? = s.alerts.stack.head? := by
      cases stack : s.alerts.stack with
      | nil => rfl
      | cons k rest =>
        have other : k ≠ n := by simpa [stack] using top
        simp [other]
    have focused : AlertFocused (savedAs (s.alerts.saved.filter (· != n)) (stacked (s.alerts.stack.filter (· != n)) s)) := by
      intro _
      change s.router.focus = _
      rw [alert top (hold member), alertValue, alertValue, ← top']
      rfl
    exact ⟨focusBut_of_hold (hold member) empty focused apart live (fun k => saved_filter kept) kept.shown, focused⟩
  · exact ⟨kept.savedFiltered focus member, alert fun top => member (List.mem_of_mem_head? top)⟩

/-- A pane that closes: the focus, the stack and the saved focus then know of it (R88, R118). -/
theorem FocusBut.takeClosing {lost : Nat → Prop} {s : State} (kept : FocusBut lost s) (alert : AlertFocused s) (n : Nat) :
    FocusBut (fun k => lost k ∧ k ≠ n) (takeClosing s n) ∧ AlertFocused (Machine.takeClosing s n) := by
  obtain ⟨kept, focus, alert⟩ := kept.routerPaneLost alert n
  exact kept.alertPaneClosing focus (by simpa using alert)

theorem focusKept_takeClosing (n : Nat) {s : State} (kept : FocusKept s) : FocusKept (takeClosing s n) := by
  rw [focusKept_iff] at kept ⊢
  obtain ⟨kept, alert⟩ := kept.1.takeClosing kept.2 n
  exact ⟨kept.mono fun k hk => hk.1, alert⟩

/-- A pane that is hidden: the focus and the saved focus then know of it (R88, R119). The stack holds no such pane. -/
theorem FocusBut.takeHidden {lost : Nat → Prop} {s : State} (kept : FocusBut lost s) (alert : AlertFocused s) {n : Nat}
    (absent : n ∉ s.alerts.stack) :
    FocusBut (fun k => lost k ∧ k ≠ n) (takeHidden s n) ∧ AlertFocused (Machine.takeHidden s n) := by
  obtain ⟨kept, focus, alert⟩ := kept.routerPaneLost alert n
  rw [Machine.takeHidden, dropSaved_eq_savedAs]
  exact ⟨kept.savedFiltered focus (by simpa using absent), alert fun top => absent (List.mem_of_mem_head? top)⟩

/-! ### Changes of the pane table -/

/-- Each LIVE pane is there still with its owner, class and acceptance of keys; it is one of `lost`, or LIVE, shown and of a
present owner as before. -/
def PanesStay (lost : Nat → Prop) (s t : State) : Prop :=
  ∀ n p, s.pane? n = some p → p.phase = .live → ∃ q, t.pane? n = some q ∧
    q.owner = p.owner ∧ q.cls = p.cls ∧ q.acceptsKeys = p.acceptsKeys ∧
    (lost n ∨ q.phase = .live ∧ (p.visible = true → q.visible = true) ∧
      (s.present p.owner = true → t.present p.owner = true))

/-- The focus, the hold, the stack and the saved focus are the same. -/
def SameHolders (s t : State) : Prop :=
  t.router.focus = s.router.focus ∧ t.router.hold = s.router.hold ∧ t.alerts.stack = s.alerts.stack ∧
    t.alerts.saved = s.alerts.saved

theorem PanesStay.eligible {lost : Nat → Prop} {s t : State} (stay : PanesStay lost s t) {n : Nat}
    (can : s.eligible n = true) : t.eligible n = true ∨ lost n := by
  obtain ⟨p, hp, phase, visible, accepts, present⟩ := (eligible_iff s n).1 can
  obtain ⟨q, hq, owner, -, keys, gone | ⟨phase', visible', present'⟩⟩ := stay n p hp phase
  · exact .inr gone
  · exact .inl ((eligible_iff t n).2 ⟨q, hq, phase', visible' visible, keys.trans accepts, owner ▸ present' present⟩)

theorem PanesStay.liveAlert {lost : Nat → Prop} {s t : State} (stay : PanesStay lost s t) {n : Nat}
    (live : LiveAlert s n) : LiveAlert t n ∨ lost n := by
  obtain ⟨p, hp, phase, cls⟩ := live
  obtain ⟨q, hq, -, cls', -, gone | ⟨phase', -, -⟩⟩ := stay n p hp phase
  · exact .inr gone
  · exact .inl ⟨q, hq, phase', cls'.trans cls⟩

theorem liveAlert_of_focusKept {s : State} (kept : FocusKept s) {n : Nat} (member : n ∈ s.alerts.stack) : LiveAlert s n := by
  obtain ⟨-, -, -, -, live, -⟩ := kept
  exact live n member

/-- What a change of the pane table leaves of the invariant. -/
theorem focusBut_of_panesStay {lost : Nat → Prop} {s t : State} (kept : FocusKept s) (stay : PanesStay lost s t)
    (holders : SameHolders s t) (shown : AlertsShown t) : FocusBut lost t := by
  obtain ⟨focus, hold, stack, saved⟩ := holders
  obtain ⟨kept, -⟩ := (focusKept_iff s).1 kept
  refine ⟨fun n hn => ?_, by rw [hold, stack]; exact kept.hold, stack ▸ kept.apart, fun n hn => ?_,
    by rw [hold, saved]; exact kept.free, fun n hn => ?_, shown⟩
  · exact stay.eligible ((kept.focus n (focus ▸ hn)).resolve_right id)
  · exact stay.liveAlert ((kept.live n (stack ▸ hn)).resolve_right id)
  · exact stay.eligible ((kept.saved n (saved ▸ hn)).resolve_right id)

theorem alertFocused_of_panesStay {lost : Nat → Prop} {s t : State} (kept : FocusKept s) (stay : PanesStay lost s t)
    (holders : SameHolders s t) (present : t.vehicle.present = s.vehicle.present) : AlertFocused t := by
  obtain ⟨focus, hold, stack, -⟩ := holders
  obtain ⟨-, alert⟩ := (focusKept_iff s).1 kept
  have value : alertValue t = alertValue s := by
    unfold alertValue
    rw [stack, present]
    cases top : s.alerts.stack.head? with
    | none => rfl
    | some n =>
      obtain ⟨p, hp, phase, -⟩ := liveAlert_of_focusKept kept (List.mem_of_mem_head? top)
      obtain ⟨q, hq, -, -, keys, -⟩ := stay n p hp phase
      simp [hp, hq, keys]
  rw [AlertFocused, hold, focus, value]
  exact alert

/-- A pane table without losses. -/
theorem focusKept_of_panesStay {s t : State} (kept : FocusKept s) (stay : PanesStay (fun _ => False) s t)
    (holders : SameHolders s t) (shown : AlertsShown t) (present : t.vehicle.present = s.vehicle.present) :
    FocusKept t :=
  (focusKept_iff t).2 ⟨focusBut_of_panesStay kept stay holders shown, alertFocused_of_panesStay kept stay holders present⟩

theorem shown_of_focusKept {s : State} (kept : FocusKept s) : AlertsShown s := ((focusKept_iff s).1 kept).1.shown

/-- One record becomes another one. -/
theorem panesStay_of_record {lost : Nat → Prop} {s t : State} {n : Nat} {r : Option Pane}
    (records : ∀ k, t.pane? k = if k = n then r else s.pane? k) (present : ∀ o, t.present o = s.present o)
    (stays : ∀ p, s.pane? n = some p → p.phase = .live → ∃ q, r = some q ∧ q.owner = p.owner ∧ q.cls = p.cls ∧
      q.acceptsKeys = p.acceptsKeys ∧ (lost n ∨ q.phase = .live ∧ (p.visible = true → q.visible = true))) :
    PanesStay lost s t := by
  intro k p hp phase
  rw [records]
  split
  · next same =>
    subst same
    obtain ⟨q, hq, owner, cls, keys, rest⟩ := stays p hp phase
    exact ⟨q, hq, owner, cls, keys, rest.imp_right fun ⟨phase, visible⟩ => ⟨phase, visible, (present _).trans⟩⟩
  · exact ⟨p, hp, rfl, rfl, rfl, .inr ⟨phase, id, (present _).trans⟩⟩

theorem alertsShown_of_record {s t : State} {n : Nat} {r : Option Pane} (shown : AlertsShown s)
    (records : ∀ k, t.pane? k = if k = n then r else s.pane? k)
    (record : ∀ q, r = some q → q.cls = .alert → q.owner = .vehicle ∧ q.visible = true ∧ q.staged.visible = none) :
    AlertsShown t := by
  intro k q hq cls
  rw [records] at hq
  split at hq
  · exact record q hq cls
  · exact shown k q hq cls

/-! ### The operations -/

theorem focusKept_setFocus {s : State} (kept : FocusKept s) (off : s.router.hold = false) {v : Option Nat}
    (can : ∀ n, v = some n → s.eligible n = true) : FocusKept (setFocus v s) := by
  obtain ⟨kept, -⟩ := (focusKept_iff s).1 kept
  refine focusKept_of_same (s := focused v s) ((focusKept_iff _).2 ⟨?_, alertFocused_of_free off⟩) (setFocus_sameFocus v s)
  exact kept.focused off fun n hn => .inl (can n hn)

/-- The ring's entries are eligible, and the next one of the ring is one of them (R84, R87). -/
theorem eligible_of_nextIn {s : State} {n k : Nat} (next : nextIn s.ring n = some k) : s.eligible k = true := by
  have member : k ∈ s.ring := by
    unfold nextIn at next
    split at next
    · next rest tail =>
      cases next
      exact List.dropWhile_sublist _ |>.subset (List.mem_of_mem_tail (tail ▸ List.mem_cons_self))
    · exact List.mem_of_mem_head? next
  exact (List.mem_filter.1 member).2

theorem focusKept_focusNext {s : State} (kept : FocusKept s) : FocusKept (focusNext s) := by
  unfold focusNext
  split
  · exact kept
  · next off =>
    have off : s.router.hold = false := by simpa using off
    split
    · exact focusKept_setFocus kept off fun n => eligible_of_ring_head
    · exact focusKept_setFocus kept off fun n => eligible_of_nextIn

theorem focusKept_acknowledgePress {s : State} (kept : FocusKept s) : FocusKept (acknowledgePress s) := by
  cases stack : s.alerts.stack with
  | nil => simpa [acknowledgePress, stack] using kept
  | cons top rest =>
    refine focusKept_of_same ((focusKept_iff _).2 ?_) (acknowledgePress_sameFocus stack)
    obtain ⟨but, -⟩ := (focusKept_iff s).1 kept
    split
    · exact focusBut_holdEnded but.shown
    · next full =>
      have apart : rest.Nodup := (List.nodup_cons.1 (stack ▸ but.apart)).2
      exact focusBut_restacked (but.hold.2 (by simp [stack])) full apart
        (fun n hn => but.live n (by simp [stack, hn])) but.saved but.shown

theorem focusKept_doFocus (m : Master) (n : Nat) {s : State} (kept : FocusKept s) : FocusKept (doFocus m n s) := by
  obtain same | ⟨can, same⟩ := doFocus_sameFocus m n s
  · exact focusKept_of_same kept same
  · refine focusKept_of_same ((focusKept_iff _).2 ?_) same
    obtain ⟨but, alert⟩ := (focusKept_iff s).1 kept
    split
    · next hold =>
      refine ⟨{ but with free := fun off => ?_, saved := fun k hk => ?_ }, alert⟩
      · exact absurd (hold.1.symm.trans off) nofun
      · obtain rfl := Option.some.inj hk
        exact .inl can
    · next free =>
      have off : s.router.hold = false := by
        by_contra on
        have on : s.router.hold = true := by simpa using on
        exact free ⟨on, but.hold.1 on⟩
      refine ⟨but.focused off fun k hk => ?_, alertFocused_of_free off⟩
      obtain rfl := Option.some.inj hk
      exact .inl can

/-- A CLAIM that passes R8 has a defined class, and NORMAL for the tablet (R8 steps 1 and 2). -/
theorem class_of_claimCheck_ok {m : Master} {ops : ClaimOps} {s : State} {n : Nat} {run : Run}
    (check : s.claimCheck m ops = .ok (n, run)) : ops.cls ≤ 1 ∧ (ops.cls = 1 → m = .vehicle) := by
  unfold State.claimCheck at check
  cases refusal : kindClassRefusal m ops with
  | some r => simp [refusal] at check
  | none =>
    cases bad : valuesBad ops (pixelWindow m ops.window) with
    | true => simp [refusal, bad] at check
    | false =>
      simp only [valuesBad, Bool.or_eq_false_iff, decide_eq_false_iff_not, not_lt] at bad
      obtain ⟨⟨⟨⟨-, kind⟩, cls⟩, -⟩, -⟩ := bad
      refine ⟨cls, fun one => ?_⟩
      cases m with
      | tablet => simp [kindClassRefusal, kind, one] at refusal
      | vehicle => rfl

theorem focusKept_takeClaim {s : State} {m : Master} {ops : ClaimOps} {n : Nat} {run : Run} (kept : FocusKept s)
    (check : s.claimCheck m ops = .ok (n, run)) : FocusKept (takeClaim n (claimedPane m ops run) s) := by
  obtain ⟨-, free, -⟩ := claimCheck_ok_imp check
  have none : s.pane? n = none := by simp [State.pane?, free]
  have inTable : n < s.layout.panes.length := (List.getElem?_eq_some_iff.1 free).1
  have records := pane?_of_set (s := s) (t := takeClaim n (claimedPane m ops run) s)
    (r := some (claimedPane m ops run)) rfl inTable
  refine focusKept_of_panesStay kept (panesStay_of_record records (fun _ => rfl) ?_) ⟨rfl, rfl, rfl, rfl⟩
    (alertsShown_of_record (shown_of_focusKept kept) records ?_) rfl
  · simp [none]
  · rintro q hq cls
    obtain rfl := Option.some.inj hq
    obtain ⟨defined, vehicle⟩ := class_of_claimCheck_ok check
    have one : ops.cls = 1 := by
      by_contra other
      have zero : ops.cls = 0 := by omega
      simp [claimedPane, classOf, zero] at cls
    obtain rfl := vehicle one
    simp [claimedPane, one, masterOwner, PendingPart.absent]

theorem focusKept_stage {s : State} {n : Nat} {p : Pane} {part : PendingPart} (kept : FocusKept s)
    (record : s.pane? n = some p) (alert : p.cls = .alert → part.visible = p.staged.visible) :
    FocusKept (stage n p part s) := by
  have records := pane?_setPane record (some { p with staged := part })
  refine focusKept_of_panesStay kept (panesStay_of_record records (fun _ => rfl) fun q hq live => ?_)
    ⟨rfl, rfl, rfl, rfl⟩ (alertsShown_of_record (shown_of_focusKept kept) records ?_) rfl
  · obtain rfl : p = q := Option.some.inj (record.symm.trans hq)
    exact ⟨_, rfl, rfl, rfl, rfl, .inr ⟨live, id⟩⟩
  · rintro q hq cls
    obtain rfl := Option.some.inj hq
    obtain ⟨owner, visible, staged⟩ := shown_of_focusKept kept n p record cls
    exact ⟨owner, visible, (alert cls).trans staged⟩

theorem focusKept_ready {s : State} {n : Nat} {p : Pane} (kept : FocusKept s) (record : s.pane? n = some p)
    (preparing : p.phase = .preparing) : FocusKept (s.setPane n (some { p with phase := .ready })) := by
  have records := pane?_setPane record (some { p with phase := .ready })
  refine focusKept_of_panesStay kept (panesStay_of_record records (fun _ => rfl) fun q hq live => ?_)
    ⟨rfl, rfl, rfl, rfl⟩ (alertsShown_of_record (shown_of_focusKept kept) records ?_) rfl
  · obtain rfl : p = q := Option.some.inj (record.symm.trans hq)
    cases preparing.symm.trans live
  · rintro q hq cls
    obtain rfl := Option.some.inj hq
    exact shown_of_focusKept kept n p record cls

theorem focusKept_freePane {s : State} {n : Nat} {p : Pane} (kept : FocusKept s) (record : s.pane? n = some p)
    (dead : p.phase ≠ .live) : FocusKept (freePane n p s) := by
  have records := pane?_of_set (congrArg Layout.panes (freePane_layout n p s)) (lt_length_of_pane? record)
  have present : ∀ o, (freePane n p s).present o = s.present o := by rintro ⟨⟩ <;> simp [State.present, State.tabletPresent]
  refine focusKept_of_panesStay kept (panesStay_of_record records present fun q hq live => ?_)
    (by simp [SameHolders]) (alertsShown_of_record (shown_of_focusKept kept) records nofun) (by simp)
  obtain rfl : p = q := Option.some.inj (record.symm.trans hq)
  exact absurd live dead

/-- The closing of pane `n` takes it from the focus, the stack and the saved focus, before the two blocks take the event. -/
theorem focusBut_closePane {s : State} {n : Nat} {p : Pane} (kept : FocusKept s) (record : s.pane? n = some p) :
    FocusBut (· = n) (closePane n p s) ∧ AlertFocused (closePane n p s) := by
  have records := pane?_of_set (congrArg Layout.panes (closePane_layout n p s)) (lt_length_of_pane? record)
  have stay : PanesStay (· = n) s (closePane n p s) := by
    refine panesStay_of_record records (fun o => by cases o <;> rfl) fun q hq _ => ?_
    obtain rfl : p = q := Option.some.inj (record.symm.trans hq)
    exact ⟨_, rfl, rfl, rfl, rfl, .inl rfl⟩
  have holders : SameHolders s (closePane n p s) := ⟨rfl, rfl, rfl, rfl⟩
  refine ⟨focusBut_of_panesStay kept stay holders (alertsShown_of_record (shown_of_focusKept kept) records ?_),
    alertFocused_of_panesStay kept stay holders rfl⟩
  rintro q hq cls
  obtain rfl := Option.some.inj hq
  obtain ⟨owner, visible, -⟩ := shown_of_focusKept kept n p record cls
  exact ⟨owner, visible, rfl⟩

theorem focusKept_doRelease (m : Master) (n : Nat) {s : State} (kept : FocusKept s) : FocusKept (doRelease m n s) := by
  obtain same | ⟨p, record, ⟨-, t, same, closed⟩ | ⟨dead, same⟩⟩ := doRelease_sameFocus m n s
  · exact focusKept_of_same kept same
  · obtain ⟨but, alert⟩ := focusBut_closePane kept record
    obtain ⟨but, alert⟩ := (but.same same).takeClosing (alert.same same) n
    rw [closed, focusKept_iff]
    exact ⟨but.mono fun k hk => hk.2 hk.1, alert⟩
  · exact focusKept_of_same (focusKept_freePane kept record dead) same

end Sys2Proof.Proofs

/-! ## The links, the frame boundary and the focus (R23 to R25, R107, R108, R121, R122) -/

namespace Sys2Proof.Proofs

open Sys2Proof.Machine Sys2Proof.Safety

/-! ### The tablet departs (R107, R122, R161) -/

theorem routerEmptied_sameFocus (m : Master) (s : State) : SameFocus s (routerEmptied m s) := by
  cases m <;> simp [routerEmptied]

/-- The Key Router moves the focus off the panes of a master that is gone (R107, R108). -/
theorem routerGone_sameFocus (m : Master) (s : State) :
    SameFocus
      (if ownerAt s.router.focus s = some (masterOwner m) then focused (if s.router.hold then none else s.ring.head?) s
        else s)
      (routerGone m s) := by
  have same := routerEmptied_sameFocus m s
  have ring : (routerEmptied m s).ring = s.ring := by cases m <;> rfl
  have owner (n : Option Nat) : ownerAt n (routerEmptied m s) = ownerAt n s := by cases m <;> rfl
  obtain ⟨focus, hold, -⟩ := id same
  rw [routerGone_eq, focus, hold, ring, owner]
  split
  · refine .trans ?_ (setFocus_sameFocus _ _)
    simp only [SameFocus] at same
    simp +contextual [focused, same]
  · exact same

/-- Pane `n` is of owner `o`. -/
def OwnedBy (o : Owner) (s : State) (n : Nat) : Prop := ownerAt (some n) s = some o

theorem ownedBy_congr {s t : State} (panes : t.layout.panes = s.layout.panes) (o : Owner) : OwnedBy o t = OwnedBy o s := by
  funext n
  simp [OwnedBy, ownerAt, pane?_congr panes]

theorem pane?_departPanes (s : State) (n : Nat) :
    (departPanes (portDeparture s)).pane? n = if n ∈ paneNumbers then departedRecord (s.pane? n) else s.pane? n := by
  have same : (abortFills (portDeparture s).tabletPreparing (portDeparture s)).layout.panes = s.layout.panes := by simp
  rw [departPanes, foldl_departPane_pane?, pane?_congr same]

theorem departedRecord_of_live {p : Pane} (live : p.phase = .live) : ∃ q, departedRecord (some p) = some q ∧
    q.owner = p.owner ∧ q.cls = p.cls ∧ q.acceptsKeys = p.acceptsKeys ∧ (p.owner ≠ .tablet → q = p) := by
  by_cases owner : p.owner = .tablet
  · exact ⟨{ p with phase := .closing, staged := PendingPart.absent }, by simp [departedRecord, owner, live], rfl, rfl, rfl,
      fun other => absurd owner other⟩
  · exact ⟨p, departedRecord_of_other owner, rfl, rfl, rfl, fun _ => rfl⟩

theorem departPanes_panesStay (s : State) :
    PanesStay (OwnedBy .tablet (departPanes (portDeparture s))) s
      (departPanes (portDeparture s)) := by
  intro n p record live
  obtain ⟨q, departs, owner, cls, keys, other⟩ := departedRecord_of_live live
  have stays : ∃ q, (departPanes (portDeparture s)).pane? n = some q ∧ q.owner = p.owner ∧ q.cls = p.cls ∧
      q.acceptsKeys = p.acceptsKeys ∧ (p.owner ≠ .tablet → q = p) := by
    rw [pane?_departPanes, record]
    split
    · exact ⟨q, departs, owner, cls, keys, other⟩
    · exact ⟨p, rfl, rfl, rfl, rfl, fun _ => rfl⟩
  obtain ⟨q, record', owner, cls, keys, other⟩ := stays
  refine ⟨q, record', owner, cls, keys, ?_⟩
  by_cases tablet : p.owner = .tablet
  · exact .inl (by simp [OwnedBy, ownerAt, record', owner, tablet])
  · obtain rfl := other tablet
    refine .inr ⟨live, id, fun present => ?_⟩
    cases o : q.owner
    · exact absurd o tablet
    · simpa [State.present, o] using present
    · rfl

theorem departedRecord_cls {p q : Pane} (departs : departedRecord (some p) = some q) : q.cls = p.cls := by
  by_cases owner : p.owner = .tablet
  · cases phase : p.phase <;> simp [departedRecord, owner, phase] at departs <;> rw [← departs]
  · rw [departedRecord_of_other owner] at departs
    rw [← Option.some.inj departs]

theorem alertsShown_departPanes {s : State} (shown : AlertsShown s) : AlertsShown (departPanes (portDeparture s)) := by
  intro n q record cls
  rw [pane?_departPanes] at record
  split at record
  · cases before : s.pane? n with
    | none => simp [before, departedRecord] at record
    | some p =>
      rw [before] at record
      obtain ⟨owner, rest⟩ := shown n p before ((departedRecord_cls record).symm.trans cls)
      rw [departedRecord_of_other (by simp [owner])] at record
      obtain rfl := Option.some.inj record
      exact ⟨owner, rest⟩
  · exact shown n q record cls

/-- The saved focus is taken off the panes of a master that is gone (R121, R122). -/
theorem dropSavedOf_eq_savedAs (o : Owner) (s : State) :
    dropSavedOf o s = savedAs (if ownerAt s.alerts.saved s = some o then none else s.alerts.saved) s := by
  unfold dropSavedOf
  rw [ownerOf_eq]
  split <;> rfl

/-- Once the Key Router knows that a master is gone, the focus is not on a pane of it (R107, R108). -/
theorem FocusBut.routerGone {m : Master} {s : State} (kept : FocusBut (OwnedBy (masterOwner m) s) s) :
    FocusBut (OwnedBy (masterOwner m) s) (routerGone m s) ∧
      ∀ n, (Machine.routerGone m s).router.focus = some n → (Machine.routerGone m s).eligible n = true := by
  have same := routerGone_sameFocus m s
  split at same
  · by_cases hold : s.router.hold = true
    · rw [if_pos hold] at same
      have unfocused : FocusBut (OwnedBy (masterOwner m) s) (Proofs.focused none s) := { kept with focus := nofun }
      exact ⟨unfocused.same same, fun n hn => absurd (same.1.symm.trans hn) nofun⟩
    · rw [if_neg hold] at same
      have moved : FocusBut (fun _ => False) (Proofs.focused s.ring.head? s) :=
        kept.focused (by simpa using hold) fun n hn => .inl (eligible_of_ring_head hn)
      have settled := moved.same same
      exact ⟨settled.mono nofun, fun n hn => (settled.focus n hn).resolve_right id⟩
  · next other =>
    have settled := kept.same same
    exact ⟨settled, fun n hn => (settled.focus n hn).resolve_right fun lost => other (same.1 ▸ hn ▸ lost)⟩

/-- The saved focus is told last that a master is gone (R121, R122). -/
theorem FocusBut.dropSavedOf {o : Owner} {s : State} (kept : FocusBut (OwnedBy o s) s)
    (focus : ∀ n, s.router.focus = some n → s.eligible n = true) (live : ∀ n ∈ s.alerts.stack, LiveAlert s n) :
    FocusBut (fun _ => False) (dropSavedOf o s) := by
  rw [dropSavedOf_eq_savedAs]
  refine ⟨fun n hn => .inl (focus n hn), kept.hold, kept.apart, fun n hn => .inl (live n hn), fun off => ?_,
    fun n hn => .inl ?_, kept.shown⟩
  · change (if _ then none else s.alerts.saved) = none
    rw [kept.free off, ite_self]
  · change (if _ then none else s.alerts.saved) = some n at hn
    split at hn
    · cases hn
    · next other => exact (kept.saved n hn).resolve_right fun owned => other (hn ▸ owned)

/-- The whole of what the Key Router and the saved focus do when a master is gone. -/
theorem FocusBut.gone {m : Master} {s : State} (kept : FocusBut (OwnedBy (masterOwner m) s) s)
    (live : ∀ n ∈ s.alerts.stack, LiveAlert s n) :
    FocusBut (fun _ => False) (Machine.dropSavedOf (masterOwner m) (Machine.routerGone m s)) := by
  obtain ⟨but, focus⟩ := kept.routerGone
  have panes : (Machine.routerGone m s).layout.panes = s.layout.panes := by simp
  rw [← ownedBy_congr panes] at but
  refine but.dropSavedOf focus fun n hn => ?_
  simpa only [LiveAlert, pane?_congr panes] using live n (by simpa using hn)

theorem AlertFocused.routerGone {m : Master} {s : State} (alert : AlertFocused s)
    (unmoved : s.router.hold = true → ownerAt s.router.focus s ≠ some (masterOwner m)) :
    AlertFocused (routerGone m s) := fun hold => by
  have same := routerGone_sameFocus m s
  rw [if_neg (unmoved (by simpa using hold))] at same
  exact alert.same same hold

theorem AlertFocused.dropSavedOf {o : Owner} {s : State} (alert : AlertFocused s) : AlertFocused (dropSavedOf o s) := by
  unfold Machine.dropSavedOf
  split <;> exact alert

theorem focusKept_departed {s : State} (kept : FocusKept s) :
    FocusKept (alertDeparture (routerGone .tablet (departPanes (portDeparture s)))) := by
  have stay := departPanes_panesStay s
  have shown := alertsShown_departPanes (shown_of_focusKept kept)
  have holders : SameHolders s (departPanes (portDeparture s)) := by simp [SameHolders]
  have but := focusBut_of_panesStay kept stay holders shown
  have alert := alertFocused_of_panesStay kept stay holders (by simp)
  have live (n : Nat) (member : n ∈ (departPanes (portDeparture s)).alerts.stack) :
      LiveAlert (departPanes (portDeparture s)) n := by
    obtain ⟨p, record, phase, cls⟩ := liveAlert_of_focusKept kept (by simpa using member)
    obtain ⟨q, record', owner, cls', -⟩ := stay n p record phase
    have vehicle : q.owner = .vehicle := (shown n q record' (cls'.trans cls)).1
    exact (stay.liveAlert ⟨p, record, phase, cls⟩).resolve_right (by simp [OwnedBy, ownerAt, record', vehicle])
  have unmoved : (departPanes (portDeparture s)).router.hold = true →
      ownerAt (departPanes (portDeparture s)).router.focus (departPanes (portDeparture s)) ≠ some .tablet := fun hold => by
    rw [alert hold]
    cases value : alertValue (departPanes (portDeparture s)) with
    | none => simp [ownerAt]
    | some n =>
      obtain ⟨p, record, -, cls⟩ := live n (List.mem_of_mem_head? (alertValue_eq_some value).1)
      simp [ownerAt, record, (shown n p record cls).1]
  exact (focusKept_iff _).2 ⟨but.gone (m := .tablet) live, (alert.routerGone (m := .tablet) unmoved).dropSavedOf⟩

theorem focusKept_departure {s : State} (kept : FocusKept s) : FocusKept (departure s) :=
  focusKept_of_same (foldl_holds (fun n _ kept => focusKept_takeClosing n kept) s.tabletLive _ (focusKept_departed kept))
    (departure_sameFocus s)

/-! ### The vehicle unit is absent and returns (R108, R121) -/

theorem panesStay_vehicleThere (present : Bool) (s : State) :
    PanesStay (fun n => present = false ∧ OwnedBy .vehicle s n) s (vehicleThere present s) := by
  intro n p record live
  refine ⟨p, record, rfl, rfl, rfl, ?_⟩
  cases owner : p.owner
  · exact .inr ⟨live, id, id⟩
  · cases present
    · exact .inl ⟨rfl, by simp [OwnedBy, ownerAt, record, owner]⟩
    · exact .inr ⟨live, id, fun _ => rfl⟩
  · exact .inr ⟨live, id, id⟩

/-- A hold that goes on has the focus at the alert focus again. -/
theorem focusKept_refocused {s : State} (kept : FocusBut (fun _ => False) s) :
    FocusKept (if s.alerts.stack = [] then s else restacked s.alerts.stack s) := by
  rw [focusKept_iff]
  split
  · next empty =>
    have off : s.router.hold = false := by
      by_contra on
      exact kept.hold.1 (by simpa using on) empty
    exact ⟨kept, alertFocused_of_free off⟩
  · next full => exact focusBut_restacked (kept.hold.2 full) full kept.apart kept.live kept.saved kept.shown

theorem alertAbsence_sameFocus (s : State) :
    SameFocus
      (if (dropSavedOf .vehicle s).alerts.stack = [] then dropSavedOf .vehicle s
        else restacked (dropSavedOf .vehicle s).alerts.stack (dropSavedOf .vehicle s))
      (alertAbsence s) := by
  unfold alertAbsence
  dsimp only
  split
  · simp
  · exact setAlertFocus_sameFocus (by simp)

theorem focusKept_vehicleAbsence {s : State} (kept : FocusKept s) : FocusKept (vehicleAbsence s) := by
  have there : FocusBut (OwnedBy .vehicle s) (vehicleThere false s) :=
    (focusBut_of_panesStay kept (panesStay_vehicleThere false s) ⟨rfl, rfl, rfl, rfl⟩
      (shown_of_focusKept (s := s) kept)).mono fun n lost => lost.2
  have away : FocusBut (OwnedBy .vehicle (vehicleAway s)) (vehicleAway s) :=
    there.same (by simp [vehicleThere, vehicleAway])
  have gone := away.gone (m := .vehicle) fun n hn => liveAlert_of_focusKept kept hn
  have absent := focusKept_of_same (focusKept_refocused gone) (alertAbsence_sameFocus _)
  exact focusKept_of_same absent (by simp [vehicleAbsence_eq, vehField])

theorem focusKept_vehicleReturn {s : State} (kept : FocusKept s) : FocusKept (vehicleReturn s) := by
  have there : FocusBut (fun _ => False) (vehicleThere true s) :=
    (focusBut_of_panesStay kept (panesStay_vehicleThere true s) ⟨rfl, rfl, rfl, rfl⟩
      (shown_of_focusKept (s := s) kept)).mono fun n lost => absurd lost.1 nofun
  exact focusKept_of_same (focusKept_refocused there) (vehicleReturn_sameFocus s)

/-! ### The link comes up, and the reset -/

theorem focusKept_attached {s : State} {d : DockPort} (kept : FocusKept s) (up : d.link = .up) :
    FocusKept { s with dock := d } := by
  refine focusKept_of_panesStay kept (fun n p record live => ⟨p, record, rfl, rfl, rfl, .inr ⟨live, id, fun present => ?_⟩⟩)
    ⟨rfl, rfl, rfl, rfl⟩ (shown_of_focusKept (s := s) kept) rfl
  cases owner : p.owner
  · simp [State.present, State.tabletPresent, up]
  · simpa [owner, State.present] using present
  · rfl

theorem focusKept_resetState (ids1 ids0 : Bool) (pins : InputLevels) (scanOut : ScanOut) (converting : Bool)
    (link : LinkState) (cells : List Host.Cell) (s : State) :
    FocusKept (resetState ids1 ids0 pins scanOut converting link cells s) := by
  refine (focusKept_iff _).2 ⟨focusBut_of_free rfl rfl nofun rfl fun n p record alert => ?_, alertFocused_of_free rfl⟩
  obtain ⟨-, rfl⟩ := eq_of_pane?_reset (n := n) (p := p) record
  cases alert

/-- The focus is kept by each operation on the focus and the hold. -/
theorem focusKept_invariant : FocusInvariant FocusKept where
  same := focusKept_of_same
  next := focusKept_focusNext
  acknowledge := focusKept_acknowledgePress
  focus m n kept := focusKept_doFocus m n kept
  claim := focusKept_takeClaim
  stage := focusKept_stage
  ready := focusKept_ready
  release m n kept := focusKept_doRelease m n kept
  attach := focusKept_attached
  depart := focusKept_departure
  absent := focusKept_vehicleAbsence
  back := focusKept_vehicleReturn
  reset := focusKept_resetState

/-! ### The frame boundary (R22 to R25, R114, R119) -/

theorem mem_hiddenBy_iff {s : State} {n : Nat} : n ∈ s.hiddenBy ↔
    n < 8 ∧ ∃ p, s.pane? n = some p ∧ p.phase = .live ∧ p.visible = true ∧ p.staged.visible = some false := by
  rw [hiddenBy_eq, hiddenAt, List.mem_filter, List.mem_range]
  simp [Option.any_eq_true, and_assoc]

/-- A pane whose staged part becomes current: the same but for what was staged (R24). -/
theorem boundaryPane_of_live {s : State} {n : Nat} {p : Pane} (live : p.phase = .live) :
    ∃ q, boundaryPane s n p = some q ∧ q.phase = .live ∧ q.owner = p.owner ∧ q.cls = p.cls ∧
      q.acceptsKeys = p.acceptsKeys ∧ q.visible = p.staged.visible.getD p.visible := by
  simp only [boundaryPane, live]
  exact ⟨_, rfl, rfl, rfl, rfl, rfl, rfl⟩

/-- A boundary leaves a shown pane without a staged visibility shown. -/
theorem boundaryPane_shown {s : State} {n : Nat} {p q : Pane} (boundary : boundaryPane s n p = some q)
    (visible : p.visible = true) (staged : p.staged.visible = none) : q.visible = true ∧ q.staged.visible = none := by
  cases phase : p.phase <;> simp only [boundaryPane, phase] at boundary
  case preparing => simp [← Option.some.inj boundary, visible, staged]
  case ready => split at boundary <;> simp [← Option.some.inj boundary, visible, staged]
  case live => simp [← Option.some.inj boundary, visible, staged]
  case closing => cases boundary

section
variable {s : State} (orders : OrdersKept s)
include orders

theorem pane?_boundaryLayout (n : Nat) : (boundaryLayout s).pane? n = (s.pane? n).bind (boundaryPane s n) := by
  rw [← takeBoundary_pane? orders, pane?_congr (congrArg Layout.panes (takeBoundary_layout s))]

theorem boundaryLayout_panesStay : PanesStay (· ∈ s.hiddenBy) s (boundaryLayout s) := by
  intro n p record live
  obtain ⟨q, boundary, phase, owner, cls, keys, visible⟩ := boundaryPane_of_live (s := s) (n := n) live
  refine ⟨q, by rw [pane?_boundaryLayout orders, record]; exact boundary, owner, cls, keys, ?_⟩
  by_cases hidden : p.visible = true ∧ p.staged.visible = some false
  · exact .inl (mem_hiddenBy_iff.2 ⟨orders.1 ▸ lt_length_of_pane? record, p, record, live, hidden⟩)
  · refine .inr ⟨phase, fun shown => ?_, fun present => ?_⟩
    · rw [visible]
      cases staged : p.staged.visible with
      | none => exact shown
      | some v => cases v <;> simp_all
    · cases o : p.owner
      · simpa [State.present, State.tabletPresent, o] using present
      · simpa [State.present, o] using present
      · rfl

theorem alertsShown_boundaryLayout (shown : AlertsShown s) : AlertsShown (boundaryLayout s) := by
  intro n q record cls
  rw [pane?_boundaryLayout orders] at record
  obtain ⟨p, before, boundary⟩ := Option.bind_eq_some_iff.1 record
  obtain ⟨cls', owner'⟩ := boundaryPane_same boundary
  obtain ⟨owner, visible, staged⟩ := shown n p before (cls'.symm.trans cls)
  exact ⟨owner'.trans owner, boundaryPane_shown boundary visible staged⟩

end

/-- A pane live event puts an ALERT pane on the stack (R114). -/
theorem FocusBut.alertPaneLive {lost : Nat → Prop} {s : State} (kept : FocusBut lost s) (alert : AlertFocused s) {n : Nat}
    (fresh : n ∉ s.alerts.stack) (live : ∀ p, s.pane? n = some p → p.phase = .live) :
    (FocusBut lost (alertPaneLive n s) ∧ AlertFocused (Machine.alertPaneLive n s)) ∧
      ∀ k ∈ (Machine.alertPaneLive n s).alerts.stack, k = n ∨ k ∈ s.alerts.stack := by
  cases record : s.pane? n with
  | none => simpa [Machine.alertPaneLive, record] using ⟨⟨kept, alert⟩, fun k hk => .inr hk⟩
  | some p =>
    by_cases cls : p.cls = .alert
    · have same := alertPaneLive_sameFocus record cls
      have top : LiveAlert s n := ⟨p, record, live p record, cls⟩
      split at same
      · obtain ⟨begun, focus⟩ := kept.holdBegun top
        refine ⟨⟨begun.same same, focus.same same⟩, fun k hk => .inl ?_⟩
        rw [same.2.2.1] at hk
        exact List.mem_singleton.1 hk
      · next full =>
        obtain ⟨stacked, focus⟩ := focusBut_restacked (kept.hold.2 full) (List.cons_ne_nil n s.alerts.stack)
          (List.nodup_cons.2 ⟨fresh, kept.apart⟩)
          (fun k hk => (List.mem_cons.1 hk).elim (fun same => .inl (same ▸ top)) (kept.live k)) kept.saved kept.shown
        refine ⟨⟨stacked.same same, focus.same same⟩, fun k hk => ?_⟩
        rw [same.2.2.1] at hk
        exact List.mem_cons.1 hk
    · rw [alertPaneLive_of_normal record cls]
      exact ⟨⟨kept, alert⟩, fun k hk => .inr hk⟩

/-- The pane live events of a boundary, each of a LIVE pane that is not yet on the stack. -/
theorem FocusBut.alertPanesLive {lost : Nat → Prop} (lives : List Nat) {s : State} (kept : FocusBut lost s)
    (alert : AlertFocused s) (apart : lives.Nodup) (fresh : ∀ n ∈ lives, n ∉ s.alerts.stack)
    (live : ∀ n ∈ lives, ∀ p, s.pane? n = some p → p.phase = .live) :
    (FocusBut lost (lives.foldl (fun t n => Machine.alertPaneLive n t) s) ∧
        AlertFocused (lives.foldl (fun t n => Machine.alertPaneLive n t) s)) ∧
      ∀ k ∈ (lives.foldl (fun t n => Machine.alertPaneLive n t) s).alerts.stack, k ∈ lives ∨ k ∈ s.alerts.stack := by
  induction lives generalizing s with
  | nil => exact ⟨⟨kept, alert⟩, fun k hk => .inr hk⟩
  | cons n lives ih =>
    obtain ⟨other, apart⟩ := List.nodup_cons.1 apart
    obtain ⟨⟨kept, alert⟩, stack⟩ := kept.alertPaneLive alert (fresh n List.mem_cons_self) (live n List.mem_cons_self)
    have panes : (Machine.alertPaneLive n s).layout.panes = s.layout.panes := by simp
    obtain ⟨settled, rest⟩ := ih kept alert apart
      (fun k hk member => (stack k member).elim (fun same => other (same ▸ hk)) (fresh k (List.mem_cons_of_mem n hk)))
      (fun k hk p record => live k (List.mem_cons_of_mem n hk) p (by rwa [pane?_congr panes] at record))
    refine ⟨settled, fun k hk => ?_⟩
    obtain later | member := rest k hk
    · exact .inl (List.mem_cons_of_mem n later)
    · obtain rfl | member := stack k member
      · exact .inl List.mem_cons_self
      · exact .inr member

/-- The hidings of a boundary, of panes that are not on the stack. -/
theorem FocusBut.takeHiddens (hidden : List Nat) {s : State} (kept : FocusBut (· ∈ hidden) s) (alert : AlertFocused s)
    (absent : ∀ n ∈ hidden, n ∉ s.alerts.stack) : FocusKept (hidden.foldl Machine.takeHidden s) := by
  induction hidden generalizing s with
  | nil => exact (focusKept_iff s).2 ⟨kept.mono fun k => List.not_mem_nil, alert⟩
  | cons n hidden ih =>
    obtain ⟨kept, alert⟩ := kept.takeHidden alert (absent n List.mem_cons_self)
    refine ih (kept.mono fun k hk => (List.mem_cons.1 hk.1).resolve_left hk.2) alert fun k hk => ?_
    simpa using absent k (List.mem_cons_of_mem n hk)

/-- The events of a boundary over a changed pane table, for ready panes that are not on the stack and hidden ones that are
neither ready nor on it. -/
theorem focusKept_eventsTaken {lives hidden : List Nat} {s : State} (kept : FocusBut (· ∈ hidden) s) (alert : AlertFocused s)
    (apart : lives.Nodup) (fresh : ∀ n ∈ lives, n ∉ s.alerts.stack)
    (live : ∀ n ∈ lives, ∀ p, s.pane? n = some p → p.phase = .live)
    (absent : ∀ n ∈ hidden, n ∉ lives ∧ n ∉ s.alerts.stack) : FocusKept (eventsTaken lives hidden s) := by
  obtain ⟨⟨but, alert⟩, stack⟩ := kept.alertPanesLive lives alert apart fresh live
  refine but.takeHiddens hidden alert fun n hn member => ?_
  obtain ⟨notLive, notStacked⟩ := absent n hn
  exact (stack n member).elim notLive notStacked

theorem focusKept_takeBoundary {s : State} (orders : OrdersKept s) (kept : FocusKept s) : FocusKept (takeBoundary s) := by
  have stay := boundaryLayout_panesStay orders
  have holders : SameHolders s (boundaryLayout s) := by simp [SameHolders]
  have laid := focusBut_of_panesStay kept stay holders (alertsShown_boundaryLayout orders (shown_of_focusKept kept))
  have alert := alertFocused_of_panesStay kept stay holders (by simp)
  have fresh (n : Nat) (ready : n ∈ s.layout.ready) : n ∉ s.alerts.stack := fun member => by
    obtain ⟨p, record, phase⟩ := ready_phase orders ready
    obtain ⟨q, record', live, -⟩ := liveAlert_of_focusKept kept member
    obtain rfl : p = q := Option.some.inj (record.symm.trans record')
    cases phase.symm.trans live
  have live (n : Nat) (ready : n ∈ s.layout.ready) (q : Pane) (record : (boundaryLayout s).pane? n = some q) :
      q.phase = .live := by
    obtain ⟨p, before, phase⟩ := ready_phase orders ready
    simp only [pane?_boundaryLayout orders, before, Option.bind_some, boundaryPane, phase, if_pos ready] at record
    rw [← Option.some.inj record]
  have absent (n : Nat) (hidden : n ∈ s.hiddenBy) : n ∉ s.layout.ready ∧ n ∉ s.alerts.stack := by
    obtain ⟨-, p, record, phase, -, staged⟩ := mem_hiddenBy_iff.1 hidden
    refine ⟨fun ready => ?_, fun member => ?_⟩
    · obtain ⟨q, record', phase'⟩ := ready_phase orders ready
      obtain rfl : p = q := Option.some.inj (record.symm.trans record')
      cases phase.symm.trans phase'
    · obtain ⟨q, record', -, cls⟩ := liveAlert_of_focusKept kept member
      obtain rfl : p = q := Option.some.inj (record.symm.trans record')
      cases staged.symm.trans (shown_of_focusKept kept n p record cls).2.2
  have apart : s.layout.ready.Nodup := by
    obtain ⟨-, -, -, -, -, -, -, -, apart, -⟩ := orders
    exact apart
  have stack : (boundaryLayout s).alerts.stack = s.alerts.stack := by simp
  rw [← stack] at fresh absent
  rw [takeBoundary_eq]
  generalize boundaryLayout s = t at laid alert fresh live absent
  have same : SameFocus t { t with scanOut := s.scanOut.nextFrame } := by simp
  exact focusKept_eventsTaken (laid.same same) (alert.same same) apart fresh live absent

/-- Settles O43: both parts by the walk over the commands, with the frame boundary's part over the orders by
`focusKept_takeBoundary`. -/
theorem stepsKeepTheHold : Obligations.StepsKeepTheHold :=
  ⟨fun s _ kept next => holdKept_invariant.toKeyInvariant.step kept
      (holdKept_takeBoundary (s := { s with pending := s.pending.tail }) kept) next,
    fun s _ orders kept next => focusKept_invariant.toKeyInvariant.step kept
      (focusKept_takeBoundary (s := { s with pending := s.pending.tail }) orders kept) next⟩

end Sys2Proof.Proofs

/-! ## Focus and key requests, presses and releases (R86 to R105) -/

namespace Sys2Proof.Proofs

open Sys2Proof.Machine Sys2Proof.Safety

/-! ### FOCUS (R86) -/

@[simp] theorem taken_eligible (m : Master) (s : State) (n : Nat) : (taken m s).eligible n = s.eligible n := by
  cases m <;> rfl

@[simp] theorem taken_router (m : Master) (s : State) : (taken m s).router = s.router := by cases m <;> rfl

@[simp] theorem answered_alerts (m : Master) (code : Nat) (result : Result) (values : List Byte) (s : State) :
    (answered m code result values s).alerts = s.alerts := by cases m <;> rfl

@[simp] theorem answered_eligible (m : Master) (code : Nat) (result : Result) (values : List Byte) (s : State) (n : Nat) :
    (answered m code result values s).eligible n = s.eligible n := by cases m <;> rfl

/-- The master is there (R27, R172). -/
def MasterPresent (m : Master) (s : State) : Prop :=
  match m with
  | .tablet => s.dock.link = .up ∨ s.dock.link = .hold
  | .vehicle => s.vehicle.present = true

/-- A pane of a master that passes the pane check can hold the focus as R84 says. -/
theorem eligible_of_owned {m : Master} {n : Nat} {p : Pane} {s : State} (owned : Owned m n p s) :
    s.eligible n = true ↔ p.phase = .live ∧ p.visible = true ∧ p.acceptsKeys = true ∧ MasterPresent m s := by
  obtain ⟨record, -, -, owner⟩ := owned
  cases m <;> simp [eligible_iff, record, owner, masterOwner, State.present, State.tabletPresent, MasterPresent]

section
variable {m : Master} {n : Nat} {p : Pane} {s : State}

theorem doFocus_of_not_eligible (check : s.paneCheck m n = .ok p) (cannot : ¬s.eligible n = true) :
    doFocus m n (taken m s) = answered m 0x20 .notEligible [] s := by
  simp only [doFocus, taken_paneCheck, check, taken_eligible, if_neg cannot, reply_taken, requestCode]

/-- During a hold the pane becomes the saved focus (R120). -/
theorem doFocus_of_hold (check : s.paneCheck m n = .ok p) (can : s.eligible n = true) (hold : s.router.hold = true)
    (stack : s.alerts.stack ≠ []) : doFocus m n (taken m s) =
      { answered m 0x20 .deferred [byte n] s with alerts := { s.alerts with saved := some n } } := by
  simp only [doFocus, taken_paneCheck, check, taken_eligible, if_pos can, taken_router, if_pos hold, reply_taken,
    requestCode, deferredFocus, answered_alerts, if_neg stack, answered_eligible]

theorem doFocus_of_free (check : s.paneCheck m n = .ok p) (can : s.eligible n = true) (free : s.router.hold = false) :
    doFocus m n (taken m s) = focusMoved (some n) (answered m 0x20 .ok [byte n] s) := by
  simp only [doFocus, taken_paneCheck, check, taken_eligible, if_pos can, taken_router, free, reply_taken, requestCode,
    setFocus_eq_focusMoved, Bool.false_eq_true, if_false]

end

/-- Settles O34: the pane check by `paneCheck_error_of_refusal`, the rest by the branches of `doFocus`. -/
theorem focusIsCheckedThenSet : Obligations.FocusIsCheckedThenSet := by
  intro m n s force
  refine ⟨fun result refusal => ?_, fun p owned turn => ?_⟩
  · refine refusedWith_of_taking (r := .focus n) rfl (exec_focus m n s) ?_ rfl
    simp only [doFocus, taken_paneCheck, paneCheck_error_of_refusal refusal]
  · have check := paneCheck_ok_of_owned owned
    have eligible := eligible_of_owned owned
    rw [exec_focus, taking_of_turn turn]
    refine ⟨fun cannot => ?_, fun can hold => ⟨[byte n], ?_⟩, fun can free => ?_⟩
    · rw [doFocus_of_not_eligible check (mt eligible.1 cannot)]
    · rw [doFocus_of_hold check (eligible.2 can) hold (force.1 hold)]
    · rw [doFocus_of_free check (eligible.2 can) free]

/-! ### KEY ACK (R105) -/

theorem exec_keyAck (m : Master) (s : State) : exec (.keyAck m) s = taking m .keyAck (doKeyAck m) s := rfl

@[simp] theorem channel_taken (m k : Master) (s : State) : channel k (taken m s) = channel k s := by cases m <;> rfl

@[simp] theorem channel_answered (m k : Master) (code : Nat) (result : Result) (values : List Byte) (s : State) :
    channel k (answered m code result values s) = channel k s := by cases m <;> rfl

/-- Settles O35: the report that the opened gate lets out by `tryReport_reported`. -/
theorem keyAckOpensTheGate : Obligations.KeyAckOpensTheGate := by
  intro m s turn
  have answer := reply_taken m .keyAck .ok [] s
  rw [exec_keyAck, taking_of_turn turn, doKeyAck, channel_eq, channel_taken]
  refine ⟨fun opened => ?_, fun waiting => ⟨_, ?_, rfl⟩⟩
  · rw [if_neg (by simp [opened]), answer]
    rfl
  · rw [if_pos waiting, answer, openGate, setChannel_eq, channel_eq]
    rw [channel_answered]
    exact tryReport_reported m _

/-! ### REPEAT SET and the repeat expiry (R100, R101) -/

theorem exec_repeatSet (m : Master) (enabled delay period : Nat) (s : State) :
    exec (.repeatSet m enabled delay period) s =
      taking m (.repeatSet enabled delay period) (doRepeatSet m enabled delay period) s := rfl

theorem exec_repeatExpiry {s : State} (running : s.scanOut.running = true) :
    exec .repeatExpiry s = .next (repeatExpires s) := whenRunning_of_running running _

/-- A value clamped into a range. -/
theorem clamp_eq_ite {low high : Nat} (h : low ≤ high) (x : Nat) :
    max low (min high x) = if x < low then low else if high < x then high else x := by
  split_ifs <;> omega

theorem answered_withChannel (m : Master) (code : Nat) (result : Result) (values : List Byte) (c : KeyChannel) (s : State) :
    answered m code result values (withChannel m c s) = withChannel m c (answered m code result values s) := by
  cases m <;> rfl

theorem taken_withChannel (m : Master) (c : KeyChannel) (s : State) :
    withChannel m c (taken m s) = taken m (withChannel m c s) := by cases m <;> rfl

theorem answered_stopRepeat (m : Master) (code : Nat) (result : Result) (values : List Byte) (s : State) :
    answered m code result values (stopRepeat s) = stopRepeat (answered m code result values s) := by cases m <;> rfl

theorem taken_stopRepeat (m : Master) (s : State) : stopRepeat (taken m s) = taken m (stopRepeat s) := by cases m <;> rfl

/-- The repeat goes on one period later (R101). -/
def repeatAgain (r : RepeatKey) (s : State) : State :=
  { s with router := { s.router with repeatKey := some { r with next := s.now + (channel r.target s).period } } }

theorem repeatExpires_of_none {s : State} (silent : s.router.repeatKey = none) : repeatExpires s = s := by
  simp [repeatExpires, silent]

theorem repeatExpires_of_early {s : State} {r : RepeatKey} (runs : s.router.repeatKey = some r) (early : s.now < r.next) :
    repeatExpires s = s := by
  simp [repeatExpires, runs, Option.filter, not_le.2 early]

theorem repeatExpires_of_due {s : State} {r : RepeatKey} (runs : s.router.repeatKey = some r) (due : r.next ≤ s.now) :
    repeatExpires s =
      if (channel r.target s).queue.length < 16 then
        tryReport r.target (entered r.target r.code .repeated (repeatAgain r s))
      else repeatAgain r s := by
  simp only [repeatExpires, runs, Option.filter_some, due, decide_true, if_true, channel_eq, repeatThreshold, placeEvent_eq]
  rfl

/-- The settings of a REPEAT SET enter the channel, and the answer is handed (R100). -/
theorem doRepeatSet_taken {m : Master} {enabled : Nat} (defined : enabled ≤ 1) (delay period : Nat) (s : State) :
    doRepeatSet m enabled delay period (taken m s) =
      let d := max 200 (min 1000 delay)
      let p := max 33 (min 500 period)
      let t := withChannel m { channel m s with enabled := decide (enabled = 1), delay := d, period := p }
        (answered m 0x22 .ok [byte enabled, byte d, byte (d / 256), byte p, byte (p / 256)] s)
      if enabled = 0 ∧ s.router.repeatKey.any (fun r => r.target == m) then stopRepeat t else t := by
  have key (c : KeyChannel) : (taken m (withChannel m c s)).router.repeatKey = s.router.repeatKey := by cases m <;> rfl
  simp only [doRepeatSet, if_neg (not_lt.2 defined), setChannel_eq, channel_eq, channel_taken, taken_withChannel,
    taken_stopRepeat, key, beq_eq_decide]
  split
  · rw [reply_taken, answered_stopRepeat, answered_withChannel]
    rfl
  · rw [reply_taken, answered_withChannel]
    rfl

/-- Settles O36: the settings by `doRepeatSet_taken`, the expiry by its three cases. -/
theorem typematicFollowsItsSettings : Obligations.TypematicFollowsItsSettings := by
  refine ⟨fun m enabled delay period s turn => ?_, fun s running => ?_⟩
  · rw [exec_repeatSet, taking_of_turn turn]
    refine ⟨fun undefined => ?_, fun defined => ?_⟩
    · rw [doRepeatSet, if_pos undefined, reply_taken]
      rfl
    · rw [doRepeatSet_taken defined, clamp_eq_ite (by decide), clamp_eq_ite (by decide)]
      rfl
  · rw [exec_repeatExpiry running]
    refine ⟨fun silent => ?_, fun r runs early => ?_, fun r runs due => ⟨fun full => ?_, fun room => ⟨_, ?_, rfl⟩⟩⟩
    · rw [repeatExpires_of_none silent]
    · rw [repeatExpires_of_early runs early]
    · rw [repeatExpires_of_due runs due, if_neg (not_lt.2 full)]
      rfl
    · rw [repeatExpires_of_due runs due, if_pos room]
      exact tryReport_reported r.target _

end Sys2Proof.Proofs

/-! ## Presses and releases of keys (R87, R91 to R95) -/

namespace Sys2Proof.Proofs

open Sys2Proof.Machine Sys2Proof.Safety

/-! ### A ROUTED press (R94) -/

@[simp] theorem quieted_ownerAt (code : Nat) (n : Option Nat) (s : State) : ownerAt n (quieted code s) = ownerAt n s :=
  ownerAt_congr (quieted_frame code s).1 n

@[simp] theorem quieted_channel (code : Nat) (m : Master) (s : State) : channel m (quieted code s) = channel m s := by
  cases m <;> simp [channel]

theorem keyRole_of_ignored {code : Nat} (h : 124 ≤ code) : keyRole code = .ignored := by
  have routed : ¬code < 120 := by omega
  have notLocal : code ≠ 120 ∧ code ≠ 121 ∧ code ≠ 122 ∧ code ≠ 123 := by omega
  simp [keyRole, routed, notLocal]

theorem keyRole_of_routed {code : Nat} (h : code < 120) : keyRole code = .routed := if_pos h

/-- A report leaves the settings of the typematic repeat and the time as they are. -/
@[simp] theorem tryReport_settings (m k : Master) (s : State) :
    (channel k (tryReport m s)).enabled = (channel k s).enabled ∧
    (channel k (tryReport m s)).delay = (channel k s).delay := by
  obtain ⟨-, built⟩ | ⟨-, same⟩ := tryReport_reported m s
  · rw [built]
    cases m <;> cases k <;> exact ⟨rfl, rfl⟩
  · rw [same]
    exact ⟨rfl, rfl⟩

@[simp] theorem entered_settings (m k : Master) (code : Nat) (kind : KeyKind) (s : State) :
    (channel k (entered m code kind s)).enabled = (channel k s).enabled ∧
    (channel k (entered m code kind s)).delay = (channel k s).delay := by
  cases m <;> cases k <;> exact ⟨rfl, rfl⟩

@[simp] theorem entered_now (m : Master) (code : Nat) (kind : KeyKind) (s : State) :
    (entered m code kind s).now = s.now := by cases m <;> rfl

/-- The repeat of a routed press starts by the settings before the press. -/
theorem repeatArmed_routed (m : Master) (code : Nat) (target : Option Owner) (s : State) :
    repeatArmed m code (keyHeld code target (tryReport m (entered m code .down s))) =
      let u := keyHeld code target (tryReport m (entered m code .down s))
      if (channel m s).enabled = true then
        { u with router := { u.router with
            repeatKey := some { code := code, target := m, next := s.now + (channel m s).delay } } }
      else u := by
  have settings (t : State) : channel m (keyHeld code target t) = channel m t := by cases m <;> rfl
  have now (t : State) : (keyHeld code target t).now = t.now := rfl
  simp [repeatArmed, settings, now]

/-- Settles O37: the branches of a press by `keyDown_eq`, its target by `routeTarget_eq_some_iff`. -/
theorem pressesAreRouted : Obligations.PressesAreRouted := by
  intro code s _
  refine ⟨fun overrun => ?_, fun place routed => ⟨fun full => ?_, fun m owner room => ⟨_, tryReport_reported m _, ?_⟩⟩⟩
  · rw [keyDown_eq]
    split
    · rfl
    · next place =>
      rw [roleActs, keyRole_of_ignored (overrun.resolve_left place)]
  · have swallowed : (quieted code s).routeTarget = none := by
      refine Option.eq_none_iff_forall_ne_some.2 fun m target => ?_
      obtain ⟨owner, room⟩ := (routeTarget_eq_some_iff _ m).1 target
      simp only [(quieted_router code s).2.2.2.1, quieted_ownerAt, quieted_channel] at owner room
      exact absurd (full m owner) (not_le.2 room)
    rw [keyDown_eq, if_neg (not_le.2 place), roleActs, keyRole_of_routed routed]
    exact routedDown_of_none swallowed code
  · have target : (quieted code s).routeTarget = some m :=
      (routeTarget_eq_some_iff _ m).2 ⟨by simpa using owner, by simpa using room⟩
    rw [keyDown_eq, if_neg (not_le.2 place), roleActs, keyRole_of_routed routed]
    refine (routedDown_of_some target code).trans ?_
    rw [repeatArmed_routed]
    simp

/-! ### Local keys (R87, R93, R116, R135) -/

/-- The entry of a local key leaves all that its action looks at. -/
theorem keyHeld_quieted (code : Nat) (target : Option Owner) (s : State) :
    (keyHeld code target (quieted code s)).router.hold = s.router.hold ∧
    (keyHeld code target (quieted code s)).router.focus = s.router.focus ∧
    (keyHeld code target (quieted code s)).ring = s.ring ∧
    (keyHeld code target (quieted code s)).light = s.light := by
  unfold quieted
  split <;> exact ⟨rfl, rfl, rfl, rfl⟩

/-- The entry after `n` in a list of which it stands once, or in its first place (R87). -/
theorem nextIn_append {above below : List Nat} {n : Nat} (first : n ∉ above) :
    nextIn (above ++ n :: below) n = (below ++ above ++ [n]).head? := by
  have others : ∀ k ∈ above, (k != n) = true := fun k hk => bne_iff_ne.2 fun same => first (same ▸ hk)
  have found : (above ++ n :: below).dropWhile (· != n) = n :: below := by
    rw [List.dropWhile_append_of_pos others, List.dropWhile_cons_of_neg (by simp)]
  rw [nextIn, found]
  cases below with
  | nil => cases above <;> rfl
  | cons next below => rfl

theorem focusNext_of_hold {s : State} (hold : s.router.hold = true) : focusNext s = s := if_pos hold

theorem focusNext_of_none {s : State} (free : s.router.hold = false) (focus : s.router.focus = none) :
    focusNext s = focusMoved s.ring.head? s := by
  simp [focusNext, free, focus, setFocus_eq_focusMoved]

theorem focusNext_of_some {s : State} {n : Nat} (free : s.router.hold = false) (focus : s.router.focus = some n) :
    focusNext s = focusMoved (nextIn s.ring n) s := by
  simp [focusNext, free, focus, setFocus_eq_focusMoved]

theorem brightnessStep_eq {step k : Int} {s : State} (offset : max (-6) (min 6 (s.light.offset + step)) = k) :
    brightnessStep step s =
      rowTold .brt (brtText s.light.offset) (brtText k) { s with light := { s.light with offset := k } } := by
  rw [brightnessStep, offset, rewriteField_eq_rowTold]

/-! ### Releases (R95) -/

@[simp] theorem tryReport_repeatKey (m : Master) (s : State) :
    (tryReport m s).router.repeatKey = s.router.repeatKey := by
  obtain ⟨-, built⟩ | ⟨-, same⟩ := tryReport_reported m s
  · rw [built]
    cases m <;> rfl
  · rw [same]

@[simp] theorem entered_repeatKey (m : Master) (code : Nat) (kind : KeyKind) (s : State) :
    (entered m code kind s).router.repeatKey = s.router.repeatKey := by cases m <;> rfl

/-- The entry of a key is found where it stands first. -/
theorem find?_of_split {code : Nat} {s : State} {older newer : List HeldKey} {e : HeldKey}
    (table : s.router.held = older ++ e :: newer) (own : e.code = code) (others : ∀ d ∈ older, d.code ≠ code) :
    s.router.held.find? (·.code == code) = some e :=
  List.find?_eq_some_iff_append.2 ⟨by simpa using own, older, newer, table, fun d hd => by simpa using others d hd⟩

/-- The repeat that an UP stops is the one that ran before it. -/
theorem repeatDropped_eq {code : Nat} {s t : State} (repeatKey : t.router.repeatKey = s.router.repeatKey) :
    repeatDropped code t =
      if s.router.repeatKey.any (fun r => r.code == code) then { t with router := { t.router with repeatKey := none } }
      else t := by
  rw [repeatDropped, repeatKey]
  rfl

/-- Settles O38: the local keys by `keyDown_eq` and the roles' functions, the releases by the three cases of `keyUp`. -/
theorem localKeysActAndReleasesFollow : Obligations.LocalKeysActAndReleasesFollow := by
  refine ⟨fun s place => ⟨?_, fun code bright range => ?_, ?_⟩, fun code s => ⟨fun none => ?_, ?_⟩⟩
  · obtain ⟨hold, focus, ring, -⟩ := keyHeld_quieted 120 (some .part) s
    have press : keyDown 120 s = focusNext (keyHeld 120 (some .part) (quieted 120 s)) := by
      rw [keyDown_eq, if_neg (not_le.2 place)]
      rfl
    rw [press]
    refine ⟨fun on => focusNext_of_hold (hold.trans on), fun free none => ?_, fun above below n free on split first => ?_⟩
    · rw [focusNext_of_none (hold.trans free) (focus.trans none), ring]
    · rw [focusNext_of_some (hold.trans free) (focus.trans on), ring, split, nextIn_append first]
  · obtain ⟨-, -, -, light⟩ := keyHeld_quieted code (some .part) s
    rw [keyDown_eq, if_neg (not_le.2 place)]
    obtain rfl | rfl := bright
    · refine (brightnessStep_eq (step := -1) (k := if s.light.offset ≤ -6 then -6 else s.light.offset - 1) ?_).trans ?_
      · rw [light]
        split_ifs <;> omega
      · simp only [light, if_true]
    · refine (brightnessStep_eq (step := 1) (k := if 6 ≤ s.light.offset then 6 else s.light.offset + 1) ?_).trans ?_
      · rw [light]
        split_ifs <;> omega
      · simp only [light, Nat.reduceEqDiff, if_false]
  · rw [keyDown_eq, if_neg (not_le.2 place)]
    rfl
  · exact keyUp_of_not_held (List.find?_eq_none.2 fun e he => by simpa using none e he)
  · intro older newer e table own others
    have found := find?_of_split table own others
    have entry := unheld_eq table own others
    refine ⟨fun target => ?_, fun m target => ⟨_, tryReport_reported m _, ?_⟩⟩
    · rw [keyUp_of_no_target found target, entry]
      exact repeatDropped_eq rfl
    · rw [keyUp_of_target found target, entry]
      exact repeatDropped_eq (by simp)

end Sys2Proof.Proofs

/-! ## The Dock Link's timers, packets sent and BAY edges (R159, R161 to R163) -/

namespace Sys2Proof.Proofs

open Sys2Proof.Machine Sys2Proof.Safety

theorem due_iff (timer : Option Nat) (s : State) : s.due timer = true ↔ Due timer s := by
  simp [State.due, Due, Option.any_eq_true]

theorem exec_silenceTimerExpiry {s : State} (running : s.scanOut.running = true) :
    exec .silenceTimerExpiry s = .next (silenceExpires s) := whenRunning_of_running running _

theorem exec_graceTimerExpiry {s : State} (running : s.scanOut.running = true) :
    exec .graceTimerExpiry s = .next (graceExpires s) := whenRunning_of_running running _

theorem exec_sendTimerExpiry {s : State} (running : s.scanOut.running = true) :
    exec .sendTimerExpiry s = .next (sendExpires s) := whenRunning_of_running running _

theorem exec_dockPacketSent {s : State} (running : s.scanOut.running = true) :
    exec .dockPacketSent s = .next (dockPacketLeaves s) := whenRunning_of_running running _

/-! ### The link state as it is reported (R27, R28, R153) -/

theorem reportLink_of_change {before : LinkState} {s : State} (change : s.dock.link ≠ before) :
    reportLink before s = linkLed before s.dock.link (rowTold .tab (tabText before) (tabText s.dock.link) s) := by
  rw [reportLink, if_neg change, rewriteField_eq_rowTold]

@[simp] theorem rowTold_now (f : RowField) (before after : RowText) (s : State) :
    (rowTold f before after s).now = s.now := by
  rw [← rewriteField_eq_rowTold]
  simp

/-- The entry to HOLD from UP (R162). -/
theorem enterHold_eq_heldLink {s : State} (up : s.dock.link = .up) : enterHold s = heldLink s := by
  rw [enterHold, up, reportLink_of_change (by simp)]
  simp [heldLink, linkShown, linkLed, setLinkLed, setLedTimer, ledToggleMs]

theorem silenceExpires_of_due {s : State} (up : s.dock.link = .up) (due : Due s.dock.silence s) :
    silenceExpires s = heldLink s := by
  rw [silenceExpires, if_pos ⟨up, (due_iff _ s).2 due⟩, enterHold_eq_heldLink up]

/-- The KEEPALIVE of the send timer (R163). -/
theorem sendExpires_of_due {s : State} (up : s.dock.link = .up) (due : Due s.dock.send s) :
    sendExpires s = { s with dock := { s.dock with
      send := some (s.now + 5)
      outbound := if s.dock.outbound.length < 32 then s.dock.outbound ++ [.keepalive] else s.dock.outbound } } := by
  rw [sendExpires, if_pos ⟨up, (due_iff _ s).2 due⟩, handTablet_eq_handed]
  simp [handed, dockOutbound, up, dockSendMs]

/-! ### The BAY edges that move the link (R159) -/

theorem bayEdge_low_of_up {s : State} (up : s.dock.link = .up) : bayEdge false s = enterHold s := by
  simp only [bayEdge, up]

theorem bayEdge_of_absent {s : State} (absent : s.dock.link = .absent) :
    bayEdge true s = linkLed .absent .attaching (rowTold .tab (tabText .absent) (tabText .attaching)
      { s with dock := { s.dock with link := .attaching } }) := by
  simp only [bayEdge, absent]
  exact reportLink_of_change (by simp)

theorem bayEdge_of_attaching {s : State} (attaching : s.dock.link = .attaching) :
    bayEdge false s = linkLed .attaching .absent (rowTold .tab (tabText .attaching) (tabText .absent)
      { s with dock := { s.dock with link := .absent } }) := by
  simp only [bayEdge, attaching]
  exact reportLink_of_change (by simp)

/-- Settles O55: the three expiries by their conditions, the departure by `departure_departedTo`, the report after a packet
by `tryReport_reported`, the BAY edges by the link state. -/
theorem dockTimersMoveTheLink : Obligations.DockTimersMoveTheLink := by
  intro s running
  rw [exec_silenceTimerExpiry running, exec_graceTimerExpiry running, exec_sendTimerExpiry running,
    exec_dockPacketSent running]
  refine ⟨fun up due => ?_, fun other => ?_, fun hold due eight => ⟨_, departure_departedTo eight (.inr hold), ?_⟩,
    fun other => ?_, fun other => ?_, fun up due => ?_, fun first rest up queue => ⟨_, tryReport_reported .tablet _, ?_⟩,
    fun up => ⟨?_, ?_⟩, fun hold high => ?_, fun absent => ?_, fun attaching => ?_⟩
  · rw [silenceExpires_of_due up due]
  · rw [silenceExpires, if_neg (by rw [due_iff]; tauto)]
  · rw [graceExpires, if_pos ⟨hold, (due_iff _ s).2 due⟩]
  · rw [graceExpires, if_neg (by rw [due_iff]; tauto)]
  · rw [sendExpires, if_neg (by rw [due_iff]; tauto)]
  · rw [sendExpires_of_due up due]
  · rw [dockPacketLeaves, if_pos ⟨up, by simp [queue]⟩, queue]
    rfl
  · rw [bayEdge_low_of_up up, enterHold_eq_heldLink up]
  · simp only [bayEdge, up]
  · simp only [bayEdge, hold]
  · rw [bayEdge_of_absent absent]
    simp [linkLed, setLinkLed, setLedTimer, ledToggleMs]
  · rw [bayEdge_of_attaching attaching]
    simp [linkLed, setLinkLed, setLedTimer]

end Sys2Proof.Proofs

/-! ## Frames of the vehicle unit and its presence (R169 to R173, R179) -/

namespace Sys2Proof.Proofs

open Sys2Proof.Machine Sys2Proof.Safety

/-! ### What a request frame is refused with as it is read (R170, R177, R179) -/

theorem vehicleCode_iff (code : Nat) : vehicleCode code = true ↔ CodeDefined code := by
  simp only [vehicleCode, List.contains_iff_mem, CodeDefined, KindDefined, List.mem_cons, List.not_mem_nil, or_false]
  omega

/-- Operands of exactly `n` bytes are read under a code, and as a request that is not yet refused. -/
def ReadsExactly (n code : Nat) : Prop :=
  ∀ operands : List Byte,
    (operands.length = n → ∃ r, readOperands code operands = some r ∧ ∀ c result, r ≠ .refused c result) ∧
    (operands.length ≠ n → readOperands code operands = none)

theorem readsExactly_zero {code : Nat} (h : code ∈ [0x21, 0x44, 0x52]) : ReadsExactly 0 code := by
  refine fun operands => ⟨fun fits => ?_, fun misfits => ?_⟩
  · match operands, fits with
    | [], _ => fin_cases h <;> exact ⟨_, rfl, nofun⟩
  · match operands, misfits with
    | _ :: _, _ => fin_cases h <;> rfl

theorem readsExactly_one {code : Nat}
    (h : code ∈ [0x11, 0x14, 0x15, 0x16, 0x17, 0x18, 0x20, 0x40, 0x42, 0x45, 0x50, 0x54]) : ReadsExactly 1 code := by
  refine fun operands => ⟨fun fits => ?_, fun misfits => ?_⟩
  · match operands, fits with
    | [a], _ => fin_cases h <;> exact ⟨_, rfl, nofun⟩
  · match operands, misfits with
    | [], _ | _ :: _ :: _, _ => fin_cases h <;> rfl

theorem readsExactly_two {code : Nat} (h : code ∈ [0x34, 0x51, 0x53]) : ReadsExactly 2 code := by
  refine fun operands => ⟨fun fits => ?_, fun misfits => ?_⟩
  · match operands, fits with
    | [a, b], _ => fin_cases h <;> exact ⟨_, rfl, nofun⟩
  · match operands, misfits with
    | [], _ | [_], _ | _ :: _ :: _ :: _, _ => fin_cases h <;> rfl

theorem readsExactly_three : ReadsExactly 3 0x43 := by
  refine fun operands => ⟨fun fits => ?_, fun misfits => ?_⟩
  · match operands, fits with
    | [a, b, c], _ => exact ⟨_, rfl, nofun⟩
  · match operands, misfits with
    | [], _ | [_], _ | [_, _], _ | _ :: _ :: _ :: _ :: _, _ => rfl

theorem readsExactly_four : ReadsExactly 4 0x41 := by
  refine fun operands => ⟨fun fits => ?_, fun misfits => ?_⟩
  · match operands, fits with
    | [a, b, c, d], _ => exact ⟨_, rfl, nofun⟩
  · match operands, misfits with
    | [], _ | [_], _ | [_, _], _ | [_, _, _], _ | _ :: _ :: _ :: _ :: _ :: _, _ => rfl

theorem readsExactly_five {code : Nat} (h : code ∈ [0x12, 0x13, 0x22]) : ReadsExactly 5 code := by
  refine fun operands => ⟨fun fits => ?_, fun misfits => ?_⟩
  · match operands, fits with
    | [a, b, c, d, e], _ => fin_cases h <;> exact ⟨_, rfl, nofun⟩
  · match operands, misfits with
    | [], _ | [_], _ | [_, _], _ | [_, _, _], _ | [_, _, _, _], _ | _ :: _ :: _ :: _ :: _ :: _ :: _, _ => fin_cases h <;> rfl

theorem readsExactly_seven : ReadsExactly 7 0x10 := by
  refine fun operands => ⟨fun fits => ?_, fun misfits => ?_⟩
  · match operands, fits with
    | [a, b, c, d, e, f, g], _ => exact ⟨_, rfl, nofun⟩
  · match operands, misfits with
    | [], _ | [_], _ | [_, _], _ | [_, _, _], _ | [_, _, _, _], _ | [_, _, _, _, _], _ | [_, _, _, _, _, _], _ => rfl
    | _ :: _ :: _ :: _ :: _ :: _ :: _ :: _ :: _, _ => rfl

theorem codeDefined_cases {code : Nat} (defined : CodeDefined code) :
    code ∈ [0x21, 0x44, 0x52] ∨
      code ∈ [0x11, 0x14, 0x15, 0x16, 0x17, 0x18, 0x20, 0x40, 0x42, 0x45, 0x50, 0x54] ∨
      code ∈ [0x34, 0x51, 0x53] ∨ code = 0x43 ∨ code = 0x41 ∨ code ∈ [0x12, 0x13, 0x22] ∨ code = 0x10 := by
  unfold CodeDefined KindDefined at defined
  simp only [List.mem_cons, List.not_mem_nil, or_false] at defined ⊢
  omega

/-- Each code that is defined has one length of operands that fits it, and operands of that length are read. -/
theorem operands_read_iff_fit {code : Nat} (defined : CodeDefined code) :
    ∃ n, (∀ k, OperandsFit code k ↔ k = n) ∧ ReadsExactly n code := by
  obtain codes | codes | codes | rfl | rfl | codes | rfl := codeDefined_cases defined
  · refine ⟨0, fun k => ?_, readsExactly_zero codes⟩
    fin_cases codes <;> simp [OperandsFit, LengthFits]
  · refine ⟨1, fun k => ?_, readsExactly_one codes⟩
    fin_cases codes <;> simp [OperandsFit, LengthFits]
  · refine ⟨2, fun k => ?_, readsExactly_two codes⟩
    fin_cases codes <;> simp [OperandsFit, LengthFits]
  · exact ⟨3, fun k => by simp [OperandsFit, LengthFits], readsExactly_three⟩
  · exact ⟨4, fun k => by simp [OperandsFit, LengthFits], readsExactly_four⟩
  · refine ⟨5, fun k => ?_, readsExactly_five codes⟩
    fin_cases codes <;> simp [OperandsFit, LengthFits]
  · exact ⟨7, fun k => by simp [OperandsFit], readsExactly_seven⟩

theorem readRequestFrame_cons (code : Byte) (operands : List Byte) :
    (¬CodeDefined code.toNat → readRequestFrame (code :: operands) = .refused code.toNat .unknown) ∧
    (CodeDefined code.toNat → ¬OperandsFit code.toNat operands.length →
      readRequestFrame (code :: operands) = .refused code.toNat .badValue) ∧
    (CodeDefined code.toNat → OperandsFit code.toNat operands.length →
      ∀ c result, readRequestFrame (code :: operands) ≠ .refused c result) := by
  refine ⟨fun undefined => if_neg (mt (vehicleCode_iff _).1 undefined), fun defined misfit => ?_, fun defined fits => ?_⟩
  all_goals
    obtain ⟨n, fit, reads⟩ := operands_read_iff_fit defined
    rw [readRequestFrame, if_pos ((vehicleCode_iff _).2 defined)]
  · rw [(reads operands).2 (mt (fit _).2 misfit), Option.getD_none]
  · obtain ⟨r, read, request⟩ := (reads operands).1 ((fit _).1 fits)
    rw [read, Option.getD_some]
    exact request

theorem readTextFrame_of_short {data : List Byte} (short : data.length < 4) :
    readTextFrame data = .refused 0x33 .badValue := by
  match data, short with
  | [], _ | [_], _ | [_, _], _ | [_, _, _], _ => rfl

/-! ### The return of the vehicle unit (R117, R121, R148, R172) -/

theorem alertReturn_eq (s : State) :
    alertReturn s =
      let t := s.alerts.unreported.foldl (fun u n => handed .vehicle (.notice (.alertAcknowledged n)) u) s
      let t : State := { t with alerts := { t.alerts with unreported := [] } }
      if s.alerts.stack = [] then t else focusMoved (alertValue t) t := by
  have notices : (fun (u : State) n => handVehicle (.notice (.alertAcknowledged n)) u) =
      fun u n => handed .vehicle (.notice (.alertAcknowledged n)) u := by simp only [handVehicle_eq_handed]
  have stack := foldl_same (fun t : State => t.alerts.stack)
    (fun u n => handed .vehicle (.notice (.alertAcknowledged n)) u) (fun _ _ => rfl) s.alerts.unreported s
  simp only [alertReturn, notices, stack, setFocus_eq_focusMoved, alertFocus_eq]

theorem reportFlags_vehicle_eq (s : State) :
    reportFlags .vehicle s = s.inputs.zipIdx.foldl
      (fun u (i, n) => if i.vehicleFlag then handed .vehicle (.notice (.inputChange n i.qualified i.interval)) u else u)
      s := by
  unfold reportFlags
  congr 1
  funext u ⟨i, n⟩
  dsimp only
  rw [hand_eq_handed]
  rfl

theorem vehicleReturn_eq_returned (s : State) :
    vehicleReturn { s with vehicle := { s.vehicle with silence := some (s.now + 1000) } } = returned s := by
  rw [vehicleReturn, vehField, rewriteField_eq_rowTold, reportFlags_vehicle_eq]
  simp only [alertReturn_frame]
  rw [alertReturn_eq]
  rfl

/-! ### The absence of the vehicle unit (R108, R121, R172) -/

/-- Without the vehicle unit the alert focus is NONE (R113, R121). -/
theorem alertAbsence_of_absent {s : State} (absent : s.vehicle.present = false) :
    alertAbsence s =
      let t := savedAs (if ownerAt s.alerts.saved s = some .vehicle then none else s.alerts.saved) s
      if s.alerts.stack = [] then t else focusMoved none t := by
  have value (v : Option Nat) : (savedAs v s).alertFocus = none := by
    rw [alertFocus_eq]
    exact if_neg fun h => absurd (h.1.symm.trans absent) nofun
  rw [alertAbsence, dropSavedOf_eq_savedAs]
  simp only [value, setFocus_eq_focusMoved]
  rfl

theorem vehicleAbsence_eq_absented (s : State) : vehicleAbsence s = absented s := by
  have absent : (routerGone .vehicle (vehicleAway s)).vehicle.present = false := by simp [vehicleAway]
  have alerts : (routerGone .vehicle (vehicleAway s)).alerts = s.alerts := by simp [vehicleAway]
  have owner (n : Option Nat) : ownerAt n (routerGone .vehicle (vehicleAway s)) = ownerAt n s :=
    ownerAt_congr (by simp [vehicleAway]) n
  rw [vehicleAbsence_eq, vehField, rewriteField_eq_rowTold, alertAbsence_of_absent absent, alerts, owner, routerGone_eq]
  simp only [setFocus_eq_focusMoved]
  rfl

/-! ### Frames taken and sent (R169, R172, R173) -/

theorem enqueueVehicle_eq_frameQueued (r : Request) (s : State) : enqueueVehicle r s = frameQueued r s := by
  unfold enqueueVehicle frameQueued
  rw [vehicleRequestLimit]
  split <;> rfl

theorem vehicleHeard_eq (s : State) :
    vehicleHeard s =
      if s.vehicle.present = true then { s with vehicle := { s.vehicle with silence := some (s.now + 1000) } }
      else returned s := by
  rw [← vehicleReturn_eq_returned]
  rfl

theorem exec_vehicleFrameReceived (f : CanFrame) {s : State} (running : s.scanOut.running = true) :
    exec (.vehicleFrameReceived f) s = .next (takeFrame f s) := whenRunning_of_running running _

theorem exec_vehicleSilenceExpiry {s : State} (running : s.scanOut.running = true) :
    exec .vehicleSilenceExpiry s = .next (vehicleSilenceExpires s) := whenRunning_of_running running _

theorem exec_vehicleFrameSent {s : State} (running : s.scanOut.running = true) :
    exec .vehicleFrameSent s = .next (vehicleFrameLeaves s) := whenRunning_of_running running _

/-- Settles O56: the frames as read by `readRequestFrame_cons`, the return and the absence by their equations, the report
after a frame by `tryReport_reported`. -/
theorem vehicleFramesAndPresence : Obligations.VehicleFramesAndPresence := by
  refine ⟨readRequestFrame_cons, ⟨_, rfl⟩, fun _ => readTextFrame_of_short, fun _ _ _ _ _ => rfl, fun f s running => ?_,
    fun s running => ?_⟩
  · rw [exec_vehicleFrameReceived f running, takeFrame]
    dsimp only
    rw [← vehicleHeard_eq, ← enqueueVehicle_eq_frameQueued, ← enqueueVehicle_eq_frameQueued]
    refine ⟨fun ignored => ?_, fun data => ⟨fun id => ?_, fun id => ?_, fun id => ?_⟩⟩
    · obtain remote | ⟨notRequest, notText, notPresence⟩ := ignored
      · rw [if_pos remote]
      · rw [if_neg notRequest, if_neg notText, if_neg notPresence, ite_self]
    · simp [data, id]
    · simp [data, id]
    · simp [data, id]
  · rw [exec_vehicleSilenceExpiry running, exec_vehicleFrameSent running]
    refine ⟨fun present due => ?_, fun other => ?_, fun first rest queue => ⟨_, tryReport_reported .vehicle _, ?_⟩⟩
    · rw [vehicleSilenceExpires, if_pos ⟨present, (due_iff _ s).2 due⟩, vehicleAbsence_eq_absented]
    · rw [vehicleSilenceExpires, if_neg]
      rw [due_iff]
      rintro ⟨present, due⟩
      exact other.elim (fun absent => absurd (present.symm.trans absent) nofun) fun early => early due
    · rw [vehicleFrameLeaves, if_pos (by simp [queue]), queue]
      rfl

end Sys2Proof.Proofs

/-! ## The pane live event of an ALERT pane, and the acknowledge press (O42) -/

namespace Sys2Proof.Proofs

open Sys2Proof.Machine Sys2Proof.Safety

/-! ### The beginning of a hold, the alert focus and the focus given back (R113, R115) -/

/-- The focus, the ALERT LED, the monitor and the ALERT field, in the order of R113. -/
theorem holdBegins_eq (s : State) :
    holdBegins s =
      rowTold .alert (alertText 0) (alertText s.alerts.stack.length)
        (let t := switched 3 true (focusMoved (alertValue s) { s with router := { s.router with hold := true } })
        { t with light := { t.light with hold := true, jump := true } }) := by
  simp only [holdBegins, alertField, rewriteField_eq_rowTold, setFocus_eq_focusMoved, alertFocus_eq, setAlertLed,
    switched, focusMoved_alerts]

/-- The pane pushed on the stack alone decides the alert focus (R113). -/
theorem alertValue_pushed {s : State} {n : Nat} {p : Pane} (record : s.pane? n = some p) (rest : List Nat) :
    alertValue (stacked (n :: rest) s) = if p.acceptsKeys = true ∧ s.vehicle.present = true then some n else none := by
  have record : (stacked (n :: rest) s).pane? n = some p := record
  have top : (stacked (n :: rest) s).alerts.stack.head? = some n := rfl
  simp only [alertValue, top, Option.bind_some, record, Option.any_some, and_comm]
  rfl

/-- The focus that a hold gives back depends on the saved focus and on the eligible panes alone (R115). -/
theorem returnFocus_congr {s t : State} (saved : t.alerts.saved = s.alerts.saved) (layout : t.layout = s.layout)
    (attached : Attached t.dock ↔ Attached s.dock) (present : t.vehicle.present = s.vehicle.present) :
    t.returnFocus = s.returnFocus := by
  have eligible := eligible_congr (congrArg Layout.panes layout) attached present
  rw [returnFocus_eq, returnFocus_eq, State.ring, State.ring, saved, layout, eligible]

/-! ### The acknowledged pane and its notice (R116, R117) -/

/-- The notice goes to the vehicle unit that is present, or waits for its return (R117). -/
theorem reportAcknowledged_eq (n : Nat) (s : State) :
    reportAcknowledged n s =
      if s.vehicle.present = true then handed .vehicle (.notice (.alertAcknowledged n)) s
      else { s with alerts := { s.alerts with unreported := s.alerts.unreported ++ [n] } } := by
  rw [reportAcknowledged, handVehicle_eq_handed]

/-- With a pane left on the stack the press changes the top (R116). -/
theorem acknowledgePress_of_more {s : State} {top : Nat} {rest : List Nat} (stack : s.alerts.stack = top :: rest)
    (more : rest ≠ []) :
    acknowledgePress s =
      rowTold .alert (alertText (rest.length + 1)) (alertText rest.length)
        (focusMoved (alertValue (stacked rest s)) (reportAcknowledged top (stacked rest s))) := by
  have press : acknowledgePress s = topChanged (rest.length + 1) (reportAcknowledged top (stacked rest s)) := by
    simp only [acknowledgePress, stack, if_neg more, List.length_cons]
    rfl
  obtain ⟨-, -, left, -, -, -, -, -, -, panes, -, present⟩ := reportAcknowledged_sameFocus top (stacked rest s)
  rw [press, topChanged_eq, alertValue_congr left panes present, left]
  rfl

/-- The press on the last pane ends the hold; the focus that it gives back is that of the state before (R115, R116). -/
theorem acknowledgePress_of_last {s : State} {top : Nat} (stack : s.alerts.stack = [top]) :
    acknowledgePress s =
      (let reported := reportAcknowledged top (stacked [] s)
      let t := switched 3 false
        (focusMoved s.returnFocus { reported with router := { reported.router with hold := false } })
      let t := rowTold .alert (alertText 1) (alertText 0) { t with light := { t.light with hold := false } }
      { t with alerts := { t.alerts with saved := none } }) := by
  have press : acknowledgePress s = holdEnds 1 (reportAcknowledged top (stacked [] s)) := by
    simp only [acknowledgePress, stack, if_true, List.length_singleton]
    rfl
  obtain ⟨-, -, empty, saved, -, -, -, -, -, -, attached, present⟩ := reportAcknowledged_sameFocus top (stacked [] s)
  have back : (reportAcknowledged top (stacked [] s)).returnFocus = s.returnFocus :=
    returnFocus_congr saved (reportAcknowledged_frame _ _).1 attached present
  rw [press, holdEnds_eq empty, holdOver, ← returnFocus_eq, back]

/-! ### The pane live event (R114) -/

/-- The first alert saves the focus and begins the hold (R114). -/
theorem alertPaneLive_of_first {s : State} {n : Nat} {p : Pane} (record : s.pane? n = some p) (alert : p.cls = .alert)
    (first : s.alerts.stack = []) :
    alertPaneLive n s = holdBegins (stacked [n] (savedAs s.router.focus s)) := by
  simp only [alertPaneLive, record, if_pos alert, if_pos first]
  rfl

/-- A further alert is the new top of the stack (R114). -/
theorem alertPaneLive_of_further {s : State} {n : Nat} {p : Pane} (record : s.pane? n = some p) (alert : p.cls = .alert)
    (further : s.alerts.stack ≠ []) :
    alertPaneLive n s = topChanged s.alerts.stack.length (stacked (n :: s.alerts.stack) s) := by
  simp only [alertPaneLive, record, if_pos alert, if_neg further]
  rfl

/-- Settles O42: the event by `holdBegins_eq` or `topChanged_eq` over the pushed stack, the press by the two equations
for a stack with and without a pane left. -/
theorem alertsHoldAndGiveBackTheFocus : Obligations.AlertsHoldAndGiveBackTheFocus := by
  refine ⟨fun n p s record => ⟨fun normal => ?_, fun alert => ⟨fun first => ?_, fun further => ?_⟩⟩,
    fun s => ⟨fun empty => ?_, fun top rest stack => ⟨fun more => ?_, fun last => ?_⟩⟩⟩
  · exact alertPaneLive_of_normal record (by simp [normal])
  · rw [alertPaneLive_of_first record alert first, holdBegins_eq,
      alertValue_pushed (s := savedAs s.router.focus s) record]
    rfl
  · rw [alertPaneLive_of_further record alert further, topChanged_eq, alertValue_pushed record]
    rfl
  · simp only [acknowledgePress, empty]
  · rw [acknowledgePress_of_more stack more, reportAcknowledged_eq]
    rfl
  · subst last
    rw [acknowledgePress_of_last stack, reportAcknowledged_eq, returnFocus_eq]
    rfl

end Sys2Proof.Proofs

/-! ## The converter's scans (O44) -/

namespace Sys2Proof.Proofs

open Sys2Proof.Machine Sys2Proof.Safety

/-! ### The filter, the supply and the temperature state (R128, R129, R131) -/

/-- The filter's step is D ÷ 8 toward zero, at least one sixteenth, on either side of the sample. -/
theorem filterStep_eq_filterMoved (f a : Nat) : filterStep f a = filterMoved f a := by
  have up (d : Nat) : (d : Int).tdiv 8 = (d / 8 : Nat) := rfl
  have down (d : Nat) : (-(d : Int)).tdiv 8 = -((d / 8 : Nat) : Int) := by rw [Int.neg_tdiv, up]
  unfold filterStep filterMoved
  dsimp only
  obtain above | level | below := Nat.lt_trichotomy f (16 * a)
  · obtain ⟨d, rise⟩ := Nat.exists_eq_add_of_lt above
    have distance : 16 * (a : Int) - f = (d + 1 : Nat) := by omega
    rw [distance, up, Int.sign_natCast_of_ne_zero d.succ_ne_zero]
    split_ifs <;> omega
  · have distance : 16 * (a : Int) - f = 0 := by omega
    rw [distance, Int.zero_tdiv, Int.sign_zero]
    split_ifs <;> omega
  · obtain ⟨d, fall⟩ := Nat.exists_eq_add_of_lt below
    have distance : 16 * (a : Int) - f = -((d + 1 : Nat) : Int) := by omega
    rw [distance, down, Int.sign_neg, Int.sign_natCast_of_ne_zero d.succ_ne_zero]
    split_ifs <;> omega

theorem filterAfter_eq (l : Light) (a : Nat) :
    filterAfter l a = if l.ambient = none then 16 * a else filterMoved l.filter a := by
  unfold filterAfter
  cases l.ambient with
  | none => rfl
  | some _ => exact filterStep_eq_filterMoved l.filter a

/-- The table of R128, row by row. -/
theorem supplyAfter_eq (v : Nat) (l : Light) :
    supplyAfter v l =
      { l with
        low := (supplyRow l.low l.lowCount l.recoverCount v).1
        lowCount := (supplyRow l.low l.lowCount l.recoverCount v).2.1
        recoverCount := (supplyRow l.low l.lowCount l.recoverCount v).2.2 } := by
  unfold supplyAfter supplyRow
  cases low : l.low with
  | false =>
    obtain under | enough := Nat.lt_or_ge v 450
    · by_cases first : l.lowCount = 0 <;> simp [under, not_le.2 under, first]
    · simp [enough, not_lt.2 enough]
  | true =>
    obtain under | enough := Nat.lt_or_ge v 500
    · simp [under, not_le.2 under]
    · by_cases more : l.recoverCount ≤ 3 <;> simp [enough, not_lt.2 enough, more, Nat.lt_succ_iff]

theorem tempAfter_eq (p : Nat) (l : Light) :
    tempAfter p l = { l with hot := decide (if l.hot = true then 500 ≤ p else 540 ≤ p) } := by
  unfold tempAfter
  split <;> rfl

/-- The records, the filter and the two states after a completion. -/
theorem convertedLight_eq (a v p : Nat) (l : Light) :
    convertedLight a v p l =
      { l with
        converting := false, ambient := some a, supply := some v, panelTemp := some p
        filter := if l.ambient = none then 16 * a else filterMoved l.filter a
        low := (supplyRow l.low l.lowCount l.recoverCount v).1
        lowCount := (supplyRow l.low l.lowCount l.recoverCount v).2.1
        recoverCount := (supplyRow l.low l.lowCount l.recoverCount v).2.2
        hot := decide (if l.hot = true then 500 ≤ p else 540 ≤ p) } := by
  rw [convertedLight, tempAfter_eq, supplyAfter_eq, filterAfter_eq]

/-! ### The backlight (R132 to R134) -/

theorem targetDuty_eq_dutyFor (l : Light) :
    targetDuty l = dutyFor l.filter l.offset l.darkCab l.hold l.low l.hot l.parked := by
  have base : baseLevel l.filter l.offset =
      (min 1000 (max 20 (((40 + l.filter / 16 * 960 / 1023 : Nat) : Int) + 60 * l.offset))).toNat := by
    unfold baseLevel autoLevel
    omega
  have floor (b : Nat) : (if l.hold = true then max b 800 else b) = if l.hold = true ∧ b < 800 then 800 else b := by
    cases l.hold with
    | false => simp
    | true => simp only [true_and, if_true]; split <;> omega
  have ceiling (c b : Nat) (on : Bool) :
      (if on = true then min b c else b) = if on = true ∧ c < b then c else b := by
    cases on with
    | false => simp
    | true => simp only [true_and, if_true]; split <;> omega
  simp only [targetDuty, dutyFor, base, floor, ceiling]

theorem slew_eq_dutyMoved (applied target : Nat) : slew applied target = dutyMoved applied target := by
  unfold slew dutyMoved
  split <;> omega

/-! ### The completion (R127, R130) -/

/-- The light with the jump flag set where the supply state has become LOW or the temperature state HOT (R130). -/
def jumpRaised (before l : Light) : Light :=
  { l with jump := l.jump || ((l.low && !before.low) || (l.hot && !before.hot)) }

/-- A change of the supply or the temperature state handed to both masters and to the two fields, PWR first
(notes/assumptions/33.md). -/
def supplyTold (before : Light) (low hot : Bool) (v p : Nat) (s : State) : State :=
  let change : Message := .notice (.supplyChange low hot v p)
  rowTold .temp (tempText before.hot) (tempText hot)
    (rowTold .pwr (pwrText before.low) (pwrText low) (handed .vehicle change (handed .tablet change s)))

theorem jumpRaised_of_same {before l : Light} (low : l.low = before.low) (hot : l.hot = before.hot) :
    jumpRaised before l = l := by
  have flag : (l.jump || ((l.low && !before.low) || (l.hot && !before.hot))) = l.jump := by simp [low, hot]
  rw [jumpRaised, flag]

/-- The backlight update takes the flag away, with the jump or the slew that it asks for. -/
theorem backlightUpdate_jumpRaised (before l : Light) :
    backlightUpdate (jumpRaised before l) =
      { l with
        jump := false, target := targetDuty l
        applied :=
          if (l.jump || (l.low && !before.low) || (l.hot && !before.hot)) = true then targetDuty l
          else dutyMoved l.applied (targetDuty l) } := by
  rw [← slew_eq_dutyMoved, Bool.or_assoc]
  rfl

theorem reportSupply_of_same {before : Light} {s : State} (low : s.light.low = before.low) (hot : s.light.hot = before.hot)
    (v p : Nat) : reportSupply before v p s = s := if_pos ⟨low, hot⟩

theorem reportSupply_of_change {before : Light} {s : State} (change : s.light.low ≠ before.low ∨ s.light.hot ≠ before.hot)
    (v p : Nat) :
    reportSupply before v p s =
      supplyTold before s.light.low s.light.hot v p { s with light := jumpRaised before s.light } := by
  have changed : ¬(s.light.low = before.low ∧ s.light.hot = before.hot) := not_and_or.2 change
  simp only [reportSupply, if_neg changed, rewriteField_eq_rowTold, handTablet_eq_handed, handVehicle_eq_handed]
  rfl

/-- What is told of a change does not depend on the light. -/
theorem supplyTold_light (before : Light) (low hot : Bool) (v p : Nat) (s : State) (light : Light) :
    { supplyTold before low hot v p s with light := light } = supplyTold before low hot v p { s with light := light } :=
  rfl

/-- A completion while the converter is CONVERTING: the light is updated, and a change is told. -/
theorem exec_scanCompletion {a v p : Nat} {s : State} (running : s.scanOut.running = true)
    (converting : s.light.converting = true) :
    exec (.scanCompletion a v p) s = .next
      (let l := convertedLight a v p s.light
      let t : State := { s with light := backlightUpdate (jumpRaised s.light l) }
      if l.low = s.light.low ∧ l.hot = s.light.hot then t else supplyTold s.light l.low l.hot v p t) := by
  have event : exec (.scanCompletion a v p) s = .next (scanCompletes a v p s) := whenRunning_of_running running _
  rw [event, scanCompletes, if_pos converting]
  dsimp only
  split
  · next same =>
    obtain ⟨low, hot⟩ := same
    rw [reportSupply_of_same low hot, jumpRaised_of_same low hot]
  · next changed =>
    rw [reportSupply_of_change (not_and_or.1 changed), supplyTold_light]
    rfl

/-- A scan starts one period after the start of the latest, if none is under way (R126). -/
theorem exec_converterScanStart {s : State} (running : s.scanOut.running = true) :
    exec .converterScanStart s = .next
      (if s.light.converting = true ∨ s.now < s.light.scanStart + (if s.light.parked = true then 1000 else 10) then s
      else { s with light := { s.light with converting := true, scanStart := s.now } }) := by
  have event : exec .converterScanStart s = .next (scheduleScan s) := whenRunning_of_running running _
  rw [event]
  rfl

/-- Settles O44: the start by `exec_converterScanStart`; the completion by `exec_scanCompletion`, whose light
`convertedLight_eq` and `backlightUpdate_jumpRaised` give. -/
theorem completionUpdatesLightAndSupply : Obligations.CompletionUpdatesLightAndSupply := by
  refine ⟨?_, fun a v p s running converting => ?_⟩
  · intro s running next
    refine ⟨fun idle due => ?_, fun early => ?_⟩
    · rw [exec_converterScanStart running, if_neg (by simpa [idle] using due)]
    · rw [exec_converterScanStart running, if_pos early]
  · intro l f row hot jump target after change pwr temp noticed
    have low : (convertedLight a v p l).low = row.1 := by rw [convertedLight_eq]
    have warm : (convertedLight a v p l).hot = hot := by rw [convertedLight_eq]
    have updated : backlightUpdate (jumpRaised l (convertedLight a v p l)) = after.light := by
      rw [backlightUpdate_jumpRaised, targetDuty_eq_dutyFor, convertedLight_eq]
    rw [exec_scanCompletion running converting]
    dsimp only
    rw [updated, low, warm]
    refine ⟨fun sameLow sameHot => ?_, fun changed => .inl ?_⟩
    · rw [if_pos ⟨sameLow, sameHot⟩]
    · rw [if_neg (not_and_or.2 changed)]
      rfl

end Sys2Proof.Proofs

/-! ## What no command but a few changes: the duties, the monitor's park record and the park state (R134, R141) -/

namespace Sys2Proof.Proofs

open Sys2Proof.Machine Sys2Proof.Safety

/-- The two states agree in the duties, the monitor's park record and the park state. -/
@[simp] abbrev SameDuty (s t : State) : Prop :=
  t.light.target = s.light.target ∧ t.light.applied = s.light.applied ∧ t.light.parked = s.light.parked ∧
    t.park.state = s.park.state

theorem SameDuty.refl (s : State) : SameDuty s s := by simp

theorem SameDuty.trans {s t u : State} (h : SameDuty s t) (h' : SameDuty t u) : SameDuty s u := by
  simp only [SameDuty] at h h' ⊢
  simp [h, h']

theorem foldl_sameDuty {α : Type} {f : State → α → State} (h : ∀ s a, SameDuty s (f s a)) (l : List α) (s : State) :
    SameDuty s (l.foldl f s) := by
  have kept := foldl_same (fun t : State => (t.light.target, t.light.applied, t.light.parked, t.park.state)) f
    (fun t a => by simp [h t a]) l s
  simpa only [Prod.mk.injEq] using kept

/-! ### The requests -/

@[simp] theorem doClaim_duty (m : Master) (ops : ClaimOps) (s : State) : SameDuty s (doClaim m ops s) := by
  unfold doClaim
  split <;> simp

@[simp] theorem doRelease_duty (m : Master) (n : Nat) (s : State) : SameDuty s (doRelease m n s) := by
  unfold doRelease
  split
  · simp
  · split <;> simp

@[simp] theorem doMove_duty (m : Master) (n : Nat) (w : Window) (s : State) : SameDuty s (doMove m n w s) := by
  unfold doMove
  split
  · simp
  · split <;> simp

@[simp] theorem doScroll_duty (m : Master) (n x y : Nat) (s : State) : SameDuty s (doScroll m n x y s) := by
  unfold doScroll
  split <;> simp

@[simp] theorem doReorder_duty (m : Master) (r : Request) (n : Nat) (reorder : List Nat → List Nat) (s : State) :
    SameDuty s (doReorder m r n reorder s) := by
  unfold doReorder
  split
  · simp
  · split_ifs <;> simp

@[simp] theorem doVisible_duty (m : Master) (r : Request) (n : Nat) (shown : Bool) (s : State) :
    SameDuty s (doVisible m r n shown s) := by
  unfold doVisible
  split
  · simp
  · split <;> simp

@[simp] theorem doFlip_duty (m : Master) (n : Nat) (s : State) : SameDuty s (doFlip m n s) := by
  unfold doFlip
  split
  · simp
  · split_ifs <;> simp

@[simp] theorem doFocus_duty (m : Master) (n : Nat) (s : State) : SameDuty s (doFocus m n s) := by
  unfold doFocus
  split
  · simp
  · split_ifs <;> simp

@[simp] theorem doKeyAck_duty (m : Master) (s : State) : SameDuty s (doKeyAck m s) := by
  unfold doKeyAck
  dsimp only
  split <;> simp

@[simp] theorem doRepeatSet_duty (m : Master) (enabled delay period : Nat) (s : State) :
    SameDuty s (doRepeatSet m enabled delay period s) := by
  unfold doRepeatSet
  dsimp only
  split_ifs <;> simp

@[simp] theorem doWriteBegin_duty (n buffer : Nat) (rect : Rect) (s : State) :
    SameDuty s (doWriteBegin n buffer rect s) := by
  unfold doWriteBegin
  dsimp only
  split <;> simp

@[simp] theorem doFillRect_duty (n buffer : Nat) (rect : Rect) (colour : Nat) (s : State) :
    SameDuty s (doFillRect n buffer rect colour s) := by
  unfold doFillRect
  dsimp only
  split <;> simp

@[simp] theorem doTextPut_duty (n buffer row column : Nat) (cells : List TextCell) (s : State) :
    SameDuty s (doTextPut n buffer row column cells s) := by
  unfold doTextPut
  dsimp only
  split <;> simp

@[simp] theorem doTextData_duty (n buffer row column : Nat) (attr : Byte) (codes : List Byte) (s : State) :
    SameDuty s (doTextData n buffer row column attr codes s) := by
  unfold doTextData
  split <;> simp

@[simp] theorem doTextClear_duty (m : Master) (n buffer : Nat) (s : State) : SameDuty s (doTextClear m n buffer s) := by
  unfold doTextClear
  split <;> simp

@[simp] theorem doInputAck_duty (m : Master) (n : Nat) (s : State) : SameDuty s (doInputAck m n s) := by
  unfold doInputAck
  split <;> simp

@[simp] theorem doInputMode_duty (m : Master) (n mode sense time : Nat) (s : State) :
    SameDuty s (doInputMode m n mode sense time s) := by
  unfold doInputMode
  dsimp only
  split <;> simp

@[simp] theorem doQueryInputs_duty (m : Master) (input : Option Nat) (s : State) :
    SameDuty s (doQueryInputs m input s) := by
  unfold doQueryInputs
  dsimp only
  split
  · simp
  · split <;> simp

@[simp] theorem doLineSet_duty (m : Master) (n direction latch : Nat) (s : State) :
    SameDuty s (doLineSet m n direction latch s) := by
  unfold doLineSet
  dsimp only
  split_ifs <;> simp

@[simp] theorem doQueryLight_duty (m : Master) (page : Option Nat) (s : State) :
    SameDuty s (doQueryLight m page s) := by
  unfold doQueryLight
  dsimp only
  split
  · simp
  · split <;> simp

@[simp] theorem doDarkCab_duty (m : Master) (setting : Nat) (s : State) : SameDuty s (doDarkCab m setting s) := by
  unfold doDarkCab
  cases m with
  | tablet => simp
  | vehicle =>
    dsimp only
    split <;> simp

@[simp] theorem doParkDelay_duty (m : Master) (delay : Nat) (s : State) : SameDuty s (doParkDelay m delay s) := by
  cases m <;> simp [doParkDelay]

@[simp] theorem doScanSet_duty (m : Master) (press release : Nat) (s : State) :
    SameDuty s (doScanSet m press release s) := by
  cases m <;> simp [doScanSet]

/-! ### The two links -/

@[simp] theorem departure_duty (s : State) : SameDuty s (departure s) := by
  have closed := foldl_sameDuty (f := takeClosing) (fun t n => by simp) s.tabletLive
    (alertDeparture (routerGone .tablet (departPanes (portDeparture s))))
  exact .trans (by simp) (closed.trans (by simp [departure]))

theorem linkTakes_duty {hello : Bool} {s t : State} (takes : linkTakes hello s = some t) : SameDuty s t := by
  unfold linkTakes at takes
  split at takes
  · cases takes
  · split at takes <;> cases takes
    exact .refl s
  · cases takes
    exact .refl s
  · split at takes <;> cases takes
    simp

@[simp] theorem takeIntake_duty (hello : Bool) (intake : Intake) (s : State) :
    SameDuty s (takeIntake hello intake s) := by
  unfold takeIntake
  cases takes : linkTakes hello s with
  | none => exact .refl s
  | some t => exact (linkTakes_duty takes).trans (by cases intake <;> simp)

@[simp] theorem helloArrives_duty (grace : Nat) (s : State) : SameDuty s (helloArrives grace s) := by
  unfold helloArrives
  split
  · simp
  · split <;> simp
  · simp
  · simp

@[simp] theorem helloTaken_duty (grace : Nat) (s : State) : SameDuty s (helloTaken grace s) := by
  unfold helloTaken
  split <;> simp

@[simp] theorem takePacket_duty (bytes : List Byte) (s : State) : SameDuty s (takePacket bytes s) := by
  unfold takePacket
  split
  · simp
  · split
    · split <;> simp
    · simp

@[simp] theorem graceExpires_duty (s : State) : SameDuty s (graceExpires s) := by
  unfold graceExpires
  split <;> simp

@[simp] theorem sendExpires_duty (s : State) : SameDuty s (sendExpires s) := by
  unfold sendExpires
  split <;> simp

@[simp] theorem dockPacketLeaves_duty (s : State) : SameDuty s (dockPacketLeaves s) := by
  unfold dockPacketLeaves
  split <;> simp

@[simp] theorem vehicleFrameLeaves_duty (s : State) : SameDuty s (vehicleFrameLeaves s) := by
  unfold vehicleFrameLeaves
  split <;> simp

@[simp] theorem vehicleHeard_duty (s : State) : SameDuty s (vehicleHeard s) := by
  unfold vehicleHeard
  dsimp only
  split <;> simp

@[simp] theorem takeFrame_duty (f : CanFrame) (s : State) : SameDuty s (takeFrame f s) := by
  unfold takeFrame
  split_ifs <;> simp

@[simp] theorem vehicleSilenceExpires_duty (s : State) : SameDuty s (vehicleSilenceExpires s) := by
  unfold vehicleSilenceExpires
  split <;> simp

/-! ### The units of RESTART -/

@[simp] theorem restartDock_duty (s : State) : SameDuty s (restartDock s) := by
  unfold restartDock
  split <;> simp

@[simp] theorem restartScan_duty (s : State) : SameDuty s (restartScan s) := by simp [restartScan]

@[simp] theorem restartConvert_duty (s : State) : SameDuty s (restartConvert s) := by simp [restartConvert]

theorem restartUnit_duty (unit : Nat) (m : Master) (units : Nat) {body : State → State}
    (same : ∀ t, SameDuty t (body t)) (s : State) : SameDuty s (restartUnit unit m units body s) := by
  unfold restartUnit
  split
  · cases m with
    | tablet => simp
    | vehicle =>
      dsimp only
      split_ifs
      · simp
      · exact (same s).trans (by simp)
      · exact (same s).trans (by simp)
      · simp
  · simp

/-! ### The keyboard, the frame boundary and the memory -/

@[simp] theorem takeChange_duty (s : State) (change : KeyChange) : SameDuty s (takeChange s change) := by
  cases change <;> simp [takeChange]

@[simp] theorem takeScan_duty (raw : BitVec 128) (s : State) : SameDuty s (takeScan raw s) := by
  unfold takeScan
  split
  · simp
  · exact .trans (by simp) (foldl_sameDuty takeChange_duty _ { s with scanner := s.scanner.debounced raw })

@[simp] theorem takeCapture_duty (raw : BitVec 128) (s : State) : SameDuty s (takeCapture raw s) := by
  unfold takeCapture
  split
  · simp
  · exact .trans (by simp) (foldl_sameDuty (fun t c => by simp) _ { s with scanner := s.scanner.captured raw })

@[simp] theorem repeatExpires_duty (s : State) : SameDuty s (repeatExpires s) := by
  unfold repeatExpires
  split
  · simp
  · dsimp only
    split <;> simp

@[simp] theorem takeBoundary_duty (s : State) : SameDuty s (takeBoundary s) := by
  have lives := foldl_sameDuty (f := fun t n => alertPaneLive n t) (fun t n => by simp) s.layout.ready
    { boundaryLayout s with scanOut := s.scanOut.nextFrame }
  have hidden := foldl_sameDuty (f := takeHidden) (fun t n => by simp) s.hiddenBy
    (s.layout.ready.foldl (fun t n => alertPaneLive n t) { boundaryLayout s with scanOut := s.scanOut.nextFrame })
  rw [takeBoundary_eq]
  exact .trans (by simp) (lives.trans hidden)

theorem completeWork_duty {w : Writer} {s t : State} (next : completeWork w s = .next t) : SameDuty s t := by
  obtain ⟨-, rfl⟩ | ⟨-, cells, -, rfl⟩ := completeWork_next next
  · exact .refl _
  · simp

end Sys2Proof.Proofs

/-! ## Every step keeps the duties' range (O45) -/

namespace Sys2Proof.Proofs

open Sys2Proof.Machine Sys2Proof.Safety

theorem dutyKept_of_same {s t : State} (kept : DutyKept s) (same : SameDuty s t) : DutyKept t := by
  simp only [SameDuty] at same
  simpa only [DutyKept, same] using kept

/-! ### The backlight update (R132 to R134) -/

theorem targetDuty_le (l : Light) : targetDuty l ≤ 1000 := by
  have base : baseLevel l.filter l.offset ≤ 1000 := by
    unfold baseLevel
    omega
  unfold targetDuty
  dsimp only
  split_ifs <;> omega

theorem targetDuty_of_parked {l : Light} (parked : l.parked = true) : targetDuty l = 0 := if_pos parked

/-- The slew stays between the applied duty and the target. -/
theorem slew_le {applied target bound : Nat} (low : applied ≤ bound) (high : target ≤ bound) :
    slew applied target ≤ bound := by
  unfold slew
  split <;> omega

theorem backlightUpdate_applied (l : Light) :
    (backlightUpdate l).applied = if l.jump then targetDuty l else slew l.applied (targetDuty l) := rfl

theorem dutyKept_backlightUpdate {s : State} (kept : DutyKept s) :
    DutyKept { s with light := backlightUpdate s.light } := by
  obtain ⟨-, applied, record, dark⟩ := kept
  refine ⟨targetDuty_le _, ?_, record, fun parked => ?_⟩
  · dsimp only
    rw [backlightUpdate_applied]
    split
    · exact targetDuty_le _
    · exact slew_le applied (targetDuty_le _)
  · have target : targetDuty s.light = 0 := targetDuty_of_parked (record.2 parked)
    refine ⟨target, ?_⟩
    obtain ⟨-, out⟩ := dark parked
    dsimp only
    rw [backlightUpdate_applied, target, out]
    exact ite_self 0

/-! ### A converter scan completes (R127) -/

theorem convertedLight_duty (ambient supply panelTemp : Nat) (l : Light) :
    (convertedLight ambient supply panelTemp l).target = l.target ∧
      (convertedLight ambient supply panelTemp l).applied = l.applied ∧
      (convertedLight ambient supply panelTemp l).parked = l.parked := by
  rw [convertedLight_eq]
  exact ⟨rfl, rfl, rfl⟩

theorem dutyKept_scanCompletes (ambient supply panelTemp : Nat) {s : State} (kept : DutyKept s) :
    DutyKept (scanCompletes ambient supply panelTemp s) := by
  have converted : SameDuty s { s with light := convertedLight ambient supply panelTemp s.light } := by
    simp [convertedLight_duty]
  unfold scanCompletes
  split
  · exact dutyKept_backlightUpdate (dutyKept_of_same kept (converted.trans (by simp)))
  · exact kept

/-! ### The park transitions (R141 to R143) -/

/-- The entry to PARKED puts the light out, whatever it was. -/
theorem dutyKept_enterParked (s : State) : DutyKept (enterParked s) := by
  simp [DutyKept, enterParked]

/-- The leaving of PARKED, once the park state has changed. -/
theorem dutyKept_leaveParked {s : State} (target : s.light.target ≤ 1000) (applied : s.light.applied ≤ 1000)
    (left : s.park.state ≠ .parked) : DutyKept (leaveParked s) := by
  simp [DutyKept, leaveParked_eq, target, applied, left]

theorem dutyKept_wakeUp {s : State} (kept : DutyKept s) : DutyKept (wakeUp s) := by
  obtain ⟨target, applied, -, -⟩ := kept
  unfold wakeUp
  split
  · exact dutyKept_leaveParked target applied nofun
  · exact dutyKept_leaveParked target applied nofun

theorem dutyKept_doWake (m : Master) {s : State} (kept : DutyKept s) : DutyKept (doWake m s) := by
  have answered : DutyKept (reply m .wake .ok [] s) := dutyKept_of_same kept (by simp)
  unfold doWake
  cases m with
  | tablet => exact dutyKept_of_same kept (by simp)
  | vehicle =>
    dsimp only
    split
    · exact answered
    · exact dutyKept_of_same answered (by simp)
    · exact dutyKept_wakeUp answered

/-- From one park state to another, neither of them PARKED. -/
theorem dutyKept_of_notParked {s : State} (kept : DutyKept s) (was : s.park.state ≠ .parked) {park : Park}
    (becomes : park.state ≠ .parked) : DutyKept { s with park := park } := by
  obtain ⟨target, applied, record, -⟩ := kept
  exact ⟨target, applied, by simpa [becomes, was] using record, fun parked => absurd parked becomes⟩

theorem dutyKept_ignitionEdge (on : Bool) {s : State} (kept : DutyKept s) : DutyKept (ignitionEdge on s) := by
  have ⟨target, applied, _, _⟩ := kept
  unfold ignitionEdge
  split
  · split
    · exact kept
    · next pending => exact dutyKept_of_notParked kept (by simp [pending]) nofun
    · exact dutyKept_leaveParked target applied nofun
  · split
    · next run =>
      split
      · exact dutyKept_enterParked s
      · exact dutyKept_of_notParked kept (by simp [run]) nofun
    · exact kept
    · exact kept

theorem dutyKept_countdownExpires {s : State} (kept : DutyKept s) : DutyKept (countdownExpires s) := by
  unfold countdownExpires
  split
  · exact dutyKept_enterParked s
  · exact kept

theorem dutyKept_takeWakeSample (senses : BitVec 16) {s : State} (kept : DutyKept s) :
    DutyKept (takeWakeSample senses s) := by
  unfold takeWakeSample
  split_ifs
  · exact kept
  · exact kept
  · unfold keyWake
    split
    · exact dutyKept_wakeUp kept
    · exact kept
  · exact kept

/-! ### The input sample (R146, R147) -/

theorem dutyKept_qualifiedEdge (n : Nat) (level : Bool) (i : DiscreteInput) {s : State} (kept : DutyKept s) :
    DutyKept (qualifiedEdge n level i s) := by
  have handed (t : State) (kept : DutyKept t) : DutyKept (handEdge n level t) := by
    unfold handEdge
    split_ifs
    · exact dutyKept_of_same kept (by simp)
    · exact dutyKept_ignitionEdge level kept
    · exact kept
  exact dutyKept_of_same (handed _ (dutyKept_of_same kept (by simp)))
    (foldl_sameDuty (fun t m => by simp) _ _)

theorem dutyKept_sampleInput (sample : Bool × Nat) {s : State} (kept : DutyKept s) :
    DutyKept (sampleInput s sample) := by
  unfold sampleInput
  split
  · split_ifs
    · exact dutyKept_of_same kept (by simp)
    · exact dutyKept_qualifiedEdge _ _ _ kept
    · exact dutyKept_of_same kept (by simp)
  · exact kept

theorem dutyKept_takeSample (pins : InputLevels) {s : State} (kept : DutyKept s) : DutyKept (takeSample pins s) := by
  have passed : DutyKept (millisecond s) := dutyKept_of_same kept (by simp)
  exact List.foldlRecOn _ sampleInput passed fun t kept sample _ => dutyKept_sampleInput sample kept

/-! ### Every command -/

/-- Full reset and its release leave RUN or PARK_PENDING with both duties 0 (R125, R140). -/
theorem dutyKept_resetState (ids1 ids0 : Bool) (pins : InputLevels) (scanOut : ScanOut) (converting : Bool)
    (link : LinkState) (cells : List Host.Cell) (s : State) :
    DutyKept (resetState ids1 ids0 pins scanOut converting link cells s) := by
  have state : (Park.afterReset pins.ignition).state ≠ .parked := by
    unfold Park.afterReset
    cases pins.ignition <;> nofun
  exact ⟨Nat.zero_le _, Nat.zero_le _, by simpa [resetState, Light.afterReset] using state,
    fun parked => absurd parked state⟩

/-- The effect of a request keeps it, and so does the taking. -/
theorem dutyKept_taking {m : Master} {r : Request} {body : State → State} (keeps : ∀ {s}, DutyKept s → DutyKept (body s))
    {s t : State} (kept : DutyKept s) (next : taking m r body s = .next t) : DutyKept t := by
  unfold taking at next
  split at next <;> cases next
  · exact keeps (dutyKept_of_same kept (by simp))
  · exact kept

theorem dutyKept_restartUnit (unit : Nat) (m : Master) (units : Nat) {body : State → State}
    (same : ∀ t, SameDuty t (body t)) {s : State} (kept : DutyKept s) : DutyKept (restartUnit unit m units body s) :=
  dutyKept_of_same kept (restartUnit_duty unit m units same s)

theorem dutyKept_exec {c : Instr} {s t : State} (kept : DutyKept s) (next : exec c s = .next t) : DutyKept t := by
  cases c
  case fullReset => cases next; exact dutyKept_resetState _ _ _ _ _ _ _ _
  case resetRelease => cases next; exact dutyKept_resetState _ _ _ _ _ _ _ _
  case wake => exact dutyKept_taking (dutyKept_doWake _) kept next
  case wakeSample => exact whenRunning_holds (dutyKept_takeWakeSample _) kept next
  case inputSample => exact whenRunning_holds (dutyKept_takeSample _) kept next
  case countdownExpiry => exact whenRunning_holds dutyKept_countdownExpires kept next
  case scanCompletion => exact whenRunning_holds (dutyKept_scanCompletes _ _ _) kept next
  case hello =>
    change execHello _ s = _ at next
    unfold execHello at next
    split at next
    · exact dutyKept_taking (fun kept => dutyKept_of_same kept (helloTaken_duty _ _)) kept next
    · exact whenRunning_holds (fun kept => dutyKept_of_same kept (helloArrives_duty _ _)) kept next
  case restartDockLink => cases next; exact dutyKept_restartUnit 0 _ _ restartDock_duty kept
  case restartScanner => cases next; exact dutyKept_restartUnit 1 _ _ restartScan_duty kept
  case restartConverter => cases next; exact dutyKept_restartUnit 2 _ _ restartConvert_duty kept
  case fillCompletion | drainComplete | memoryWritesComplete =>
    exact dutyKept_of_same kept (completeWork_duty next)
  case claim | release | move | scroll | raise | lower | showPane | hidePane | flip | focus | keyAck | repeatSet |
      writeBegin | fillRect | textPut | textDataFrame | textClear | inputAck | inputMode | queryInputs | lineSet |
      queryLines | queryLight | darkCab | parkDelay | scanSet | refusedPacket =>
    exact dutyKept_taking (fun {u} kept => dutyKept_of_same kept (by simp)) kept next
  case dockLinkPacketReceived | keepalive | writeData | vehicleFrameReceived | vehicleSilenceExpiry | vehicleFrameSent |
      dockPacketSent | sendTimerExpiry | silenceTimerExpiry | graceTimerExpiry | frameBoundary | scanEvent |
      captureScan | repeatExpiry | converterScanStart | linkLedToggle =>
    exact whenRunning_holds (fun kept => dutyKept_of_same kept (by simp)) kept next

theorem dutyKept_step {s t : State} (kept : DutyKept s) (next : step s = .next t) : DutyKept t := by
  unfold step at next
  split at next
  · cases next
    exact dutyKept_of_same kept (by simp)
  · next rest _ => exact dutyKept_exec (s := { s with pending := rest }) kept next

/-- Settles O45: every command by `dutyKept_exec`; BLPWM follows the applied duty out of reset. -/
theorem stepsKeepTheDutyRange : Obligations.StepsKeepTheDutyRange := by
  refine ⟨fun s t => dutyKept_step, fun s kept => ?_⟩
  obtain ⟨-, applied, -, dark⟩ := kept
  refine ⟨?_, fun running => if_pos running, fun off => ?_⟩
  · unfold State.backlightDuty
    split
    · exact applied
    · exact Nat.zero_le _
  · unfold State.backlightDuty
    split
    · next running =>
      obtain parked | held := off
      · obtain ⟨-, out⟩ := dark parked
        exact out
      · exact absurd (running.symm.trans held) nofun
    · rfl

end Sys2Proof.Proofs

/-! ## WAKE and the qualified edges of IGNITION (O48) -/

namespace Sys2Proof.Proofs

open Sys2Proof.Machine Sys2Proof.Safety

/-- A WAKE of the vehicle unit in its turn is answered and moves the park state by the table of R143. -/
theorem exec_wake_of_turn {s : State} (turn : Turn .vehicle .wake s) :
    exec (.wake .vehicle) s = .next (doWake .vehicle (taken .vehicle s)) :=
  taking_of_turn turn _

/-- The answer of a WAKE, before its effect. -/
theorem doWake_taken (s : State) :
    doWake .vehicle (taken .vehicle s) =
      match s.park.state with
      | .run => answered .vehicle 0x52 .ok [] s
      | .parkPending => restartCountdown (answered .vehicle 0x52 .ok [] s)
      | .parked => wakeUp (answered .vehicle 0x52 .ok [] s) := by
  have reply : reply .vehicle .wake .ok [] (taken .vehicle s) = answered .vehicle 0x52 .ok [] s :=
    reply_taken .vehicle .wake .ok [] s
  rw [doWake, reply]
  rfl

/-- Ignition on in PARKED leaves it for RUN, where the qualified level is the one that the edge brings (R141). -/
theorem leaveParked_toRun {s : State} (on : s.ignitionOn = true) : leaveParked (toRun s) = leftPark s := by
  rw [← wakeUp_eq_leftPark, wakeUp, if_pos on]

/-- Settles O48: WAKE by `doWake_taken`, the edges by the branches of `ignitionEdge`; PARKED is left by `leftPark` and
entered by `enterParked_parkedTo`. -/
theorem wakeAndIgnitionMoveThePark : Obligations.WakeAndIgnitionMoveThePark := by
  intro s
  refine ⟨fun turn => ?_, fun on => ?_, fun other => ?_, fun run delay => ?_, fun run delay => ?_⟩
  · rw [exec_wake_of_turn turn, doWake_taken]
    refine ⟨fun run => ?_, fun pending => ?_, fun parked => ?_⟩
    · rw [run]
    · have restarted (t : State) (same : t.park = s.park) : restartCountdown t =
          { t with park := { s.park with countdown := some s.park.countdownLength } } := by
        rw [restartCountdown, if_pos (by rw [same, pending]), same]
      rw [pending]
      exact congrArg _ (restarted _ rfl)
    · rw [parked, ← wakeUp_eq_leftPark]
  · unfold ignitionEdge
    rw [if_pos rfl]
    cases s.park.state with
    | run => rfl
    | parkPending => rfl
    | parked => exact leaveParked_toRun on
  · unfold ignitionEdge
    rw [if_neg nofun]
    cases state : s.park.state with
    | run => exact absurd state other
    | parkPending => rfl
    | parked => rfl
  · have edge : ignitionEdge false s = beginCountdown (1000 * s.park.delay) s := by
      simp only [ignitionEdge, run, if_neg (Nat.ne_of_gt delay), Bool.false_eq_true, if_false]
    exact edge
  · have edge : ignitionEdge false s = enterParked s := by
      simp only [ignitionEdge, run, delay, Bool.false_eq_true, if_false, if_true]
    rw [edge]
    exact enterParked_parkedTo s

end Sys2Proof.Proofs

/-! ## QUERY LIGHT, QUERY INPUTS and QUERY LINES (O49) -/

namespace Sys2Proof.Proofs

open Sys2Proof.Machine Sys2Proof.Safety

/-- A request whose body does no more than reply is answered, and nothing else changes. -/
theorem taking_of_reply {m : Master} {r : Request} {body : State → State} {result : Result} {values : List Byte}
    {s : State} (turn : Turn m r s) (replies : body (taken m s) = reply m r result values (taken m s)) :
    taking m r body s = .next (answered m (requestCode r) result values s) := by
  rw [taking_of_turn turn, replies, reply_taken]

@[simp] theorem taken_light (m : Master) (s : State) : (taken m s).light = s.light := by cases m <;> rfl
@[simp] theorem taken_park (m : Master) (s : State) : (taken m s).park = s.park := by cases m <;> rfl
@[simp] theorem taken_inputs (m : Master) (s : State) : (taken m s).inputs = s.inputs := by cases m <;> rfl
@[simp] theorem taken_lines (m : Master) (s : State) : (taken m s).lines = s.lines := by cases m <;> rfl

/-! ### What each query answers -/

theorem exec_queryLight_all {m : Master} {s : State} (turn : Turn m (.queryLight none) s) :
    exec (.queryLight m none) s = .next (answered m 0x45 .ok
      (lightPage s.light s.park 0 ++ lightPage s.light s.park 1 ++ lightPage s.light s.park 2) s) :=
  taking_of_reply turn (by simp [doQueryLight])

theorem exec_queryLight_page {m : Master} {k : Nat} {s : State} (turn : Turn m (.queryLight (some k)) s) (defined : k ≤ 2) :
    exec (.queryLight m (some k)) s = .next (answered m 0x45 .ok (lightPage s.light s.park k) s) :=
  taking_of_reply turn (by simp [doQueryLight, not_lt.2 defined])

theorem exec_queryLight_undefined {m : Master} {k : Nat} {s : State} (turn : Turn m (.queryLight (some k)) s)
    (undefined : 2 < k) : exec (.queryLight m (some k)) s = .next (answered m 0x45 .badValue [] s) :=
  taking_of_reply turn (by simp [doQueryLight, undefined])

theorem exec_queryInputs_all {m : Master} {s : State} (turn : Turn m (.queryInputs none) s) :
    exec (.queryInputs m none) s = .next (answered m 0x42 .ok (s.inputs.flatMap inputRecord) s) :=
  taking_of_reply turn (by simp [doQueryInputs])

theorem exec_queryInputs_input {m : Master} {n : Nat} {i : DiscreteInput} {s : State}
    (turn : Turn m (.queryInputs (some n)) s) (input : s.inputs[n]? = some i) :
    exec (.queryInputs m (some n)) s = .next (answered m 0x42 .ok (inputRecord i) s) :=
  taking_of_reply turn (by simp [doQueryInputs, input])

theorem exec_queryInputs_undefined {m : Master} {n : Nat} {s : State} (turn : Turn m (.queryInputs (some n)) s)
    (undefined : s.inputs[n]? = none) :
    exec (.queryInputs m (some n)) s = .next (answered m 0x42 .badValue [] s) :=
  taking_of_reply turn (by simp [doQueryInputs, undefined])

theorem exec_queryLines {m : Master} {pins : BitVec 8} {s : State} (turn : Turn m .queryLines s) :
    exec (.queryLines m pins) s = .next (answered m 0x44 .ok (linesBytes s.lines.lines pins) s) :=
  taking_of_reply turn (by simp)

/-! ### The layouts (R178) -/

/-- Eight bits as one number. -/
theorem bitsOf_eight (a b c d e f g h : Bool) :
    bitsOf [a, b, c, d, e, f, g, h] =
      bitWeight a 0 + bitWeight b 1 + bitWeight c 2 + bitWeight d 3 + bitWeight e 4 + bitWeight f 5 + bitWeight g 6
        + bitWeight h 7 := by
  have twice (x : Bool) (n : Nat) : bitWeight x (n + 1) = 2 * bitWeight x n := by
    cases x <;> simp [bitWeight, Nat.pow_succ, Nat.mul_comm]
  have unit (x : Bool) : (if x = true then 1 else 0) = bitWeight x 0 := rfl
  simp only [bitsOf, List.foldr, unit, twice]
  omega

/-- Settles O49: each answer by the equation of its query; the mode of an input and the bits of the lines are laid out
case by case. -/
theorem queriesGiveTheState : Obligations.QueriesGiveTheState := by
  intro m pins s two bit pageOf inputOf
  have page : ∀ k, lightPage s.light s.park k = pageOf k := by
    intro k
    match k with
    | 0 => rfl
    | 1 => rfl
    | k + 2 =>
      simp only [lightPage, pageOf]
      cases s.park.state <;> rfl
  have input : inputRecord = inputOf := by
    funext i
    simp only [inputRecord, inputOf]
    rcases i.mode with (_ | _ | _) | (_ | _) <;> rfl
  refine ⟨fun turn => ?_, fun k turn => ?_, fun turn => ?_, fun n turn => ?_,
    fun a b c d e f g h lines turn => ?_⟩
  · rw [exec_queryLight_all turn, page, page, page]
  · split
    · next defined => rw [exec_queryLight_page turn defined, page]
    · next undefined => exact exec_queryLight_undefined turn (not_le.1 undefined)
  · rw [exec_queryInputs_all turn, input]
  · split
    · next i found => rw [exec_queryInputs_input turn found, input]
    · next undefined => exact exec_queryInputs_undefined turn undefined
  · rw [exec_queryLines turn, lines]
    simp only [linesBytes, List.map, bitsOf_eight]
    rfl

end Sys2Proof.Proofs

/-! ## INPUT ACK and INPUT MODE (O50) -/

namespace Sys2Proof.Proofs

open Sys2Proof.Machine Sys2Proof.Safety

theorem exec_inputAck (m : Master) (n : Nat) (s : State) :
    exec (.inputAck m n) s = taking m (.inputAck n) (doInputAck m n) s := rfl
theorem exec_inputMode (m : Master) (n mode sense time : Nat) (s : State) :
    exec (.inputMode m n mode sense time) s =
      taking m (.inputMode n mode sense time) (doInputMode m n mode sense time) s := rfl

theorem taken_setInput (m : Master) (n : Nat) (i : DiscreteInput) (s : State) :
    (taken m s).setInput n i = taken m (s.setInput n i) := by cases m <;> rfl

theorem answered_setInput (m : Master) (code : Nat) (result : Result) (values : List Byte) (n : Nat) (i : DiscreteInput)
    (s : State) : (answered m code result values s).setInput n i = answered m code result values (s.setInput n i) := by
  cases m <;> rfl

@[simp] theorem answered_inputs (m : Master) (code : Nat) (result : Result) (values : List Byte) (s : State) :
    (answered m code result values s).inputs = s.inputs := by cases m <;> rfl

theorem setInput_setInput (n : Nat) (i j : DiscreteInput) (s : State) :
    (s.setInput n i).setInput n j = s.setInput n j := by
  simp [State.setInput, List.set_set]

theorem getElem?_setInput {n : Nat} {i : DiscreteInput} {s : State} (input : s.inputs[n]? = some i) (j : DiscreteInput) :
    (s.setInput n j).inputs[n]? = some j := by
  obtain ⟨bound, -⟩ := List.getElem?_eq_some_iff.1 input
  exact List.getElem?_set_self bound

/-! ### INPUT ACK (R149) -/

theorem setFlag_self (i : DiscreteInput) (m : Master) : i.setFlag m (i.flag m) (i.ack m) = i := by cases m <;> rfl

/-- An acknowledgement changes the flag and the ack record of its sender alone. -/
theorem acknowledged_eq (i : DiscreteInput) (m : Master) :
    i.acknowledged m = i.setFlag m (acked i (i.flag m) (i.ack m)).1 (acked i (i.flag m) (i.ack m)).2 := by
  unfold DiscreteInput.acknowledged acked
  cases flag : i.flag m with
  | false =>
    have kept := setFlag_self i m
    rw [flag] at kept
    exact kept.symm
  | true =>
    simp only [if_true]
    cases i.mode with
    | edge => rfl
    | level active =>
      dsimp only
      split <;> rfl

theorem inputAck_refused {m : Master} {n : Nat} {s : State} (undefined : s.inputs[n]? = none) :
    RefusedWith (.inputAck m n) 0x40 .badValue s :=
  refusedWith_of_taking rfl (exec_inputAck ..) (by simp only [doInputAck, taken_inputs, undefined]) rfl

theorem exec_inputAck_of_turn {m : Master} {n : Nat} {i : DiscreteInput} {s : State} (turn : Turn m (.inputAck n) s)
    (input : s.inputs[n]? = some i) :
    exec (.inputAck m n) s = .next (answered m 0x40 .ok [] (s.setInput n (i.acknowledged m))) := by
  rw [exec_inputAck, taking_of_turn turn]
  simp only [doInputAck, taken_inputs, input, taken_setInput, reply_taken]
  rfl

/-! ### INPUT MODE (R150) -/

theorem readMode_undefined {mode sense : Nat} (undefined : 1 < mode ∨ 2 < sense ∨ (mode = 1 ∧ 1 < sense)) :
    readMode mode sense = none := by
  unfold readMode
  split
  case h_6 => rfl
  all_goals omega

theorem readMode_defined {mode sense : Nat} (modes : mode ≤ 1) (senses : sense ≤ 2) (levels : mode = 1 → sense ≤ 1) :
    readMode mode sense = some
      (if mode = 0 then (if sense = 0 then .edge .rising else if sense = 1 then .edge .falling else .edge .both)
        else .level (decide (sense = 1))) := by
  interval_cases mode
  · interval_cases sense <;> rfl
  · have senses := levels rfl
    interval_cases sense <;> rfl

/-- The time is clamped to 1 to 255 for AUX0 and AUX1 and kept for the other inputs. -/
theorem newQualTime_eq (n time : Nat) (i : DiscreteInput) :
    newQualTime n time i = if n < 3 then i.qualTime else if time < 1 then 1 else if 255 < time then 255 else time := by
  unfold newQualTime
  split_ifs <;> omega

/-- Step 4 of R150 waits for LEVEL mode over its active level. -/
theorem levelActive_eq (i : DiscreteInput) : i.levelActive = decide (i.mode = .level i.qualified) := by
  unfold DiscreteInput.levelActive
  cases i.mode with
  | edge => rfl
  | level active => simp [beq_eq_decide, eq_comm]

theorem raiseFlags_of_inactive {n : Nat} {i : DiscreteInput} {s : State} (input : s.inputs[n]? = some i)
    (inactive : i.levelActive = false) : raiseFlags n s = s := by
  simp [raiseFlags, input, inactive]

theorem raiseFlags_of_active {n : Nat} {i : DiscreteInput} {s : State} (input : s.inputs[n]? = some i)
    (active : i.levelActive = true) :
    raiseFlags n s =
      handed .vehicle (.notice (.inputChange n i.qualified i.interval))
        (handed .tablet (.notice (.inputChange n i.qualified i.interval))
          (s.setInput n ((i.setFlag .tablet true false).setFlag .vehicle true false))) := by
  simp only [raiseFlags, input, active, if_true, handVehicle_eq_handed, handTablet_eq_handed]

theorem inputMode_refused {m : Master} {n mode sense time : Nat} {s : State}
    (undefined : s.inputs[n]? = none ∨ readMode mode sense = none) :
    RefusedWith (.inputMode m n mode sense time) 0x41 .badValue s := by
  refine refusedWith_of_taking rfl (exec_inputMode ..) ?_ rfl
  simp only [doInputMode, taken_inputs]
  obtain input | code := undefined
  · rw [input]
  · rw [code]
    cases s.inputs[n]? <;> rfl

/-- A defined INPUT MODE in its turn: the record replaced, the answer, then step 4 of R150. -/
theorem exec_inputMode_of_turn {m : Master} {n mode sense time : Nat} {i : DiscreteInput} {md : InputMode} {s : State}
    (turn : Turn m (.inputMode n mode sense time) s) (input : s.inputs[n]? = some i)
    (defined : readMode mode sense = some md) :
    exec (.inputMode m n mode sense time) s = .next (raiseFlags n
      (answered m 0x41 .ok [byte n, byte mode, byte sense, byte (newQualTime n time i)]
        (s.setInput n (i.remoded n md time)))) := by
  rw [exec_inputMode, taking_of_turn turn]
  simp only [doInputMode, taken_inputs, input, defined, taken_setInput, reply_taken]
  rfl

/-- Settles O50: INPUT ACK by `acknowledged_eq`, INPUT MODE by whether its mode finds the active level. -/
theorem inputAckAndModeActOnFlags : Obligations.InputAckAndModeActOnFlags := by
  intro m n mode sense time s
  refine ⟨fun undefined => ⟨inputAck_refused undefined, inputMode_refused (.inl undefined)⟩,
    fun undefined => inputMode_refused (.inr (readMode_undefined undefined)),
    fun i input => ⟨?_, ?_⟩⟩
  · intro after turn
    rw [exec_inputAck_of_turn turn input]
    rw [acknowledged_eq]
    cases m <;> rfl
  · intro md code modes senses levels turn q active after t change
    have defined : readMode mode sense = some md := code ▸ readMode_defined modes senses levels
    have clamped : newQualTime n time i = q := newQualTime_eq n time i
    have record (values : List Byte) :
        (answered m 0x41 .ok values (s.setInput n (i.remoded n md time))).inputs[n]? = some (i.remoded n md time) := by
      rw [answered_inputs, getElem?_setInput input]
    have activity : (i.remoded n md time).levelActive = active := levelActive_eq _
    rw [exec_inputMode_of_turn turn input defined]
    cases found : active with
    | false =>
      have kept : i.remoded n md time = after := by
        simp only [DiscreteInput.remoded, after, clamped, found]
      rw [raiseFlags_of_inactive (record _) (activity.trans found), kept, clamped]
      rfl
    | true =>
      have raised : ((i.remoded n md time).setFlag .tablet true false).setFlag .vehicle true false = after := by
        simp only [DiscreteInput.remoded, DiscreteInput.setFlag, after, clamped, found]
      rw [raiseFlags_of_active (record _) (activity.trans found), answered_setInput, setInput_setInput, raised, clamped]
      rfl

end Sys2Proof.Proofs

/-! ## The 1 ms sample of the inputs (O51) -/

namespace Sys2Proof.Proofs

open Sys2Proof.Machine Sys2Proof.Safety

/-! ### The consumers of an edge do not read the Input Block -/

/-- The state with other input records. -/
def withInputs (inputs : List DiscreteInput) (s : State) : State := { s with inputs := inputs }

theorem setInput_withInputs (inputs : List DiscreteInput) (n : Nat) (i : DiscreteInput) (s : State) :
    (withInputs inputs s).setInput n i = withInputs (inputs.set n i) s := rfl

theorem handed_withInputs (m : Master) (msg : Message) (inputs : List DiscreteInput) (s : State) :
    handed m msg (withInputs inputs s) = withInputs inputs (handed m msg s) := by cases m <;> rfl

theorem tryReport_withInputs (m : Master) (inputs : List DiscreteInput) (s : State) :
    tryReport m (withInputs inputs s) = withInputs inputs (tryReport m s) := by
  have due : (withInputs inputs s).reportDue m = s.reportDue m := by cases m <;> rfl
  unfold tryReport
  rw [due]
  split
  · simp only [hand_eq_handed]
    cases m <;> rfl
  · rfl

theorem flush_withInputs (inputs : List DiscreteInput) (s : State) :
    flush (withInputs inputs s) = withInputs inputs (flush s) := by
  have placed : flushed (withInputs inputs s) = withInputs inputs (flushed s) := rfl
  rw [flush_eq, placed, tryReport_withInputs, tryReport_withInputs, ← flush_eq]

theorem enterParked_withInputs (inputs : List DiscreteInput) (s : State) :
    enterParked (withInputs inputs s) = withInputs inputs (enterParked s) := by
  have off : parkedOff (withInputs inputs s) = withInputs inputs (parkedOff s) := rfl
  rw [enterParked_eq, enterParked_eq, off, flush_withInputs]
  rfl

theorem leaveParked_withInputs (inputs : List DiscreteInput) (s : State) :
    leaveParked (withInputs inputs s) = withInputs inputs (leaveParked s) := by
  rw [leaveParked_eq, leaveParked_eq]
  rfl

theorem ignitionEdge_withInputs (level : Bool) (inputs : List DiscreteInput) (s : State) :
    ignitionEdge level (withInputs inputs s) = withInputs inputs (ignitionEdge level s) := by
  have park : (withInputs inputs s).park = s.park := rfl
  unfold ignitionEdge
  rw [park]
  cases level with
  | true =>
    rw [if_pos rfl, if_pos rfl]
    cases s.park.state with
    | run => rfl
    | parkPending => rfl
    | parked => exact leaveParked_withInputs inputs (toRun s)
  | false =>
    simp only [Bool.false_eq_true, if_false]
    cases s.park.state with
    | run =>
      by_cases now : s.park.delay = 0
      · simp only [now, if_true, enterParked_withInputs]
      · simp only [now, if_false]
        rfl
    | parkPending => rfl
    | parked => rfl

theorem linkLed_withInputs (before after : LinkState) (inputs : List DiscreteInput) (s : State) :
    linkLed before after (withInputs inputs s) = withInputs inputs (linkLed before after s) := by
  cases after with
  | up => rfl
  | absent => rfl
  | attaching | hold =>
    unfold linkLed
    dsimp only
    split <;> rfl

theorem reportLink_withInputs (before : LinkState) (inputs : List DiscreteInput) (s : State) :
    reportLink before (withInputs inputs s) = withInputs inputs (reportLink before s) := by
  have dock : (withInputs inputs s).dock = s.dock := rfl
  have row (after : LinkState) : rewriteField .tab (tabText before) (tabText after) (withInputs inputs s) =
      withInputs inputs (rewriteField .tab (tabText before) (tabText after) s) := by
    unfold rewriteField
    split <;> rfl
  unfold reportLink
  rw [dock, row, linkLed_withInputs]
  split <;> rfl

theorem bayEdge_withInputs (level : Bool) (inputs : List DiscreteInput) (s : State) :
    bayEdge level (withInputs inputs s) = withInputs inputs (bayEdge level s) := by
  have dock : (withInputs inputs s).dock = s.dock := rfl
  unfold bayEdge
  rw [dock]
  split
  · exact reportLink_withInputs _ _ { s with dock := { s.dock with link := .attaching } }
  · exact reportLink_withInputs _ _ { s with dock := { s.dock with link := .absent } }
  · exact reportLink_withInputs _ _ { s with dock := { s.dock with
      link := .hold, silence := none, send := none, graceTimer := some (s.now + s.dock.grace), outbound := [] } }
  · rfl

theorem handEdge_withInputs (n : Nat) (level : Bool) (inputs : List DiscreteInput) (s : State) :
    handEdge n level (withInputs inputs s) = withInputs inputs (handEdge n level s) := by
  unfold handEdge
  split_ifs
  · exact bayEdge_withInputs ..
  · exact ignitionEdge_withInputs ..
  · rfl

/-! ### One input's edge: the consumer, then the masters -/

theorem selects_eq_edgeSelected (mode : InputMode) (level : Bool) : mode.selects level = edgeSelected mode level := by
  rcases mode with (_ | _ | _) | _ <;> rfl

/-- An edge changes a master's flag and ack record as `flagAfter` says. -/
theorem flagAfterEdge_eq (i : DiscreteInput) (m : Master) (level : Bool) :
    i.flagAfterEdge m level =
      i.setFlag m (flagAfter i.mode level (i.flag m) (i.ack m)).1 (flagAfter i.mode level (i.flag m) (i.ack m)).2 := by
  have kept := setFlag_self i m
  unfold DiscreteInput.flagAfterEdge flagAfter
  rw [selects_eq_edgeSelected]
  split
  · cases flag : i.flag m with
    | false => rfl
    | true =>
      rw [flag] at kept
      exact kept.symm
  · cases i.mode with
    | edge => exact kept.symm
    | level =>
      cases ack : i.ack m with
      | true => rfl
      | false =>
        rw [ack] at kept
        exact kept.symm

/-- An edge taken for one master: its flag and ack record, and INPUT CHANGE if the edge sets the flag. -/
theorem edgeForFlag_withInputs {n : Nat} {inputs : List DiscreteInput} {i : DiscreteInput} (input : inputs[n]? = some i)
    (level : Bool) (interval : Nat) (m : Master) (s : State) :
    edgeForFlag n level interval (withInputs inputs s) m =
      withInputs (inputs.set n (i.flagAfterEdge m level))
        (if edgeSelected i.mode level && !i.flag m then handed m (.notice (.inputChange n level interval)) s else s) := by
  have found : (withInputs inputs s).inputs[n]? = some i := input
  simp only [edgeForFlag, found, selects_eq_edgeSelected, setInput_withInputs, hand_eq_handed, handed_withInputs]
  split <;> rfl

/-- An input one millisecond later, before its sample. -/
def aged (i : DiscreteInput) : DiscreteInput := { i with interval := min 65535 (i.interval + 1) }

/-- What a sample of input `n` does outside the Input Block: at an edge the consumer takes it, then the masters are told. -/
def edgeEffects (n : Nat) (i : DiscreteInput) (pin : Bool) (s : State) : State :=
  edgeTold n i pin (if edgeTaken i pin then handEdge n pin s else s)

theorem edgeTold_withInputs (n : Nat) (i : DiscreteInput) (pin : Bool) (inputs : List DiscreteInput) (s : State) :
    edgeTold n i pin (withInputs inputs s) = withInputs inputs (edgeTold n i pin s) := by
  unfold edgeTold
  split
  · cases i.tabletFlag <;> cases i.vehicleFlag <;> rfl
  · rfl

theorem edgeEffects_withInputs (n : Nat) (i : DiscreteInput) (pin : Bool) (inputs : List DiscreteInput) (s : State) :
    edgeEffects n i pin (withInputs inputs s) = withInputs inputs (edgeEffects n i pin s) := by
  unfold edgeEffects
  rw [handEdge_withInputs, ← edgeTold_withInputs]
  split <;> rfl

theorem edgeEffects_of_no_edge {i : DiscreteInput} {pin : Bool} (steady : edgeTaken i pin = false) (n : Nat) (s : State) :
    edgeEffects n i pin s = s := by
  simp [edgeEffects, edgeTold, steady]

theorem edgeTaken_iff (i : DiscreteInput) (pin : Bool) :
    edgeTaken i pin = true ↔ pin ≠ i.qualified ∧ i.qualTime ≤ i.changeCount + 1 := by
  simp [edgeTaken]

/-- The record at a qualified edge, through the tablet's flag and then the vehicle unit's. -/
theorem sampled_of_edge {i : DiscreteInput} {pin : Bool} (edge : edgeTaken i pin = true) :
    ((DiscreteInput.flagAfterEdge { aged i with qualified := pin, latest := pin, changeCount := 0, interval := 0 } .tablet
      pin).flagAfterEdge .vehicle pin) = sampled i pin := by
  obtain ⟨change, last⟩ := (edgeTaken_iff i pin).1 edge
  rw [flagAfterEdge_eq, flagAfterEdge_eq, sampled, if_neg change, if_neg (not_lt.2 last)]
  rfl

/-- A qualified edge (R147, R148): the record, the consumer, the notices. -/
theorem qualifiedEdge_withInputs {n : Nat} {inputs : List DiscreteInput} {i : DiscreteInput} {pin : Bool}
    (input : inputs[n]? = some (aged i)) (edge : edgeTaken i pin = true) (s : State) :
    qualifiedEdge n pin (aged i) (withInputs inputs s) =
      withInputs (inputs.set n (sampled i pin)) (edgeEffects n i pin s) := by
  obtain ⟨bound, -⟩ := List.getElem?_eq_some_iff.1 input
  have replaced (j : DiscreteInput) : (inputs.set n j)[n]? = some j := List.getElem?_set_self bound
  simp only [qualifiedEdge, List.foldl, setInput_withInputs, handEdge_withInputs]
  rw [edgeForFlag_withInputs (replaced _), List.set_set, edgeForFlag_withInputs (replaced _), List.set_set,
    sampled_of_edge edge]
  simp only [flagAfterEdge_eq, DiscreteInput.setFlag, edgeEffects, edgeTold, edge, Bool.true_and, if_true, aged,
    DiscreteInput.flag]
  refine congrArg _ ?_
  by_cases selected : edgeSelected i.mode pin = true
  · simp only [selected, Bool.true_and, Bool.not_eq_true', if_true]
    cases i.tabletFlag <;> cases i.vehicleFlag <;> rfl
  · simp only [selected, Bool.false_and, Bool.false_eq_true, if_false]

/-- One input's sample (R146): its record is `sampled`, and the rest of the part sees its edge alone. -/
theorem sampleInput_withInputs {n : Nat} {inputs : List DiscreteInput} {i : DiscreteInput}
    (input : inputs[n]? = some (aged i)) (pin : Bool) (s : State) :
    sampleInput (withInputs inputs s) (pin, n) =
      withInputs (inputs.set n (sampled i pin)) (edgeEffects n i pin s) := by
  have found : (withInputs inputs s).inputs[n]? = some (aged i) := input
  simp only [sampleInput, found]
  by_cases same : pin = i.qualified
  · have steady : edgeTaken i pin = false := by simp [edgeTaken, same]
    rw [if_pos (show pin = (aged i).qualified from same), edgeEffects_of_no_edge steady, sampled, if_pos same]
    rfl
  · rw [if_neg (show ¬pin = (aged i).qualified from same)]
    by_cases last : i.qualTime ≤ i.changeCount + 1
    · rw [if_pos (show (aged i).qualTime ≤ (aged i).changeCount + 1 from last)]
      exact qualifiedEdge_withInputs input ((edgeTaken_iff i pin).2 ⟨same, last⟩) s
    · have steady : edgeTaken i pin = false := by simp [edgeTaken, last]
      rw [if_neg (show ¬(aged i).qualTime ≤ (aged i).changeCount + 1 from last), edgeEffects_of_no_edge steady, sampled,
        if_neg same, if_pos (not_le.1 last)]
      rfl

/-! ### The sample of the five inputs -/

/-- The five samples in ascending number: each record moves by itself, and the edges act one after another. -/
theorem takeSample_eq (pins : InputLevels) {bay ignition lock aux0 aux1 : DiscreteInput} {s : State}
    (five : s.inputs = [bay, ignition, lock, aux0, aux1]) :
    takeSample pins s =
      edgeEffects 4 aux1 pins.aux1 (edgeEffects 3 aux0 pins.aux0 (edgeEffects 2 lock pins.lock
        (edgeEffects 1 ignition pins.ignition (edgeEffects 0 bay pins.bay (withInputs
          [sampled bay pins.bay, sampled ignition pins.ignition, sampled lock pins.lock, sampled aux0 pins.aux0,
            sampled aux1 pins.aux1] (millisecond s)))))) := by
  have passed : millisecond s = withInputs [aged bay, aged ignition, aged lock, aged aux0, aged aux1] (millisecond s) := by
    simp only [millisecond, withInputs, five]
    rfl
  have samples : (pinList pins).zipIdx =
      [(pins.bay, 0), (pins.ignition, 1), (pins.lock, 2), (pins.aux0, 3), (pins.aux1, 4)] := rfl
  rw [takeSample, samples, passed]
  simp only [List.foldl]
  rw [sampleInput_withInputs (i := bay) rfl, sampleInput_withInputs (i := ignition) rfl,
    sampleInput_withInputs (i := lock) rfl, sampleInput_withInputs (i := aux0) rfl, sampleInput_withInputs (i := aux1) rfl]
  simp only [edgeEffects_withInputs]
  rfl

/-- Settles O51 by `takeSample_eq`: BAY's and IGNITION's edges have their consumers, the other three have none. -/
theorem sampleQualifiesTheInputs : Obligations.SampleQualifiesTheInputs := by
  intro pins bay ignition lock aux0 aux1 s running five start afterBay afterIgnition
  have unconsumed {n : Nat} (other : 2 ≤ n) (i : DiscreteInput) (pin : Bool) (t : State) :
      edgeEffects n i pin t = edgeTold n i pin t := by
    have nobody : handEdge n pin t = t := by
      rw [handEdge, if_neg (by omega), if_neg (by omega)]
    rw [edgeEffects, nobody, ite_self]
  have sample : exec (.inputSample pins) s = .next (takeSample pins s) := whenRunning_of_running running _
  rw [sample, takeSample_eq pins five, unconsumed (by decide), unconsumed (by decide), unconsumed (by decide)]
  rfl

end Sys2Proof.Proofs

/-! ## LINE SET and the LINK LED (O52) -/

namespace Sys2Proof.Proofs

open Sys2Proof.Machine Sys2Proof.Safety

/-! ### LINE SET (R152, R154) -/

theorem exec_lineSet (m : Master) (n direction latch : Nat) (s : State) :
    exec (.lineSet m n direction latch) s =
      taking m (.lineSet n direction latch) (doLineSet m n direction latch) s := rfl

theorem lineOwner_eq_tablet_iff {n : Nat} (line : n ≤ 7) : lineOwner n = .tablet ↔ n ∈ [0, 1, 2, 7] := by
  interval_cases n <;> decide

theorem lineOwner_eq_vehicle_iff {n : Nat} (line : n ≤ 7) : lineOwner n = .vehicle ↔ n ∈ [5, 6] := by
  interval_cases n <;> decide

/-- The lines that a master owns (R152). -/
theorem lineOwner_eq_masterOwner_iff {n : Nat} (line : n ≤ 7) (m : Master) :
    lineOwner n = masterOwner m ↔ (m = .tablet ∧ n ∈ [0, 1, 2, 7]) ∨ (m = .vehicle ∧ n ∈ [5, 6]) := by
  cases m with
  | tablet => simpa [masterOwner] using lineOwner_eq_tablet_iff line
  | vehicle => simpa [masterOwner] using lineOwner_eq_vehicle_iff line

theorem lineSet_refused_value {m : Master} {n direction latch : Nat} {s : State}
    (undefined : 7 < n ∨ 1 < direction ∨ 1 < latch) :
    RefusedWith (.lineSet m n direction latch) 0x43 .badValue s :=
  refusedWith_of_taking rfl (exec_lineSet ..) (by rw [doLineSet, if_pos undefined]) rfl

theorem lineSet_refused_owner {m : Master} {n direction latch : Nat} {s : State}
    (defined : ¬(7 < n ∨ 1 < direction ∨ 1 < latch)) (other : lineOwner n ≠ masterOwner m) :
    RefusedWith (.lineSet m n direction latch) 0x43 .notOwner s :=
  refusedWith_of_taking rfl (exec_lineSet ..) (by rw [doLineSet, if_neg defined, if_pos other, ite_self]) rfl

/-- The state with another line record. -/
def withLine (n : Nat) (l : IndicatorLine) (s : State) : State :=
  { s with lines := { s.lines with lines := s.lines.lines.set n l } }

theorem taken_withLine (m : Master) (n : Nat) (l : IndicatorLine) (s : State) :
    withLine n l (taken m s) = taken m (withLine n l s) := by cases m <;> rfl

theorem exec_lineSet_of_turn {m : Master} {n direction latch : Nat} {s : State}
    (turn : Turn m (.lineSet n direction latch) s) (defined : ¬(7 < n ∨ 1 < direction ∨ 1 < latch))
    (owner : lineOwner n = masterOwner m) :
    exec (.lineSet m n direction latch) s = .next (answered m 0x43 .ok [byte n, byte direction, byte latch]
      (withLine n { out := decide (direction = 1), latch := decide (latch = 1) } s)) := by
  have master : lineOwner n ≠ .part := by
    rw [owner]
    cases m <;> nofun
  have body : doLineSet m n direction latch (taken m s) =
      reply m (.lineSet n direction latch) .ok [byte n, byte direction, byte latch]
        (withLine n { out := decide (direction = 1), latch := decide (latch = 1) } (taken m s)) := by
    rw [doLineSet, if_neg defined, if_neg master, if_neg (not_not.2 owner)]
    rfl
  rw [exec_lineSet, taking_of_turn turn, body, taken_withLine, reply_taken]
  rfl

/-- The pin of a line whose record has been replaced follows it at once, in a part that runs. -/
theorem linePin_answered_withLine {n : Nat} {s : State} (running : s.scanOut.running = true)
    (bound : n < s.lines.lines.length) (m : Master) (code : Nat) (result : Result) (values : List Byte)
    (l : IndicatorLine) :
    (answered m code result values (withLine n l s)).linePin n = if l.out then some l.latch else none := by
  have lines : (answered m code result values (withLine n l s)).lines.lines = s.lines.lines.set n l := by
    cases m <;> rfl
  have runs : (answered m code result values (withLine n l s)).scanOut.running = true := by cases m <;> exact running
  rw [State.linePin, lines, List.getElem?_set_self bound, runs]
  rfl

/-! ### The LINK LED (R153) -/

theorem exec_linkLedToggle {s : State} (running : s.scanOut.running = true) :
    exec .linkLedToggle s = .next (toggleLed s) := whenRunning_of_running running _

theorem toggleLed_of_due {led : IndicatorLine} {s : State} (line : s.lines.lines[4]? = some led)
    (due : Due s.lines.ledTimer s) :
    toggleLed s =
      { s with lines :=
          { lines := s.lines.lines.set 4 { out := true, latch := !led.latch }, ledTimer := some (s.now + 250) } } := by
  obtain ⟨e, timer, early⟩ := due
  have expired : s.lines.ledTimer.filter (· ≤ s.now) = some e := by simp [timer, early]
  rw [toggleLed, expired, line]
  rfl

theorem toggleLed_of_not_due {s : State} (early : ¬Due s.lines.ledTimer s) : toggleLed s = s := by
  have waits : s.lines.ledTimer.filter (· ≤ s.now) = none := by
    simpa [Option.filter_eq_none_iff, Due] using early
  rw [toggleLed, waits]

/-- Settles O52: LINE SET by the order of its checks, the LINK LED by its timer. -/
theorem linesFollowTheirOwners : Obligations.LinesFollowTheirOwners := by
  refine ⟨fun m n direction latch s => ⟨lineSet_refused_value, fun line directions latches => ?_⟩,
    fun s running => ?_⟩
  · have defined : ¬(7 < n ∨ 1 < direction ∨ 1 < latch) := by omega
    refine ⟨fun other => lineSet_refused_owner defined fun owner => ?_, fun owner turn => ?_⟩
    · obtain ⟨rfl, others⟩ | ⟨rfl, others⟩ := other
      · exact others ((lineOwner_eq_tablet_iff line).1 owner)
      · exact others ((lineOwner_eq_vehicle_iff line).1 owner)
    · have replaced := exec_lineSet_of_turn turn defined ((lineOwner_eq_masterOwner_iff line m).2 owner)
      refine ⟨replaced, fun eight => ⟨_, replaced, ?_⟩⟩
      obtain ⟨running, -⟩ := turn
      rw [linePin_answered_withLine running (by omega)]
      simp only [decide_eq_true_eq]
  · rw [exec_linkLedToggle running]
    exact ⟨fun led line due => congrArg _ (toggleLed_of_due line due),
      fun early => congrArg _ (toggleLed_of_not_due early)⟩

end Sys2Proof.Proofs

/-! ## What a packet of the tablet is read as (R158, R175 to R178) -/

namespace Sys2Proof.Proofs

open Sys2Proof.Machine Sys2Proof.Safety

/-! ### The kinds and the lengths that fit them -/

theorem tabletKind_iff (kind : Nat) : tabletKind kind = true ↔ KindDefined kind := by
  simp only [tabletKind, List.contains_iff_mem, KindDefined, List.mem_cons, List.not_mem_nil, or_false]
  omega

/-- Payloads of the lengths given are read under a kind, as requests with that code, and no others are read. -/
def ReadsLengths (fits : Nat → Prop) (kind : Nat) : Prop :=
  ∀ payload : List Byte,
    (fits payload.length → ∃ r, readPayload kind payload = some (.request r) ∧ requestCode r = kind) ∧
      (¬fits payload.length → readPayload kind payload = none)

theorem readsLengths_zero {kind : Nat} (h : kind ∈ [0x21, 0x42, 0x44, 0x45, 0x52]) : ReadsLengths (· = 0) kind := by
  refine fun payload => ⟨fun fits => ?_, fun misfits => ?_⟩
  · match payload, fits with
    | [], _ => fin_cases h <;> exact ⟨_, rfl, rfl⟩
  · match payload, misfits with
    | _ :: _, _ => fin_cases h <;> rfl

theorem readsLengths_one {kind : Nat} (h : kind ∈ [0x11, 0x14, 0x15, 0x16, 0x17, 0x18, 0x20, 0x40, 0x50, 0x54]) :
    ReadsLengths (· = 1) kind := by
  refine fun payload => ⟨fun fits => ?_, fun misfits => ?_⟩
  · match payload, fits with
    | [a], _ => fin_cases h <;> exact ⟨_, rfl, rfl⟩
  · match payload, misfits with
    | [], _ | _ :: _ :: _, _ => fin_cases h <;> rfl

theorem readsLengths_two {kind : Nat} (h : kind ∈ [0x01, 0x34, 0x51, 0x53]) : ReadsLengths (· = 2) kind := by
  refine fun payload => ⟨fun fits => ?_, fun misfits => ?_⟩
  · match payload, fits with
    | [a, b], _ => fin_cases h <;> exact ⟨_, rfl, rfl⟩
  · match payload, misfits with
    | [], _ | [_], _ | _ :: _ :: _ :: _, _ => fin_cases h <;> rfl

theorem readsLengths_three : ReadsLengths (· = 3) 0x43 := by
  refine fun payload => ⟨fun fits => ?_, fun misfits => ?_⟩
  · match payload, fits with
    | [a, b, c], _ => exact ⟨_, rfl, rfl⟩
  · iterate 3
      rcases payload with _ | ⟨_, payload⟩
      · rfl
    rcases payload with _ | _
    · exact absurd rfl misfits
    · rfl

theorem readsLengths_four : ReadsLengths (· = 4) 0x41 := by
  refine fun payload => ⟨fun fits => ?_, fun misfits => ?_⟩
  · match payload, fits with
    | [a, b, c, d], _ => exact ⟨_, rfl, rfl⟩
  · iterate 4
      rcases payload with _ | ⟨_, payload⟩
      · rfl
    rcases payload with _ | _
    · exact absurd rfl misfits
    · rfl

theorem readsLengths_five {kind : Nat} (h : kind ∈ [0x13, 0x22]) : ReadsLengths (· = 5) kind := by
  refine fun payload => ⟨fun fits => ?_, fun misfits => ?_⟩
  · match payload, fits with
    | [a, b, c, d, e], _ => fin_cases h <;> exact ⟨_, rfl, rfl⟩
  · iterate 5
      rcases payload with _ | ⟨_, payload⟩
      · fin_cases h <;> rfl
    rcases payload with _ | _
    · exact absurd rfl misfits
    · fin_cases h <;> rfl

theorem readsLengths_nine : ReadsLengths (· = 9) 0x12 := by
  refine fun payload => ⟨fun fits => ?_, fun misfits => ?_⟩
  · match payload, fits with
    | [p, a, b, c, d, e, f, g, h], _ => exact ⟨_, rfl, rfl⟩
  · iterate 9
      rcases payload with _ | ⟨_, payload⟩
      · rfl
    rcases payload with _ | _
    · exact absurd rfl misfits
    · rfl

theorem readsLengths_ten : ReadsLengths (· = 10) 0x30 := by
  refine fun payload => ⟨fun fits => ?_, fun misfits => ?_⟩
  · match payload, fits with
    | [p, i, a, b, c, d, e, f, g, h], _ => exact ⟨_, rfl, rfl⟩
  · iterate 10
      rcases payload with _ | ⟨_, payload⟩
      · rfl
    rcases payload with _ | _
    · exact absurd rfl misfits
    · rfl

theorem readsLengths_twelve : ReadsLengths (· = 12) 0x32 := by
  refine fun payload => ⟨fun fits => ?_, fun misfits => ?_⟩
  · match payload, fits with
    | [p, i, a, b, c, d, e, f, g, h, v0, v1], _ => exact ⟨_, rfl, rfl⟩
  · iterate 12
      rcases payload with _ | ⟨_, payload⟩
      · rfl
    rcases payload with _ | _
    · exact absurd rfl misfits
    · rfl

/-- A CLAIM has a transparent value or none. -/
theorem readsLengths_claim : ReadsLengths (fun n => n = 16 ∨ n = 18) 0x10 := by
  refine fun payload => ⟨fun fits => ?_, fun misfits => ?_⟩
  · obtain sixteen | eighteen := fits
    · match payload, sixteen with
      | [_, _, _, _, _, _, _, _, _, _, _, _, _, _, _, _], _ => exact ⟨_, rfl, rfl⟩
    · match payload, eighteen with
      | [_, _, _, _, _, _, _, _, _, _, _, _, _, _, _, _, _, _], _ => exact ⟨_, rfl, rfl⟩
  · iterate 16
      rcases payload with _ | ⟨_, payload⟩
      · rfl
    rcases payload with _ | ⟨_, _ | ⟨_, _ | _⟩⟩
    · exact absurd (.inl rfl) misfits
    · rfl
    · exact absurd (.inr rfl) misfits
    · rfl

/-- Bytes are read as cells exactly when they are pairs. -/
theorem readCells_isSome_iff : ∀ bytes : List Byte, (readCells bytes).isSome = true ↔ ∃ n, bytes.length = 2 * n
  | [] => by simp [readCells]
  | [_] => by
    simp only [readCells, Option.isSome_none, Bool.false_eq_true, List.length_singleton, false_iff]
    omega
  | code :: attr :: rest => by
    rw [readCells, Option.isSome_map, readCells_isSome_iff rest]
    simp only [List.length_cons]
    constructor
    · rintro ⟨n, len⟩
      exact ⟨n + 1, by omega⟩
    · rintro ⟨n, len⟩
      exact ⟨n - 1, by omega⟩

/-- A TEXT PUT carries up to 256 cells. -/
theorem readsLengths_textPut : ReadsLengths (fun n => ∃ cells ≤ 256, n = 4 + 2 * cells) 0x33 := by
  intro payload
  match payload with
  | p :: i :: r :: c :: bytes =>
    have read : readPayload 0x33 (p :: i :: r :: c :: bytes) =
        if bytes.length ≤ 512 then
          (readCells bytes).map fun cells => .request (.textPut p.toNat i.toNat r.toNat c.toNat cells)
        else none := rfl
    have fits : (∃ cells ≤ 256, bytes.length + 1 + 1 + 1 + 1 = 4 + 2 * cells) ↔
        bytes.length ≤ 512 ∧ (readCells bytes).isSome = true := by
      rw [readCells_isSome_iff]
      constructor
      · rintro ⟨cells, bound, len⟩
        exact ⟨by omega, cells, by omega⟩
      · rintro ⟨bound, cells, len⟩
        exact ⟨cells, by omega, by omega⟩
    simp only [List.length_cons]
    rw [fits, read]
    refine ⟨fun ⟨bound, pairs⟩ => ?_, fun misfits => ?_⟩
    · obtain ⟨cells, known⟩ := Option.isSome_iff_exists.1 pairs
      exact ⟨_, by rw [if_pos bound, known, Option.map_some], rfl⟩
    · split
      · next bound =>
        rw [Option.map_eq_none_iff]
        simpa using fun pairs => misfits ⟨bound, pairs⟩
      · rfl
  | [] | [_] | [_, _] | [_, _, _] =>
    refine ⟨fun ⟨cells, bound, len⟩ => ?_, fun _ => rfl⟩
    simp only [List.length_cons, List.length_nil] at len
    omega

theorem readPayload_keepalive (payload : List Byte) :
    readPayload 0x02 payload = if payload = [] then some .keepalive else none := by
  cases payload <;> rfl

theorem readPayload_writeData (a b c d : Byte) (data : List Byte) :
    readPayload 0x31 (a :: b :: c :: d :: data) = some (.writeData (u32 a b c d) data) := rfl

theorem readPayload_writeData_short {payload : List Byte} (short : payload.length < 4) :
    readPayload 0x31 payload = none := by
  match payload, short with
  | [], _ | [_], _ | [_, _], _ | [_, _, _], _ => rfl

/-- Under an undefined kind nothing is read. -/
theorem readPayload_undefined {kind : Nat} (undefined : ¬KindDefined kind) (payload : List Byte) :
    readPayload kind payload = none := by
  by_cases small : kind < 0x55
  · unfold KindDefined at undefined
    interval_cases kind <;> simp at undefined <;> rfl
  · obtain ⟨k, rfl⟩ := Nat.exists_eq_add_of_le' (not_lt.1 small)
    rfl

theorem ReadsLengths.congr {kind : Nat} {fits fits' : Nat → Prop} (reads : ReadsLengths fits kind)
    (same : ∀ n, fits' n ↔ fits n) : ReadsLengths fits' kind := by
  obtain rfl : fits' = fits := funext fun n => propext (same n)
  exact reads

/-- The requests' kinds by the length of their payloads. -/
theorem requestKind_cases {kind : Nat} (defined : KindDefined kind) (notKeepalive : kind ≠ 0x02)
    (notData : kind ≠ 0x31) :
    kind ∈ [0x21, 0x42, 0x44, 0x45, 0x52] ∨
      kind ∈ [0x11, 0x14, 0x15, 0x16, 0x17, 0x18, 0x20, 0x40, 0x50, 0x54] ∨ kind ∈ [0x01, 0x34, 0x51, 0x53] ∨
      kind = 0x43 ∨ kind = 0x41 ∨ kind ∈ [0x13, 0x22] ∨ kind = 0x12 ∨ kind = 0x30 ∨ kind = 0x32 ∨ kind = 0x10 ∨
      kind = 0x33 := by
  unfold KindDefined at defined
  simp only [List.mem_cons, List.not_mem_nil, or_false]
  omega

/-- Under each kind but those of KEEPALIVE and WRITE DATA, a payload is read as a request exactly when its length
fits. -/
theorem readsLengths_request {kind : Nat} (defined : KindDefined kind) (notKeepalive : kind ≠ 0x02)
    (notData : kind ≠ 0x31) : ReadsLengths (LengthFits kind) kind := by
  obtain kinds | kinds | kinds | rfl | rfl | kinds | rfl | rfl | rfl | rfl | rfl :=
    requestKind_cases defined notKeepalive notData
  · exact (readsLengths_zero kinds).congr fun n => by fin_cases kinds <;> simp [LengthFits]
  · exact (readsLengths_one kinds).congr fun n => by fin_cases kinds <;> simp [LengthFits]
  · exact (readsLengths_two kinds).congr fun n => by fin_cases kinds <;> simp [LengthFits]
  · exact readsLengths_three.congr fun n => by simp [LengthFits]
  · exact readsLengths_four.congr fun n => by simp [LengthFits]
  · exact (readsLengths_five kinds).congr fun n => by fin_cases kinds <;> simp [LengthFits]
  · exact readsLengths_nine.congr fun n => by simp [LengthFits]
  · exact readsLengths_ten.congr fun n => by simp [LengthFits]
  · exact readsLengths_twelve.congr fun n => by simp [LengthFits]
  · exact readsLengths_claim.congr fun n => by simp [LengthFits]
  · exact readsLengths_textPut.congr fun n => by simp [LengthFits]

theorem kindDefined_of_lengthFits {kind n : Nat} (fits : LengthFits kind n) : KindDefined kind := by
  unfold LengthFits at fits
  simp only [List.mem_cons, List.not_mem_nil, or_false] at fits
  unfold KindDefined
  omega

/-- A payload is read exactly when its length fits the kind (R176, R178). -/
theorem readPayload_ne_none_iff (kind : Nat) (payload : List Byte) :
    readPayload kind payload ≠ none ↔ LengthFits kind payload.length := by
  by_cases defined : KindDefined kind
  · by_cases keepalive : kind = 0x02
    · subst keepalive
      rw [readPayload_keepalive]
      simp [LengthFits]
    · by_cases writeData : kind = 0x31
      · subst writeData
        have four : LengthFits 0x31 payload.length ↔ 4 ≤ payload.length := by simp [LengthFits]
        rw [four]
        match payload with
        | a :: b :: c :: d :: data => simp [readPayload_writeData]
        | [] | [_] | [_, _] | [_, _, _] => simp [readPayload_writeData_short]
      · obtain ⟨fits, misfits⟩ := readsLengths_request defined keepalive writeData payload
        refine ⟨not_imp_comm.1 misfits, fun length => ?_⟩
        obtain ⟨r, read, -⟩ := fits length
        simp [read]
  · rw [readPayload_undefined defined]
    simpa using mt kindDefined_of_lengthFits defined

/-- What a payload is read as: KEEPALIVE, WRITE DATA, or a request under the kind that its reply echoes (R177). -/
theorem readPayload_cases {kind : Nat} {payload : List Byte} {intake : Intake}
    (read : readPayload kind payload = some intake) :
    (kind = 0x02 ∧ intake = .keepalive) ∨
      (∃ a b c d data, kind = 0x31 ∧ payload = a :: b :: c :: d :: data ∧ intake = .writeData (u32 a b c d) data) ∨
      ∃ r, intake = .request r ∧ requestCode r = kind := by
  have fits := (readPayload_ne_none_iff kind payload).1 (by simp [read])
  by_cases keepalive : kind = 0x02
  · subst keepalive
    rw [readPayload_keepalive] at read
    split at read <;> cases read
    exact .inl ⟨rfl, rfl⟩
  · by_cases writeData : kind = 0x31
    · subst writeData
      match payload with
      | a :: b :: c :: d :: data =>
        cases read
        exact .inr (.inl ⟨a, b, c, d, data, rfl, rfl, rfl⟩)
      | [] | [_] | [_, _] | [_, _, _] => cases read
    · obtain ⟨r, request, code⟩ :=
        (readsLengths_request (kindDefined_of_lengthFits fits) keepalive writeData payload).1 fits
      cases read.symm.trans request
      exact .inr (.inr ⟨r, rfl, code⟩)

/-- Of a WRITE DATA's payload 4 bytes are its offset. -/
theorem data_length_of_readPayload {kind offset : Nat} {payload data : List Byte}
    (read : readPayload kind payload = some (.writeData offset data)) : data.length + 4 = payload.length := by
  obtain ⟨-, ⟨⟩⟩ | ⟨a, b, c, d, bytes, -, rfl, ⟨⟩⟩ | ⟨r, ⟨⟩, -⟩ := readPayload_cases read
  rfl

theorem requestCode_of_readPayload {kind : Nat} {payload : List Byte} {r : Request}
    (read : readPayload kind payload = some (.request r)) : requestCode r = kind := by
  obtain ⟨-, ⟨⟩⟩ | ⟨a, b, c, d, bytes, -, -, ⟨⟩⟩ | ⟨q, ⟨⟩, code⟩ := readPayload_cases read
  exact code

end Sys2Proof.Proofs

/-! ## Messages in the outbound queues: every operation that hands one keeps their bounds (R161 to R163, R173) -/

namespace Sys2Proof.Proofs

open Sys2Proof.Machine Sys2Proof.Safety

/-- The bounds of the two outbound queues, as the ports hold them; the Dock Link's is empty in every link state but
UP. -/
def RoomKept (d : DockPort) (v : VehiclePort) : Prop :=
  d.outbound.length ≤ 32 ∧ (d.link ≠ .up → d.outbound = []) ∧ v.outbound.length ≤ 16

theorem foldl_room {α : Type} {f : State → α → State}
    (step : ∀ s a, RoomKept s.dock s.vehicle → RoomKept (f s a).dock (f s a).vehicle) (l : List α) :
    ∀ {s}, RoomKept s.dock s.vehicle → RoomKept (l.foldl f s).dock (l.foldl f s).vehicle := by
  induction l with
  | nil => exact id
  | cons a l ih => exact fun kept => ih (step _ a kept)

/-! ### Messages, reports and notices -/

@[simp] theorem handTablet_room {msg : Message} {s : State} (kept : RoomKept s.dock s.vehicle) :
    RoomKept (handTablet msg s).dock (handTablet msg s).vehicle := by
  unfold handTablet
  split
  · next room =>
    obtain ⟨up, free⟩ := room
    obtain ⟨-, -, vehicle⟩ := kept
    rw [dockOutboundLimit] at free
    exact ⟨by rw [List.length_append]; exact free, fun down => absurd up down, vehicle⟩
  · exact kept

@[simp] theorem handVehicle_room {msg : Message} {s : State} (kept : RoomKept s.dock s.vehicle) :
    RoomKept (handVehicle msg s).dock (handVehicle msg s).vehicle := by
  unfold handVehicle
  split
  · next room =>
    obtain ⟨-, free⟩ := room
    obtain ⟨tablet, down, -⟩ := kept
    rw [vehicleOutboundLimit] at free
    exact ⟨tablet, down, by rw [List.length_append]; exact free⟩
  · exact kept

@[simp] theorem hand_room {m : Master} {msg : Message} {s : State} (kept : RoomKept s.dock s.vehicle) :
    RoomKept (hand m msg s).dock (hand m msg s).vehicle := by
  cases m
  · exact handTablet_room kept
  · exact handVehicle_room kept

@[simp] theorem reply_room {m : Master} {r : Request} {result : Result} {values : List Byte} {s : State}
    (kept : RoomKept s.dock s.vehicle) :
    RoomKept (reply m r result values s).dock (reply m r result values s).vehicle := hand_room kept

@[simp] theorem notify_room {o : Owner} {n : Notice} {s : State} (kept : RoomKept s.dock s.vehicle) :
    RoomKept (notify o n s).dock (notify o n s).vehicle := by
  cases o
  · exact handTablet_room kept
  · exact handVehicle_room kept
  · exact kept

@[simp] theorem tryReport_room {m : Master} {s : State} (kept : RoomKept s.dock s.vehicle) :
    RoomKept (tryReport m s).dock (tryReport m s).vehicle := by
  unfold tryReport
  split
  · exact hand_room kept
  · exact kept

@[simp] theorem placeEvent_room {m : Master} {code : Nat} {kind : KeyKind} {s : State}
    (kept : RoomKept s.dock s.vehicle) :
    RoomKept (placeEvent m code kind s).dock (placeEvent m code kind s).vehicle := by
  simp [placeEvent, kept]

@[simp] theorem focusNotice_room {n : Option Nat} {notice : Nat → Notice} {s : State}
    (kept : RoomKept s.dock s.vehicle) :
    RoomKept (focusNotice n notice s).dock (focusNotice n notice s).vehicle := by
  unfold focusNotice
  split
  · exact kept
  · split
    · exact notify_room kept
    · exact kept

@[simp] theorem setFocus_room {v : Option Nat} {s : State} (kept : RoomKept s.dock s.vehicle) :
    RoomKept (setFocus v s).dock (setFocus v s).vehicle := by
  unfold setFocus
  split
  · exact kept
  · simp [kept]

/-! ### Alerts -/

@[simp] theorem topChanged_room {size : Nat} {s : State} (kept : RoomKept s.dock s.vehicle) :
    RoomKept (topChanged size s).dock (topChanged size s).vehicle := by simp [topChanged, kept]

@[simp] theorem holdBegins_room {s : State} (kept : RoomKept s.dock s.vehicle) :
    RoomKept (holdBegins s).dock (holdBegins s).vehicle := by simp [holdBegins, kept]

@[simp] theorem holdEnds_room {size : Nat} {s : State} (kept : RoomKept s.dock s.vehicle) :
    RoomKept (holdEnds size s).dock (holdEnds size s).vehicle := by simp [holdEnds, kept]

@[simp] theorem alertPaneLive_room {n : Nat} {s : State} (kept : RoomKept s.dock s.vehicle) :
    RoomKept (alertPaneLive n s).dock (alertPaneLive n s).vehicle := by
  unfold alertPaneLive
  split
  · split
    · split
      · exact holdBegins_room kept
      · exact topChanged_room kept
    · exact kept
  · exact kept

@[simp] theorem reportAcknowledged_room {n : Nat} {s : State} (kept : RoomKept s.dock s.vehicle) :
    RoomKept (reportAcknowledged n s).dock (reportAcknowledged n s).vehicle := by
  unfold reportAcknowledged
  split
  · exact handVehicle_room kept
  · exact kept

@[simp] theorem acknowledgePress_room {s : State} (kept : RoomKept s.dock s.vehicle) :
    RoomKept (acknowledgePress s).dock (acknowledgePress s).vehicle := by
  unfold acknowledgePress
  split
  · exact kept
  · dsimp only
    split
    · exact holdEnds_room (reportAcknowledged_room kept)
    · exact topChanged_room (reportAcknowledged_room kept)

@[simp] theorem alertPaneClosing_room {n : Nat} {s : State} (kept : RoomKept s.dock s.vehicle) :
    RoomKept (alertPaneClosing n s).dock (alertPaneClosing n s).vehicle := by
  unfold alertPaneClosing
  dsimp only
  split_ifs <;> simp [kept]

@[simp] theorem alertAbsence_room {s : State} (kept : RoomKept s.dock s.vehicle) :
    RoomKept (alertAbsence s).dock (alertAbsence s).vehicle := by
  unfold alertAbsence
  dsimp only
  split <;> simp [kept]

@[simp] theorem alertReturn_room {s : State} (kept : RoomKept s.dock s.vehicle) :
    RoomKept (alertReturn s).dock (alertReturn s).vehicle := by
  have told := foldl_room (f := fun t n => handVehicle (.notice (.alertAcknowledged n)) t)
    (fun _ _ => handVehicle_room) s.alerts.unreported kept
  unfold alertReturn
  dsimp only
  split
  · exact told
  · exact setFocus_room told

@[simp] theorem deferredFocus_room {n : Nat} {s : State} (kept : RoomKept s.dock s.vehicle) :
    RoomKept (deferredFocus n s).dock (deferredFocus n s).vehicle := by
  unfold deferredFocus
  split_ifs <;> simp [kept]

/-! ### Keys and the focus -/

@[simp] theorem fixUp_room {s : State} (kept : RoomKept s.dock s.vehicle) :
    RoomKept (fixUp s).dock (fixUp s).vehicle := setFocus_room kept

@[simp] theorem routerPaneLost_room {n : Nat} {s : State} (kept : RoomKept s.dock s.vehicle) :
    RoomKept (routerPaneLost n s).dock (routerPaneLost n s).vehicle := by
  unfold routerPaneLost
  split <;> simp [kept]

@[simp] theorem takeClosing_room {n : Nat} {s : State} (kept : RoomKept s.dock s.vehicle) :
    RoomKept (takeClosing s n).dock (takeClosing s n).vehicle := by simp [takeClosing, kept]

@[simp] theorem takeHidden_room {n : Nat} {s : State} (kept : RoomKept s.dock s.vehicle) :
    RoomKept (takeHidden s n).dock (takeHidden s n).vehicle := by simp [takeHidden, kept]

@[simp] theorem focusNext_room {s : State} (kept : RoomKept s.dock s.vehicle) :
    RoomKept (focusNext s).dock (focusNext s).vehicle := by
  unfold focusNext
  split
  · exact kept
  · split <;> exact setFocus_room kept

@[simp] theorem routedDown_room {code : Nat} {s : State} (kept : RoomKept s.dock s.vehicle) :
    RoomKept (routedDown code s).dock (routedDown code s).vehicle := by
  unfold routedDown
  split
  · simp [kept]
  · dsimp only
    split <;> simp [kept]

@[simp] theorem keyDown_room {code : Nat} {s : State} (kept : RoomKept s.dock s.vehicle) :
    RoomKept (keyDown code s).dock (keyDown code s).vehicle := by
  rw [keyDown_eq]
  split
  · simp [kept]
  · unfold roleActs
    split <;> simp [keyHeld, kept]

@[simp] theorem keyUp_room {code : Nat} {s : State} (kept : RoomKept s.dock s.vehicle) :
    RoomKept (keyUp code s).dock (keyUp code s).vehicle := by
  unfold keyUp
  split
  · exact kept
  · dsimp only
    split <;> split <;> simp [kept]

@[simp] theorem flush_room {s : State} (kept : RoomKept s.dock s.vehicle) :
    RoomKept (flush s).dock (flush s).vehicle := by
  have released := foldl_room (f := fun t e => releaseTo e.target e.code t)
    (fun _ _ kept => by simp [kept]) s.router.held kept
  simp [flush, released]

@[simp] theorem routerGone_room {m : Master} {s : State} (kept : RoomKept s.dock s.vehicle) :
    RoomKept (routerGone m s).dock (routerGone m s).vehicle := by
  unfold routerGone
  dsimp only
  split <;> simp [kept]

@[simp] theorem enterParked_room {s : State} (kept : RoomKept s.dock s.vehicle) :
    RoomKept (enterParked s).dock (enterParked s).vehicle := by simp [enterParked, kept]

@[simp] theorem ignitionEdge_room {on : Bool} {s : State} (kept : RoomKept s.dock s.vehicle) :
    RoomKept (ignitionEdge on s).dock (ignitionEdge on s).vehicle := by
  unfold ignitionEdge
  split
  · split <;> simp [kept]
  · split
    · split <;> simp [kept]
    · exact kept
    · exact kept

/-! ### Flags and the supply -/

@[simp] theorem edgeForFlag_room {n : Nat} {level : Bool} {interval : Nat} {m : Master} {s : State}
    (kept : RoomKept s.dock s.vehicle) :
    RoomKept (edgeForFlag n level interval s m).dock (edgeForFlag n level interval s m).vehicle := by
  unfold edgeForFlag
  split
  · dsimp only
    split
    · exact hand_room kept
    · exact kept
  · exact kept

@[simp] theorem reportFlags_room {m : Master} {s : State} (kept : RoomKept s.dock s.vehicle) :
    RoomKept (reportFlags m s).dock (reportFlags m s).vehicle := by
  refine foldl_room (fun t flagged kept => ?_) _ kept
  dsimp only
  split
  · exact hand_room kept
  · exact kept

@[simp] theorem raiseFlags_room {n : Nat} {s : State} (kept : RoomKept s.dock s.vehicle) :
    RoomKept (raiseFlags n s).dock (raiseFlags n s).vehicle := by
  unfold raiseFlags
  split
  · dsimp only
    split
    · exact handVehicle_room (handTablet_room kept)
    · exact kept
  · exact kept

@[simp] theorem reportSupply_room {before : Light} {supply panelTemp : Nat} {s : State}
    (kept : RoomKept s.dock s.vehicle) :
    RoomKept (reportSupply before supply panelTemp s).dock (reportSupply before supply panelTemp s).vehicle := by
  unfold reportSupply
  dsimp only
  split
  · exact kept
  · simp only [rewriteField_frame]
    exact handVehicle_room (handTablet_room kept)

/-! ### The frame boundary -/

@[simp] theorem boundaryLive_room {n : Nat} {s : State} (kept : RoomKept s.dock s.vehicle) :
    RoomKept (boundaryLive s n).dock (boundaryLive s n).vehicle := by
  unfold boundaryLive
  split
  · split
    · exact notify_room kept
    · exact kept
  · exact kept

@[simp] theorem boundaryApply_room {n : Nat} {s : State} (kept : RoomKept s.dock s.vehicle) :
    RoomKept (boundaryApply s n).dock (boundaryApply s n).vehicle := by
  unfold boundaryApply
  split
  · split
    · dsimp only
      split
      · exact notify_room kept
      · exact kept
    · exact kept
  · exact kept

@[simp] theorem boundaryLayout_room {s : State} (kept : RoomKept s.dock s.vehicle) :
    RoomKept (boundaryLayout s).dock (boundaryLayout s).vehicle := by
  unfold boundaryLayout
  generalize paneNumbers = panes
  have closed := foldl_room (f := boundaryClose) (fun _ _ kept => by simp [kept]) panes kept
  generalize panes.foldl boundaryClose s = t at closed
  have live := foldl_room (f := boundaryLive) (fun _ _ => boundaryLive_room) t.layout.ready closed
  exact foldl_room (f := boundaryApply) (fun _ _ => boundaryApply_room) panes
    (s := { t.layout.ready.foldl boundaryLive t with
      layout := { (t.layout.ready.foldl boundaryLive t).layout with ready := [] } }) live

end Sys2Proof.Proofs

/-! ## What every command keeps of the two ports: the queues, the stream's counts, the buffers, the waiting commands -/

namespace Sys2Proof.Proofs

open Sys2Proof.Machine Sys2Proof.Safety

/-- Each receive buffer that is not EMPTY holds 1 to `limit` stream bytes. -/
def BuffersWithin (limit : Nat) (d : DockPort) : Prop :=
  ∀ name start bytes, (d.rx name).content = some (start, bytes) → 1 ≤ bytes.length ∧ bytes.length ≤ limit

theorem buffersKept_iff (s : State) : BuffersKept s ↔ BuffersWithin 1020 s.dock := .rfl

theorem queuesKept_iff (s : State) : QueuesKept s ↔
    RoomKept s.dock s.vehicle ∧ s.dock.requests.length ≤ 8 ∧ s.vehicle.requests.length ≤ 4 := by
  unfold QueuesKept RoomKept
  tauto

/-- From `s` to `t` the commands that wait are the same, and the queues, the stream's counts and the buffers stay in
their bounds; a buffer takes at most `limit` bytes. -/
structure PortsKept (limit : Nat) (s t : State) : Prop where
  pending : t.pending = s.pending
  queues : QueuesKept s → QueuesKept t
  stream : StreamKept s → StreamKept t
  buffers : BuffersWithin limit s.dock → BuffersWithin limit t.dock

/-- The two states agree in what the ports hold, but for their timers, the link state and the outbound queues. -/
@[simp] abbrev SamePorts (s t : State) : Prop :=
  t.pending = s.pending ∧ t.dock.requests = s.dock.requests ∧ t.dock.bufferA = s.dock.bufferA ∧
    t.dock.bufferB = s.dock.bufferB ∧ t.dock.stream = s.dock.stream ∧ t.vehicle.requests = s.vehicle.requests

/-- The two states agree in the ports and in the commands that wait. -/
@[simp] abbrev Apart (s t : State) : Prop := t.pending = s.pending ∧ t.dock = s.dock ∧ t.vehicle = s.vehicle

theorem streamKept_congr {s t : State} (same : t.dock.stream = s.dock.stream) (kept : StreamKept s) : StreamKept t := by
  unfold StreamKept
  rwa [same]

theorem buffersWithin_congr {limit : Nat} {d e : DockPort} (a : e.bufferA = d.bufferA) (b : e.bufferB = d.bufferB)
    (kept : BuffersWithin limit d) : BuffersWithin limit e := by
  rintro (_ | _) start bytes content
  · exact kept .a start bytes (by rwa [DockPort.rx, a] at content)
  · exact kept .b start bytes (by rwa [DockPort.rx, b] at content)

/-- A buffer replaced by one in its bounds. -/
theorem buffersWithin_setRx {limit : Nat} {d : DockPort} {name : BufferName} {b : RxBuffer}
    (fits : ∀ start bytes, b.content = some (start, bytes) → 1 ≤ bytes.length ∧ bytes.length ≤ limit)
    (kept : BuffersWithin limit d) : BuffersWithin limit (d.setRx name b) := by
  cases name
  · rintro (_ | _)
    · exact fits
    · exact kept .b
  · rintro (_ | _)
    · exact kept .a
    · exact fits

theorem buffersWithin_empty {limit : Nat} {d : DockPort} (a : d.bufferA = .empty) (b : d.bufferB = .empty) :
    BuffersWithin limit d := by
  rintro (_ | _) start bytes content
  · exact absurd content (by simp [DockPort.rx, a, RxBuffer.content])
  · exact absurd content (by simp [DockPort.rx, b, RxBuffer.content])

theorem streamKept_none {s : State} (closed : s.dock.stream = none) : StreamKept s := by
  intro st open_
  exact absurd (closed.symm.trans open_) nofun

section
variable {limit : Nat} {s t u : State}

theorem PortsKept.refl (s : State) : PortsKept limit s s := ⟨rfl, id, id, id⟩

theorem PortsKept.trans (h : PortsKept limit s t) (h' : PortsKept limit t u) : PortsKept limit s u :=
  ⟨h'.pending.trans h.pending, h'.queues ∘ h.queues, h'.stream ∘ h.stream, h'.buffers ∘ h.buffers⟩

theorem PortsKept.of_same (same : SamePorts s t)
    (room : RoomKept s.dock s.vehicle → RoomKept t.dock t.vehicle) : PortsKept limit s t := by
  obtain ⟨pending, requests, bufferA, bufferB, stream, frames⟩ := same
  refine ⟨pending, ?_, streamKept_congr stream, buffersWithin_congr bufferA bufferB⟩
  rw [queuesKept_iff, queuesKept_iff, requests, frames]
  exact fun ⟨kept, bounds⟩ => ⟨room kept, bounds⟩

theorem PortsKept.of_apart (apart : Apart s t) : PortsKept limit s t := by
  obtain ⟨pending, dock, vehicle⟩ := apart
  exact .of_same (by simp [pending, dock, vehicle]) (by rw [dock, vehicle]; exact id)

theorem foldl_ports {α : Type} {f : State → α → State} (step : ∀ s a, PortsKept limit s (f s a)) (l : List α) :
    ∀ s, PortsKept limit s (l.foldl f s) := by
  induction l with
  | nil => exact .refl
  | cons a l ih => exact fun s => (step s a).trans (ih _)

/-! ### Requests -/

theorem popRequest_ports (m : Master) (s : State) : PortsKept limit s (s.popRequest m) := by
  cases m
  · refine ⟨rfl, ?_, streamKept_congr rfl, buffersWithin_congr rfl rfl⟩
    rw [queuesKept_iff, queuesKept_iff]
    rintro ⟨room, requests, frames⟩
    exact ⟨room, (List.tail_sublist _).length_le.trans requests, frames⟩
  · refine ⟨rfl, ?_, streamKept_congr rfl, buffersWithin_congr rfl rfl⟩
    rw [queuesKept_iff, queuesKept_iff]
    rintro ⟨room, requests, frames⟩
    exact ⟨room, requests, (List.tail_sublist _).length_le.trans frames⟩

/-- A reply changes the outbound queue of its port alone. -/
theorem reply_same (m : Master) (r : Request) (result : Result) (values : List Byte) (s : State) :
    PortsKept limit s (reply m r result values s) :=
  .of_same (by simp) reply_room

/-- A reply from a state whose ports are as they were. -/
theorem reply_ports {m : Master} {r : Request} {result : Result} {values : List Byte} (apart : Apart s t) :
    PortsKept limit s (reply m r result values t) :=
  (PortsKept.of_apart apart).trans (reply_same _ _ _ _ _)

theorem taking_ports {m : Master} {r : Request} {body : State → State} (kept : ∀ u, PortsKept limit u (body u))
    (next : taking m r body s = .next t) : PortsKept limit s t := by
  unfold taking at next
  split at next <;> cases next
  · exact (popRequest_ports m s).trans (kept _)
  · exact .refl s

theorem doClaim_ports (m : Master) (ops : ClaimOps) (s : State) : PortsKept limit s (doClaim m ops s) := by
  unfold doClaim
  split <;> exact reply_ports (by simp)

theorem doMove_ports (m : Master) (n : Nat) (w : Window) (s : State) : PortsKept limit s (doMove m n w s) := by
  unfold doMove
  split
  · exact reply_ports (by simp)
  · split <;> exact reply_ports (by simp)

theorem doScroll_ports (m : Master) (n x y : Nat) (s : State) : PortsKept limit s (doScroll m n x y s) := by
  unfold doScroll
  split <;> exact reply_ports (by simp)

theorem doReorder_ports (m : Master) (r : Request) (n : Nat) (reorder : List Nat → List Nat) (s : State) :
    PortsKept limit s (doReorder m r n reorder s) := by
  unfold doReorder
  split
  · exact reply_ports (by simp)
  · split_ifs <;> exact reply_ports (by simp)

theorem doVisible_ports (m : Master) (r : Request) (n : Nat) (shown : Bool) (s : State) :
    PortsKept limit s (doVisible m r n shown s) := by
  unfold doVisible
  split
  · exact reply_ports (by simp)
  · split <;> exact reply_ports (by simp)

theorem doFlip_ports (m : Master) (n : Nat) (s : State) : PortsKept limit s (doFlip m n s) := by
  unfold doFlip
  split
  · exact reply_ports (by simp)
  · split_ifs <;> exact reply_ports (by simp)

theorem doFocus_ports (m : Master) (n : Nat) (s : State) : PortsKept limit s (doFocus m n s) := by
  unfold doFocus
  split
  · exact reply_ports (by simp)
  · split_ifs
    · exact (reply_same _ _ _ _ _).trans (.of_same (by simp) deferredFocus_room)
    · exact (reply_same _ _ _ _ _).trans (.of_same (by simp) setFocus_room)
    · exact reply_ports (by simp)

theorem tryReport_ports (m : Master) (s : State) : PortsKept limit s (tryReport m s) :=
  .of_same (by simp) tryReport_room

theorem doKeyAck_ports (m : Master) (s : State) : PortsKept limit s (doKeyAck m s) := by
  unfold doKeyAck
  dsimp only
  split
  · exact ((reply_same m .keyAck .ok [] s).trans (.of_apart (by simp))).trans (tryReport_ports m _)
  · exact reply_ports (by simp)

theorem doRepeatSet_ports (m : Master) (enabled delay period : Nat) (s : State) :
    PortsKept limit s (doRepeatSet m enabled delay period s) := by
  unfold doRepeatSet
  dsimp only
  split_ifs <;> exact reply_ports (by simp)

theorem doFillRect_ports (n buffer : Nat) (rect : Rect) (colour : Nat) (s : State) :
    PortsKept limit s (doFillRect n buffer rect colour s) := by
  unfold doFillRect
  dsimp only
  split <;> exact reply_ports (by simp)

theorem doTextPut_ports (n buffer row column : Nat) (cells : List TextCell) (s : State) :
    PortsKept limit s (doTextPut n buffer row column cells s) := by
  unfold doTextPut
  dsimp only
  split <;> exact reply_ports (by simp)

theorem doTextData_ports (n buffer row column : Nat) (attr : Byte) (codes : List Byte) (s : State) :
    PortsKept limit s (doTextData n buffer row column attr codes s) := by
  unfold doTextData
  split
  · exact reply_ports (by simp)
  · exact .of_apart (by simp)

theorem doTextClear_ports (m : Master) (n buffer : Nat) (s : State) :
    PortsKept limit s (doTextClear m n buffer s) := by
  unfold doTextClear
  split <;> exact reply_ports (by simp)

theorem doInputAck_ports (m : Master) (n : Nat) (s : State) : PortsKept limit s (doInputAck m n s) := by
  unfold doInputAck
  split <;> exact reply_ports (by simp)

theorem doInputMode_ports (m : Master) (n mode sense time : Nat) (s : State) :
    PortsKept limit s (doInputMode m n mode sense time s) := by
  unfold doInputMode
  dsimp only
  split
  · exact PortsKept.trans (reply_ports (by simp)) (.of_same (by simp) raiseFlags_room)
  · exact reply_ports (by simp)

theorem doQueryInputs_ports (m : Master) (input : Option Nat) (s : State) :
    PortsKept limit s (doQueryInputs m input s) := by
  unfold doQueryInputs
  dsimp only
  split
  · exact reply_ports (by simp)
  · split <;> exact reply_ports (by simp)

theorem doLineSet_ports (m : Master) (n direction latch : Nat) (s : State) :
    PortsKept limit s (doLineSet m n direction latch s) := by
  unfold doLineSet
  dsimp only
  split_ifs <;> exact reply_ports (by simp)

theorem doQueryLight_ports (m : Master) (page : Option Nat) (s : State) :
    PortsKept limit s (doQueryLight m page s) := by
  unfold doQueryLight
  dsimp only
  split
  · exact reply_ports (by simp)
  · split <;> exact reply_ports (by simp)

theorem doDarkCab_ports (m : Master) (setting : Nat) (s : State) : PortsKept limit s (doDarkCab m setting s) := by
  unfold doDarkCab
  cases m with
  | tablet => exact reply_ports (by simp)
  | vehicle =>
    dsimp only
    split <;> exact reply_ports (by simp)

theorem doParkDelay_ports (m : Master) (delay : Nat) (s : State) : PortsKept limit s (doParkDelay m delay s) := by
  cases m <;> exact reply_ports (by simp)

theorem doScanSet_ports (m : Master) (press release : Nat) (s : State) :
    PortsKept limit s (doScanSet m press release s) := by
  cases m <;> exact reply_ports (by simp)

theorem doWake_ports (m : Master) (s : State) : PortsKept limit s (doWake m s) := by
  unfold doWake
  cases m with
  | tablet => exact reply_ports (by simp)
  | vehicle =>
    dsimp only
    split
    · exact reply_ports (by simp)
    · exact (reply_same .vehicle .wake .ok [] s).trans (.of_apart (by simp))
    · exact (reply_same .vehicle .wake .ok [] s).trans (.of_apart (by simp))

/-! ### The write stream (R44, R166 to R168) -/

theorem handTablet_ports (msg : Message) (s : State) : PortsKept limit s (handTablet msg s) :=
  .of_same (by simp) handTablet_room

/-- The stream record is closed. -/
theorem streamClosed_ports (s : State) : PortsKept limit s { s with dock := { s.dock with stream := none } } :=
  ⟨rfl, id, fun _ => streamKept_none rfl, buffersWithin_congr rfl rfl⟩

theorem finishStream_ports (s : State) : PortsKept limit s (finishStream s) := by
  unfold finishStream
  split
  · split
    · exact (streamClosed_ports s).trans (handTablet_ports _ _)
    · exact .refl s
  · exact .refl s

theorem streamPaneGone_ports (n : Nat) (s : State) : PortsKept limit s (streamPaneGone n s) := by
  unfold streamPaneGone
  split
  · split
    · exact (streamClosed_ports s).trans (handTablet_ports _ _)
    · exact .refl s
  · exact .refl s

/-- A new stream expects its first byte, and has one. -/
theorem openStream_ports {rect : Rect} (width : 1 ≤ rect.w) (height : 1 ≤ rect.h) (n buffer : Nat) (s : State) :
    PortsKept limit s (openStream n buffer rect s) := by
  have ended : PortsKept limit s (match s.dock.stream with
      | some st => if st.ended then s else writeDone st .incomplete (st.total - st.received) s
      | none => s) := by
    split
    · split
      · exact .refl s
      · exact handTablet_ports _ s
    · exact .refl s
  refine ended.trans ⟨rfl, id, fun _ st opened => ?_, buffersWithin_congr rfl rfl⟩
  cases opened
  have bytes : 0 < rect.w * rect.h := Nat.mul_pos width height
  refine ⟨rfl, Nat.zero_le _, by simp only [Bool.false_eq_true, false_iff]; omega⟩

theorem valuesOk_of_writeCheck_ok {m : Master} {n : Nat} {kind : PaneKind} {ok : Pane → Bool} {p : Pane} {s : State}
    (check : s.writeCheck m n kind ok = .ok p) : ok p = true := by
  unfold State.writeCheck at check
  split at check
  · cases check
  · split_ifs at check with other bad early
    cases check
    simpa using bad

theorem doWriteBegin_ports (n buffer : Nat) (rect : Rect) (s : State) :
    PortsKept limit s (doWriteBegin n buffer rect s) := by
  unfold doWriteBegin
  dsimp only
  split
  · exact reply_ports (by simp)
  · next p check =>
    have values := valuesOk_of_writeCheck_ok check
    simp only [Bool.and_eq_true, decide_eq_true_eq] at values
    obtain ⟨⟨⟨⟨-, width⟩, -⟩, height⟩, -⟩ := values
    exact (openStream_ports width height n buffer s).trans (reply_same _ _ _ _ _)

/-- The counts after an accepted packet (R167). -/
theorem accept_streamKept {st : Stream} {offset : Nat} (len : Nat)
    (counts : st.received + st.missing = st.nextExpected) (bound : st.nextExpected ≤ st.total)
    (expected : st.nextExpected ≤ offset) :
    (st.accept offset len).received + (st.accept offset len).missing = (st.accept offset len).nextExpected ∧
      (st.accept offset len).nextExpected ≤ (st.accept offset len).total ∧
      ((st.accept offset len).ended = true ↔ (st.accept offset len).nextExpected = (st.accept offset len).total) := by
  simp only [Stream.accept, beq_iff_eq, and_true]
  omega

theorem landPacket_within {limit : Nat} {st : Stream} {offset : Nat} {data : List Byte} {d : DockPort}
    (short : data.length ≤ limit) (kept : BuffersWithin limit d) :
    BuffersWithin limit (landPacket st offset data d) := by
  unfold landPacket
  dsimp only
  split
  · exact kept
  · next some_ =>
    refine buffersWithin_congr rfl rfl (buffersWithin_setRx (name := d.nextBuffer) (fun start bytes content => ?_) kept)
    cases content
    exact ⟨List.length_pos_iff.2 some_, (List.length_take_le' _ _).trans short⟩

/-- The counts change, and the bytes land in a buffer, so the port's queues stay. -/
theorem landPacket_frame (st : Stream) (offset : Nat) (data : List Byte) (d : DockPort) :
    (landPacket st offset data d).requests = d.requests ∧ (landPacket st offset data d).outbound = d.outbound ∧
      (landPacket st offset data d).link = d.link ∧ (landPacket st offset data d).stream = d.stream := by
  unfold landPacket
  dsimp only
  split
  · simp
  · cases d.nextBuffer <;> simp [DockPort.setRx]

theorem takeWriteData_ports {offset : Nat} {data : List Byte} (short : data.length ≤ limit) (s : State) :
    PortsKept limit s (takeWriteData offset data s) := by
  unfold takeWriteData
  split
  · exact .refl s
  · next st opened =>
    split
    · exact .refl s
    · next accepted =>
      push Not at accepted
      obtain ⟨-, -, -, expected⟩ := accepted
      obtain ⟨requests, outbound, link, stream⟩ :=
        landPacket_frame st offset data { s.dock with stream := some (st.accept offset data.length) }
      refine PortsKept.trans
        (t := { s with
          dock := landPacket st offset data { s.dock with stream := some (st.accept offset data.length) } })
        ⟨rfl, fun kept => ?_, fun kept st' landed => ?_, fun kept => ?_⟩ (finishStream_ports _)
      · simpa only [QueuesKept, requests, outbound, link] using kept
      · obtain ⟨counts, bound, -⟩ := kept st opened
        cases stream.symm.trans landed
        exact accept_streamKept _ counts bound expected
      · exact landPacket_within short (buffersWithin_congr rfl rfl kept)

end

end Sys2Proof.Proofs

/-! ## What every step keeps of the two ports: the links, the keyboard, the memory, and every command -/

namespace Sys2Proof.Proofs

open Sys2Proof.Machine Sys2Proof.Safety

section
variable {limit : Nat} {s t : State}

/-! ### RELEASE (R19 to R21, R168) -/

theorem doRelease_ports (m : Master) (n : Nat) (s : State) : PortsKept limit s (doRelease m n s) := by
  unfold doRelease
  split
  · exact reply_ports (by simp)
  · next p _ =>
    split
    · have closed : PortsKept limit s (closePane n p s) := .of_apart (by simp)
      have gone := closed.trans (streamPaneGone_ports n _)
      exact (gone.trans (reply_same m (.release n) .ok [] _)).trans (.of_same (by simp) takeClosing_room)
    · have freed : PortsKept limit s (freePane n p s) := .of_apart (by simp)
      exact (freed.trans (streamPaneGone_ports n _)).trans (reply_same _ _ _ _ _)

/-! ### The link states (R159 to R163) -/

theorem enterHold_ports (s : State) : PortsKept limit s (enterHold s) :=
  .of_same (by simp) fun ⟨_, _, vehicle⟩ => ⟨by simp [enterHold], by simp [enterHold], by simpa using vehicle⟩

theorem bayEdge_ports (high : Bool) (s : State) : PortsKept limit s (bayEdge high s) := by
  unfold bayEdge
  split
  · next absent =>
    refine .of_same (by simp) fun ⟨tablet, down, vehicle⟩ => ?_
    exact ⟨by simpa using tablet, fun _ => by simpa using down (by simp [absent]), by simpa using vehicle⟩
  · next attaching =>
    refine .of_same (by simp) fun ⟨tablet, down, vehicle⟩ => ?_
    exact ⟨by simpa using tablet, fun _ => by simpa using down (by simp [attaching]), by simpa using vehicle⟩
  · exact enterHold_ports s
  · exact .refl s

/-- The link goes UP with an outbound queue in its bounds. -/
theorem roomKept_up {d : DockPort} {v : VehiclePort} (up : d.link = .up) (tablet : d.outbound.length ≤ 32)
    (vehicle : v.outbound.length ≤ 16) : RoomKept d v := ⟨tablet, fun down => absurd up down, vehicle⟩

theorem resumeLink_ports (s : State) : PortsKept limit s (resumeLink s) := by
  refine .of_same (by simp) fun ⟨tablet, _, vehicle⟩ => ?_
  simp only [resumeLink, reportLink_frame, routerResume]
  exact tryReport_room (roomKept_up rfl tablet vehicle)

/-- A link that starts has an empty outbound queue, into which the reply goes first (R160). -/
theorem linkStart_ports (grace : Nat) (down : s.dock.link ≠ .up) : PortsKept limit s (linkStart grace s) := by
  refine .of_same (by simp) fun ⟨_, empty, vehicle⟩ => ?_
  simp only [linkStart, reportLink_frame, routerLinkStart]
  refine handVehicle_room (reportFlags_room (tryReport_room (roomKept_up rfl ?_ vehicle)))
  simp [empty down]

theorem portDeparture_ports (s : State) : PortsKept limit s (portDeparture s) := by
  refine ⟨by simp, ?_, fun _ => streamKept_none rfl, fun _ => buffersWithin_empty rfl rfl⟩
  rw [queuesKept_iff, queuesKept_iff]
  rintro ⟨⟨-, -, vehicle⟩, -, frames⟩
  exact ⟨⟨by simp [portDeparture], fun _ => by simp [portDeparture], by simpa using vehicle⟩,
    by simp [portDeparture], by simpa using frames⟩

theorem takeClosing_ports (s : State) (n : Nat) : PortsKept limit s (takeClosing s n) :=
  .of_same (by simp) takeClosing_room

theorem departure_ports (s : State) : PortsKept limit s (departure s) := by
  have panes : PortsKept limit (portDeparture s) (departPanes (portDeparture s)) := .of_apart (by simp)
  have keys := PortsKept.of_same (limit := limit) (s := departPanes (portDeparture s))
    (t := routerGone .tablet (departPanes (portDeparture s))) (by simp) routerGone_room
  have alerts : PortsKept limit _ (alertDeparture (routerGone .tablet (departPanes (portDeparture s)))) :=
    keys.trans (.of_apart (by simp))
  have left := ((portDeparture_ports s).trans panes).trans alerts
  have closed := left.trans (foldl_ports takeClosing_ports s.tabletLive _)
  refine closed.trans (.of_same (by simp [departure]) fun room => ?_)
  simp only [departure, reportLink_frame]
  exact handVehicle_room (by simpa using room)

/-- A departure leaves no link (R161). -/
theorem departure_down (s : State) : (departure s).dock.link ≠ .up := by
  have closings := foldl_same (fun t : State => t.dock.link) takeClosing (fun t n => by simp) s.tabletLive
    (alertDeparture (routerGone .tablet (departPanes (portDeparture s))))
  have link : (portDeparture s).dock.link = if s.bayHigh then .attaching else .absent := by
    have bay : (cutWrite .tablet (cutDrain s)).bayHigh = s.bayHigh := by simp [State.bayHigh]
    simp [portDeparture, bay]
  have kept : (departure s).dock.link = (portDeparture s).dock.link := by simp [departure, closings]
  rw [kept, link]
  split <;> simp

theorem helloArrives_ports (grace : Nat) (s : State) : PortsKept limit s (helloArrives grace s) := by
  unfold helloArrives
  split
  · next attaching => exact linkStart_ports grace (by simp [attaching])
  · split
    · exact (departure_ports s).trans (linkStart_ports grace (departure_down s))
    · exact .refl s
  · exact .refl s
  · exact .refl s

theorem helloTaken_ports (grace : Nat) (s : State) : PortsKept limit s (helloTaken grace s) := by
  unfold helloTaken
  split
  · exact (departure_ports s).trans (linkStart_ports grace (departure_down s))
  · exact .refl s

/-! ### Packets of the tablet (R158, R163, R165) -/

theorem enqueueTablet_ports (r : Request) (s : State) : PortsKept limit s (enqueueTablet r s) := by
  refine ⟨by simp, ?_, streamKept_congr (by simp), buffersWithin_congr (by simp) (by simp)⟩
  rw [queuesKept_iff, queuesKept_iff]
  rintro ⟨room, requests, frames⟩
  unfold enqueueTablet
  split
  · next free => exact ⟨room, by simpa [dockRequestLimit] using free, frames⟩
  · exact ⟨room, requests, frames⟩

theorem linkTakes_ports {hello : Bool} (takes : linkTakes hello s = some t) : PortsKept limit s t := by
  unfold linkTakes at takes
  split at takes
  · cases takes
  · split at takes <;> cases takes
    exact .refl s
  · cases takes
    exact .of_same (by simp) id
  · split at takes <;> cases takes
    exact resumeLink_ports s

/-- A WRITE DATA of at most `limit` bytes, or another packet. -/
def ShortIntake (limit : Nat) (intake : Intake) : Prop :=
  ∀ offset data, intake = .writeData offset data → data.length ≤ limit

theorem takeIntake_ports (hello : Bool) {intake : Intake} (short : ShortIntake limit intake) (s : State) :
    PortsKept limit s (takeIntake hello intake s) := by
  unfold takeIntake
  cases takes : linkTakes hello s with
  | none => exact .refl s
  | some t =>
    have taken : PortsKept limit s t := linkTakes_ports takes
    cases intake with
    | keepalive => exact taken
    | writeData offset data => exact taken.trans (takeWriteData_ports (short _ _ rfl) t)
    | request r => exact taken.trans (enqueueTablet_ports r t)

/-- A packet carries at most 1,024 payload bytes (R158). -/
theorem payload_le_of_openPacket {bytes payload : List Byte} {kind flags : Nat}
    (opened : openPacket bytes = some (kind, flags, payload)) : payload.length ≤ 1024 := by
  unfold openPacket at opened
  split at opened
  · dsimp only at opened
    split at opened
    · next valid =>
      cases opened
      obtain ⟨-, -, bound, -⟩ := valid
      exact (List.length_take_le _ _).trans bound
    · cases opened
  · cases opened

theorem data_length_of_intakeOf {kind flags offset : Nat} {payload data : List Byte}
    (read : intakeOf kind flags payload = .writeData offset data) : data.length + 4 = payload.length := by
  unfold intakeOf at read
  split_ifs at read
  cases known : readPayload kind payload with
  | none => rw [known] at read; cases read
  | some intake =>
    rw [known] at read
    exact data_length_of_readPayload (known.trans (congrArg some read))

theorem takePacket_ports (bytes : List Byte) (long : 1020 ≤ limit) (s : State) :
    PortsKept limit s (takePacket bytes s) := by
  unfold takePacket
  split
  · exact .refl s
  · next kind flags payload opened =>
    have bound := payload_le_of_openPacket opened
    split
    · split
      · exact takeIntake_ports _ (by simp [ShortIntake]) s
      · exact helloArrives_ports _ s
    · refine takeIntake_ports _ (fun offset data read => ?_) s
      have := data_length_of_intakeOf read
      omega

theorem sendExpires_ports (s : State) : PortsKept limit s (sendExpires s) := by
  unfold sendExpires
  split
  · exact .of_same (by simp) fun room => handTablet_room room
  · exact .refl s

theorem dockPacketLeaves_ports (s : State) : PortsKept limit s (dockPacketLeaves s) := by
  unfold dockPacketLeaves
  split
  · next leaves =>
    obtain ⟨up, -⟩ := leaves
    refine .of_same (by simp) fun ⟨tablet, _, vehicle⟩ => tryReport_room (roomKept_up up ?_ vehicle)
    exact (List.tail_sublist _).length_le.trans tablet
  · exact .refl s

theorem silenceExpires_ports (s : State) : PortsKept limit s (silenceExpires s) := by
  unfold silenceExpires
  split
  · exact enterHold_ports s
  · exact .refl s

theorem graceExpires_ports (s : State) : PortsKept limit s (graceExpires s) := by
  unfold graceExpires
  split
  · exact departure_ports s
  · exact .refl s

/-! ### The Vehicle Line (R169 to R174) -/

theorem enqueueVehicle_ports (r : Request) (s : State) : PortsKept limit s (enqueueVehicle r s) := by
  refine ⟨by simp, ?_, streamKept_congr (by simp), buffersWithin_congr (by simp) (by simp)⟩
  rw [queuesKept_iff, queuesKept_iff]
  rintro ⟨room, requests, frames⟩
  unfold enqueueVehicle
  split
  · next free => exact ⟨room, requests, by simpa [vehicleRequestLimit] using free⟩
  · exact ⟨room, requests, frames⟩

theorem vehicleReturn_ports (s : State) : PortsKept limit s (vehicleReturn s) := by
  refine .of_same (by simp) fun room => ?_
  simp only [vehicleReturn, vehField_frame]
  exact reportFlags_room (alertReturn_room room)

theorem vehicleAbsence_ports (s : State) : PortsKept limit s (vehicleAbsence s) := by
  have away : PortsKept limit s (vehicleAway s) := by
    refine ⟨rfl, ?_, streamKept_congr rfl, buffersWithin_congr rfl rfl⟩
    rw [queuesKept_iff, queuesKept_iff]
    rintro ⟨⟨tablet, down, -⟩, requests, -⟩
    exact ⟨⟨tablet, down, Nat.zero_le _⟩, requests, Nat.zero_le _⟩
  have gone : PortsKept limit (vehicleAway s) (alertAbsence (routerGone .vehicle (vehicleAway s))) :=
    .of_same (by simp) fun room => alertAbsence_room (routerGone_room room)
  rw [vehicleAbsence_eq]
  exact (away.trans gone).trans (.of_apart (by simp))

theorem vehicleHeard_ports (s : State) : PortsKept limit s (vehicleHeard s) := by
  have heard : PortsKept limit s { s with vehicle := { s.vehicle with silence := some (s.now + vehicleSilenceMs) } } :=
    .of_same (by simp) id
  unfold vehicleHeard
  dsimp only
  split
  · exact heard
  · exact heard.trans (vehicleReturn_ports _)

theorem takeFrame_ports (f : CanFrame) (s : State) : PortsKept limit s (takeFrame f s) := by
  unfold takeFrame
  split_ifs
  · exact .refl s
  · exact (vehicleHeard_ports s).trans (enqueueVehicle_ports _ _)
  · exact (vehicleHeard_ports s).trans (enqueueVehicle_ports _ _)
  · exact vehicleHeard_ports s
  · exact .refl s

theorem vehicleSilenceExpires_ports (s : State) : PortsKept limit s (vehicleSilenceExpires s) := by
  unfold vehicleSilenceExpires
  split
  · exact vehicleAbsence_ports s
  · exact .refl s

theorem vehicleFrameLeaves_ports (s : State) : PortsKept limit s (vehicleFrameLeaves s) := by
  unfold vehicleFrameLeaves
  split
  · refine .of_same (by simp) fun ⟨tablet, down, vehicle⟩ => tryReport_room ⟨tablet, down, ?_⟩
    exact (List.tail_sublist _).length_le.trans vehicle
  · exact .refl s

theorem setRestartDone_ports (done : Nat) (s : State) : PortsKept limit s (setRestartDone done s) :=
  .of_same (by simp) id

theorem restartUnit_ports (unit : Nat) (m : Master) (units : Nat) {body : State → State}
    (kept : ∀ u, PortsKept limit u (body u)) (s : State) : PortsKept limit s (restartUnit unit m units body s) := by
  unfold restartUnit
  split
  · cases m with
    | tablet => exact (popRequest_ports .tablet s).trans (reply_same _ _ _ _ _)
    | vehicle =>
      dsimp only
      split_ifs
      · exact (popRequest_ports .vehicle s).trans (reply_same _ _ _ _ _)
      · have taken := (kept s).trans (popRequest_ports .vehicle (body s))
        exact (taken.trans (setRestartDone_ports 0 _)).trans (reply_same _ _ _ _ _)
      · exact (kept s).trans (setRestartDone_ports _ _)
      · exact .refl s
  · exact .refl s

theorem restartDock_ports (s : State) : PortsKept limit s (restartDock s) := by
  unfold restartDock
  split
  · exact departure_ports s
  · exact .refl s

theorem restartScan_ports (s : State) : PortsKept limit s (restartScan s) :=
  .of_same (by simp [restartScan]) fun room => flush_room room

theorem restartConvert_ports (s : State) : PortsKept limit s (restartConvert s) := by
  unfold restartConvert
  exact .of_apart (by simp)

/-! ### The keyboard, the inputs, the light and the park -/

theorem takeChange_ports (s : State) (change : KeyChange) : PortsKept limit s (takeChange s change) := by
  cases change with
  | down c =>
    have pressed : PortsKept limit s (keyDown c s) := .of_same (by simp) keyDown_room
    exact pressed.trans (.of_apart (by simp [takeChange]))
  | up c => exact .of_same (by simp [takeChange]) keyUp_room

theorem takeScan_ports (raw : BitVec 128) (s : State) : PortsKept limit s (takeScan raw s) := by
  unfold takeScan
  split
  · exact .refl s
  · exact PortsKept.trans (.of_apart (by simp)) (foldl_ports takeChange_ports _
      { s with scanner := s.scanner.debounced raw })

theorem takeCapture_ports (raw : BitVec 128) (s : State) : PortsKept limit s (takeCapture raw s) := by
  unfold takeCapture
  split
  · exact .refl s
  · have down (t : State) (code : Nat) : PortsKept limit t (capturedDown code t) := .of_apart (by simp)
    exact PortsKept.trans (.of_apart (by simp)) (foldl_ports down _ { s with scanner := s.scanner.captured raw })

theorem takeWakeSample_ports (senses : BitVec 16) (s : State) : PortsKept limit s (takeWakeSample senses s) := by
  unfold takeWakeSample
  split_ifs <;> exact .of_apart (by simp)

theorem repeatExpires_ports (s : State) : PortsKept limit s (repeatExpires s) := by
  unfold repeatExpires
  split
  · exact .refl s
  · dsimp only
    split
    · exact .of_same (by simp) fun room => placeEvent_room room
    · exact .of_apart (by simp)

theorem handEdge_ports (n : Nat) (level : Bool) (s : State) : PortsKept limit s (handEdge n level s) := by
  unfold handEdge
  split_ifs
  · exact bayEdge_ports level s
  · exact .of_same (by simp) ignitionEdge_room
  · exact .refl s

theorem qualifiedEdge_ports (n : Nat) (level : Bool) (i : DiscreteInput) (s : State) :
    PortsKept limit s (qualifiedEdge n level i s) := by
  have input : PortsKept limit s (s.setInput n
      { i with qualified := level, latest := level, changeCount := 0, interval := 0 }) := .of_apart (by simp)
  exact (input.trans (handEdge_ports n level _)).trans
    (foldl_ports (fun _ _ => .of_same (by simp) edgeForFlag_room) _ _)

theorem sampleInput_ports (s : State) (sample : Bool × Nat) : PortsKept limit s (sampleInput s sample) := by
  unfold sampleInput
  split
  · split_ifs
    · exact .of_apart (by simp)
    · exact qualifiedEdge_ports _ _ _ s
    · exact .of_apart (by simp)
  · exact .refl s

theorem takeSample_ports (pins : InputLevels) (s : State) : PortsKept limit s (takeSample pins s) := by
  have passed : PortsKept limit s (millisecond s) := .of_apart (by simp)
  exact passed.trans (foldl_ports sampleInput_ports _ _)

theorem countdownExpires_ports (s : State) : PortsKept limit s (countdownExpires s) := by
  unfold countdownExpires
  split
  · exact .of_same (by simp) enterParked_room
  · exact .refl s

theorem scanCompletes_ports (ambient supply panelTemp : Nat) (s : State) :
    PortsKept limit s (scanCompletes ambient supply panelTemp s) := by
  unfold scanCompletes
  split
  · exact .of_same (by simp) fun room => reportSupply_room room
  · exact .refl s

theorem takeBoundary_ports (s : State) : PortsKept limit s (takeBoundary s) := by
  have layout : PortsKept limit s (boundaryLayout s) := .of_same (by simp) boundaryLayout_room
  have events (lives hidden : List Nat) (u : State) : PortsKept limit u (eventsTaken lives hidden u) :=
    (foldl_ports (f := fun t n => alertPaneLive n t) (fun _ _ => .of_same (by simp) alertPaneLive_room) lives u).trans
      (foldl_ports (f := takeHidden) (fun _ _ => .of_same (by simp) takeHidden_room) hidden _)
  have next (u : State) (o : ScanOut) : PortsKept limit u { u with scanOut := o } := .of_apart (by simp)
  rw [takeBoundary_eq]
  exact (layout.trans (next (boundaryLayout s) s.scanOut.nextFrame)).trans (events _ _ _)

/-! ### Work on the memory (R39, R42, R50, R166, R167) -/

theorem drainDone_ports (s : State) : PortsKept limit s (drainDone s) := by
  unfold drainDone
  split
  · next name _ =>
    have emptied : PortsKept limit s { s with dock := s.dock.setRx name .empty } := by
      refine ⟨rfl, ?_, streamKept_congr (setRx_stream _ _ _), buffersWithin_setRx fun _ _ content => ?_⟩
      · cases name <;> exact id
      · cases content
    exact emptied.trans (finishStream_ports _)
  · exact .refl s

theorem fillDone_ports (s : State) : PortsKept limit s (fillDone s) := by
  unfold fillDone
  dsimp only
  split
  · split
    · split <;> exact .of_apart (by simp)
    · exact .of_apart (by simp)
  · exact .refl s

theorem finishWork_ports (w : Writer) (s : State) : PortsKept limit s (finishWork w s) := by
  cases w with
  | fill => exact fillDone_ports s
  | drain => exact drainDone_ports s
  | text source => cases source <;> exact .of_apart ⟨rfl, rfl, rfl⟩

theorem completeWork_ports {w : Writer} (next : completeWork w s = .next t) : PortsKept limit s t := by
  obtain ⟨-, rfl⟩ | ⟨-, cells, -, rfl⟩ := completeWork_next next
  · exact .refl _
  · exact PortsKept.trans (.of_apart (by simp)) (finishWork_ports w
      { s with mem := s.servedIfLeft w { s.mem with cells := cells } })

/-- What a grant to the drain can do: nothing, the end of the buffer's drain, or bytes in front written and others
left. -/
theorem grantWrite_drain_cases (s : State) :
    grantWrite .drain s = s ∨ (∃ m, grantWrite .drain s = drainDone { s with mem := m }) ∨
      ∃ m name start bytes upTo, (s.dock.rx name).content = some (start, bytes) ∧ bytes.drop (upTo - start) ≠ [] ∧
        grantWrite .drain s =
          { s with mem := m, dock := s.dock.setRx name (.draining upTo (bytes.drop (upTo - start))) } := by
  cases hlast : (accessOf (s.work .drain)).getLast? with
  | none => exact .inl (by simp only [grantWrite, hlast])
  | some last =>
    have work : HasWork .drain s := (work_ne_nil_iff _ _).1 fun none => by simp [none, accessOf] at hlast
    obtain ⟨cells, made⟩ : ∃ cells, grantWrite .drain s =
        if (granted .drain (last.number + 1) cells s).waits .drain then granted .drain (last.number + 1) cells s
        else finishWork .drain (granted .drain (last.number + 1) cells s) :=
      ⟨(accessOf (s.work .drain)).foldl Placed.land s.mem.cells, by
        simp only [grantWrite, hlast, advanceWork_eq_granted (w := .drain) _ s nofun]⟩
    rw [made]
    split
    · next waits =>
      obtain ⟨name, start, bytes, st, p, k, oldest, content, -⟩ := work
      have dock : (granted .drain (last.number + 1) cells s).dock = _ :=
        dockGranted_drain (last.number + 1) oldest content
      obtain ⟨name', start', bytes', -, -, k', oldest', content', -, -, -, above, below, -⟩ :=
        (waits_iff_hasWork _ _).1 waits
      rw [dock, oldest_setRx oldest (by simp)] at oldest'
      cases oldest'
      rw [dock, rx_setRx] at content'
      cases content'
      refine .inr (.inr ⟨memGranted .drain (last.number + 1) cells s.mem, name, start, bytes, last.number + 1, content,
        fun none => ?_, ?_⟩)
      · rw [none] at below
        exact absurd below (by simpa using above)
      · rw [← dock]
        rfl
    · rw [finishWork_granted _ cells work]
      exact .inr (.inl ⟨_, rfl⟩)

theorem grantWrite_ports (w : Writer) (s : State) : PortsKept limit s (grantWrite w s) := by
  by_cases drain : w = .drain
  · subst drain
    obtain same | ⟨m, ended⟩ | ⟨m, name, start, bytes, upTo, content, left, goes⟩ := grantWrite_drain_cases s
    · rw [same]
      exact .refl s
    · rw [ended]
      exact PortsKept.trans (t := { s with mem := m }) (.of_apart ⟨rfl, rfl, rfl⟩) (drainDone_ports _)
    · rw [goes]
      refine ⟨rfl, ?_, streamKept_congr (setRx_stream _ _ _), fun kept => ?_⟩
      · cases name <;> exact id
      · obtain ⟨-, bound⟩ := kept name start bytes content
        refine buffersWithin_setRx (fun _ _ rest => ?_) kept
        cases rest
        exact ⟨List.length_pos_iff.2 left, (List.drop_sublist _ _).length_le.trans bound⟩
  · have advanced (upTo : Nat) (m : SurfaceMemory) : PortsKept limit s (advanceWork upTo w { s with mem := m }) := by
      cases w with
      | drain => exact absurd rfl drain
      | fill => exact .of_apart ⟨rfl, rfl, rfl⟩
      | text source => cases source <;> exact .of_apart ⟨rfl, rfl, rfl⟩
    unfold grantWrite
    dsimp only
    split
    · split
      · exact advanced _ _
      · exact (advanced _ _).trans (finishWork_ports w _)
    · exact .refl s

theorem idle_ports (s : State) : PortsKept limit s (idle s) := by
  rw [idle_eq]
  split
  · cases s.nextWriter with
    | none => exact .of_apart (by simp)
    | some w => exact (grantWrite_ports w s).trans (.of_apart (by simp))
  · exact .refl s

/-! ### Every command -/

theorem cutAll_ports (s : State) : PortsKept limit s (cutAll s) := by
  unfold cutAll
  dsimp only
  refine PortsKept.trans ?_ (foldl_ports (f := fun t w => cutRowWrite w t) (fun _ _ => .of_apart (by simp)) _ _)
  split <;> exact .of_apart (by simp)

theorem resetState_ports (ids1 ids0 : Bool) (pins : InputLevels) (scanOut : ScanOut) (converting : Bool)
    (link : LinkState) (cells : List Host.Cell) (s : State) :
    PortsKept limit s (resetState ids1 ids0 pins scanOut converting link cells s) :=
  ⟨rfl, fun _ => ⟨Nat.zero_le _, Nat.zero_le _, fun _ => rfl, Nat.zero_le _, Nat.zero_le _⟩,
    fun _ => streamKept_none rfl, fun _ => buffersWithin_empty rfl rfl⟩

theorem whenRunning_ports {body : State → State} (kept : ∀ u, PortsKept limit u (body u))
    (next : whenRunning body s = .next t) : PortsKept limit s t :=
  whenRunning_holds (P := PortsKept limit s) (fun _ => kept s) (.refl s) next

/-- Each command keeps the ports in their bounds, with buffers for as many bytes as its WRITE DATA carries. -/
theorem exec_ports {c : Instr} (long : 1020 ≤ limit)
    (short : ∀ offset data, c = .writeData offset data → data.length ≤ limit) (next : exec c s = .next t) :
    PortsKept limit s t := by
  cases c
  case fullReset => cases next; exact (cutAll_ports s).trans (resetState_ports _ _ _ _ _ _ _ _)
  case resetRelease => cases next; exact (cutAll_ports s).trans (resetState_ports _ _ _ _ _ _ _ _)
  case hello =>
    change execHello _ s = _ at next
    unfold execHello at next
    split at next
    · exact taking_ports (helloTaken_ports _) next
    · exact whenRunning_ports (helloArrives_ports _) next
  case refusedPacket => exact taking_ports (fun u => reply_same _ _ _ _ u) next
  case claim => exact taking_ports (doClaim_ports _ _) next
  case release => exact taking_ports (doRelease_ports _ _) next
  case move => exact taking_ports (doMove_ports _ _ _) next
  case scroll => exact taking_ports (doScroll_ports _ _ _ _) next
  case raise | lower => exact taking_ports (doReorder_ports _ _ _ _) next
  case showPane | hidePane => exact taking_ports (doVisible_ports _ _ _ _) next
  case flip => exact taking_ports (doFlip_ports _ _) next
  case focus => exact taking_ports (doFocus_ports _ _) next
  case keyAck => exact taking_ports (doKeyAck_ports _) next
  case repeatSet => exact taking_ports (doRepeatSet_ports _ _ _ _) next
  case writeBegin => exact taking_ports (doWriteBegin_ports _ _ _) next
  case fillRect => exact taking_ports (doFillRect_ports _ _ _ _) next
  case textPut => exact taking_ports (doTextPut_ports _ _ _ _ _) next
  case textDataFrame => exact taking_ports (doTextData_ports _ _ _ _ _ _) next
  case textClear => exact taking_ports (doTextClear_ports _ _ _) next
  case inputAck => exact taking_ports (doInputAck_ports _ _) next
  case inputMode => exact taking_ports (doInputMode_ports _ _ _ _ _) next
  case queryInputs => exact taking_ports (doQueryInputs_ports _ _) next
  case lineSet => exact taking_ports (doLineSet_ports _ _ _ _) next
  case queryLines => exact taking_ports (fun u => reply_same _ _ _ _ u) next
  case queryLight => exact taking_ports (doQueryLight_ports _ _) next
  case darkCab => exact taking_ports (doDarkCab_ports _ _) next
  case parkDelay => exact taking_ports (doParkDelay_ports _ _) next
  case wake => exact taking_ports (doWake_ports _) next
  case scanSet => exact taking_ports (doScanSet_ports _ _ _) next
  case restartDockLink => cases next; exact restartUnit_ports 0 _ _ restartDock_ports s
  case restartScanner => cases next; exact restartUnit_ports 1 _ _ restartScan_ports s
  case restartConverter => cases next; exact restartUnit_ports 2 _ _ restartConvert_ports s
  case dockLinkPacketReceived => exact whenRunning_ports (takePacket_ports _ long) next
  case keepalive => exact whenRunning_ports (takeIntake_ports _ (by simp [ShortIntake])) next
  case writeData offset data =>
    refine whenRunning_ports (takeIntake_ports _ fun _ _ same => ?_) next
    cases same
    exact short _ _ rfl
  case sendTimerExpiry => exact whenRunning_ports sendExpires_ports next
  case silenceTimerExpiry => exact whenRunning_ports silenceExpires_ports next
  case graceTimerExpiry => exact whenRunning_ports graceExpires_ports next
  case dockPacketSent => exact whenRunning_ports dockPacketLeaves_ports next
  case vehicleFrameReceived => exact whenRunning_ports (takeFrame_ports _) next
  case vehicleSilenceExpiry => exact whenRunning_ports vehicleSilenceExpires_ports next
  case vehicleFrameSent => exact whenRunning_ports vehicleFrameLeaves_ports next
  case frameBoundary => exact whenRunning_ports takeBoundary_ports next
  case scanEvent => exact whenRunning_ports (takeScan_ports _) next
  case captureScan => exact whenRunning_ports (takeCapture_ports _) next
  case wakeSample => exact whenRunning_ports (takeWakeSample_ports _) next
  case repeatExpiry => exact whenRunning_ports repeatExpires_ports next
  case inputSample => exact whenRunning_ports (takeSample_ports _) next
  case countdownExpiry => exact whenRunning_ports countdownExpires_ports next
  case converterScanStart => exact whenRunning_ports (fun _ => .of_apart (by simp)) next
  case scanCompletion => exact whenRunning_ports (scanCompletes_ports _ _ _) next
  case linkLedToggle => exact whenRunning_ports (fun _ => .of_apart (by simp)) next
  case fillCompletion | drainComplete | memoryWritesComplete => exact completeWork_ports next

end

/-- Some limit holds for what a command's WRITE DATA brings, if it is one. -/
theorem exists_limit (c : Option Instr) :
    ∃ limit, 1020 ≤ limit ∧ ∀ offset data, c = some (.writeData offset data) → data.length ≤ limit := by
  by_cases write : ∃ offset data, c = some (.writeData offset data)
  · obtain ⟨offset, data, rfl⟩ := write
    refine ⟨max 1020 data.length, le_max_left _ _, fun _ _ same => ?_⟩
    cases same
    exact le_max_right _ _
  · exact ⟨1020, le_rfl, fun offset data same => absurd ⟨offset, data, same⟩ write⟩

/-- Settles O2: the commands that wait are part of what `exec_ports` keeps. -/
theorem execKeepsTheQueue : Obligations.ExecKeepsTheQueue := by
  intro c s t next
  obtain ⟨limit, long, short⟩ := exists_limit (some c)
  exact (exec_ports long (fun offset data same => short offset data (congrArg some same)) next).pending

/-- A step, but for the commands that wait. -/
theorem step_ports {limit : Nat} {s t : State} (long : 1020 ≤ limit)
    (short : ∀ offset data, s.pending.head? = some (.writeData offset data) → data.length ≤ limit)
    (next : step s = .next t) : ∃ rest, PortsKept limit { s with pending := rest } t := by
  unfold step at next
  split at next
  · cases next
    exact ⟨s.pending, idle_ports s⟩
  · next c rest waiting =>
    refine ⟨rest, exec_ports long (fun offset data same => short offset data ?_) next⟩
    rw [waiting, same]
    rfl

/-- Settles O58: `exec_ports` for each command, `idle_ports` for a step without one. -/
theorem stepsKeepTheQueueBounds : Obligations.StepsKeepTheQueueBounds := by
  refine ⟨fun s t kept next => ?_, fun s t kept next => ?_, fun s t kept short next => ?_⟩
  · obtain ⟨limit, long, short⟩ := exists_limit s.pending.head?
    obtain ⟨rest, ports⟩ := step_ports long short next
    exact ports.queues kept
  · obtain ⟨limit, long, short⟩ := exists_limit s.pending.head?
    obtain ⟨rest, ports⟩ := step_ports long short next
    exact ports.stream kept
  · obtain ⟨rest, ports⟩ := step_ports le_rfl short next
    exact ports.buffers kept

end Sys2Proof.Proofs

/-! ## A packet at its end: the checks, the link state and the queue (R157 to R159, R162, R165, R175 to R178) -/

namespace Sys2Proof.Proofs

open Sys2Proof.Machine Sys2Proof.Safety

/-! ### The header and the CRC (R158 step 1) -/

/-- The CRC and the length field of a packet are right, and its payload is not too long. -/
def PacketValid (kind flags l0 l1 hi lo : Byte) (payload : List Byte) : Prop :=
  hi = byte ((crc16 (kind :: flags :: l0 :: l1 :: payload)).toNat / 256) ∧
    lo = byte (crc16 (kind :: flags :: l0 :: l1 :: payload)).toNat ∧
    l0.toNat + 256 * l1.toNat = payload.length ∧ payload.length ≤ 1024

section
variable {kind flags l0 l1 hi lo : Byte} {payload : List Byte}

theorem openPacket_of_valid (valid : PacketValid kind flags l0 l1 hi lo payload) :
    openPacket (kind :: flags :: l0 :: l1 :: (payload ++ [hi, lo])) = some (kind.toNat, flags.toNat, payload) := by
  obtain ⟨high, low, length, bound⟩ := valid
  simp [openPacket, u16, ← high, ← low, length, bound]

theorem openPacket_of_invalid (invalid : ¬PacketValid kind flags l0 l1 hi lo payload) :
    openPacket (kind :: flags :: l0 :: l1 :: (payload ++ [hi, lo])) = none := by
  simp only [PacketValid] at invalid
  simp [openPacket, u16]
  tauto

end

theorem openPacket_of_short {bytes : List Byte} (short : bytes.length < 6) : openPacket bytes = none := by
  match bytes, short with
  | [], _ | [_], _ | [_, _], _ | [_, _, _], _ | [_, _, _, _], _ | [_, _, _, _, _], _ => rfl

/-! ### The link state (R158 step 2, R159, R162) -/

/-- A packet in UP restarts the silence timer. -/
def heardTablet (s : State) : State := { s with dock := { s.dock with silence := some (s.now + 20) } }

/-- The link takes no packet: ABSENT, and HOLD with BAY qualified LOW. -/
def Deaf (s : State) : Prop := s.dock.link = .absent ∨ (s.dock.link = .hold ∧ s.bayHigh = false)

section
variable {s : State}

theorem linkTakes_up (up : s.dock.link = .up) (hello : Bool) : linkTakes hello s = some (heardTablet s) := by
  simp [linkTakes, up, heardTablet, dockSilenceMs]

theorem linkTakes_hold (hold : s.dock.link = .hold) (bay : s.bayHigh = true) (hello : Bool) :
    linkTakes hello s = some (resumeLink s) := by
  simp only [linkTakes, hold, bay, if_true]

theorem linkTakes_deaf (deaf : Deaf s) (hello : Bool) : linkTakes hello s = none := by
  obtain absent | ⟨hold, bay⟩ := deaf
  · simp only [linkTakes, absent]
  · simp only [linkTakes, hold, bay, Bool.false_eq_true, if_false]

theorem linkTakes_attaching (attaching : s.dock.link = .attaching) : linkTakes false s = none := by
  simp only [linkTakes, attaching, Bool.false_eq_true, if_false]

theorem helloArrives_deaf (deaf : Deaf s) (grace : Nat) : helloArrives grace s = s := by
  obtain absent | ⟨hold, bay⟩ := deaf
  · simp only [helloArrives, absent]
  · simp only [helloArrives, hold, bay, Bool.false_eq_true, if_false]

theorem not_up_of_deaf (deaf : Deaf s) : s.dock.link ≠ .up := by
  obtain absent | ⟨hold, -⟩ := deaf <;> simp [*]

/-- The link that has come UP is reported (R27, R28, R153). -/
theorem reportLink_eq_linkShown {before : LinkState} (change : before ≠ .up) (up : s.dock.link = .up) :
    reportLink before s = linkShown before .up s := by
  rw [reportLink_of_change (by rw [up]; exact change.symm), up]
  simp [linkShown, linkLed, setLinkLed, setLedTimer]

/-- The resume from HOLD (R162). -/
theorem resumeLink_resumedTo (hold : s.dock.link = .hold) : ResumedTo s (resumeLink s) := by
  refine ⟨_, tryReport_reported .tablet _, ?_⟩
  rw [resumeLink, hold]
  exact reportLink_eq_linkShown (by simp) (by simp [routerResume])

@[simp] theorem tryReport_tablet_timers (s : State) : (tryReport .tablet s).dock.silence = s.dock.silence := by
  unfold tryReport
  split <;> simp [hand]

theorem resumeLink_up (s : State) : (resumeLink s).dock.link = .up := by simp [resumeLink]

theorem resumeLink_running (s : State) : (resumeLink s).scanOut = s.scanOut := by simp [resumeLink]

/-- The resume has restarted the silence timer already. -/
theorem heardTablet_resumeLink (s : State) : heardTablet (resumeLink s) = resumeLink s := by
  have silence : (resumeLink s).dock.silence = some ((resumeLink s).now + 20) := by
    simp [resumeLink, routerResume, dockSilenceMs]
  rw [heardTablet, ← silence]

/-! ### What a packet does (R158 steps 3 and 4) -/

/-- What a valid packet that is no HELLO at arrival does once the link has taken it. -/
def intakeTaken (intake : Intake) (s : State) : State :=
  match intake with
  | .keepalive => s
  | .writeData offset data => takeWriteData offset data s
  | .request r => enqueueTablet r s

theorem takeIntake_eq (hello : Bool) (intake : Intake) (s : State) :
    takeIntake hello intake s = ((linkTakes hello s).map (intakeTaken intake)).getD s := by
  unfold takeIntake
  cases linkTakes hello s <;> cases intake <;> rfl

theorem takeIntake_up (up : s.dock.link = .up) (hello : Bool) (intake : Intake) :
    takeIntake hello intake s = intakeTaken intake (heardTablet s) := by
  rw [takeIntake_eq, linkTakes_up up]
  rfl

theorem takeIntake_hold (hold : s.dock.link = .hold) (bay : s.bayHigh = true) (hello : Bool) (intake : Intake) :
    takeIntake hello intake s = intakeTaken intake (resumeLink s) := by
  rw [takeIntake_eq, linkTakes_hold hold bay]
  rfl

theorem takeIntake_deaf (deaf : Deaf s) (hello : Bool) (intake : Intake) : takeIntake hello intake s = s := by
  rw [takeIntake_eq, linkTakes_deaf deaf]
  rfl

theorem takeIntake_attaching (attaching : s.dock.link = .attaching) (intake : Intake) :
    takeIntake false intake s = s := by
  rw [takeIntake_eq, linkTakes_attaching attaching]
  rfl

/-- In HOLD with BAY HIGH the packet is taken as in UP, once the link has resumed. -/
theorem takeIntake_resumed (hold : s.dock.link = .hold) (bay : s.bayHigh = true) (hello : Bool) (intake : Intake) :
    takeIntake hello intake s = takeIntake hello intake (resumeLink s) := by
  rw [takeIntake_hold hold bay, takeIntake_up (resumeLink_up s), heardTablet_resumeLink]

variable {bytes payload : List Byte} {kind flags : Nat}

theorem takePacket_of_closed (closed : openPacket bytes = none) : takePacket bytes s = s := by
  rw [takePacket, closed]

theorem takePacket_deaf (deaf : Deaf s) (bytes : List Byte) : takePacket bytes s = s := by
  unfold takePacket
  split
  · rfl
  · split
    · rw [if_neg (not_up_of_deaf deaf), helloArrives_deaf deaf]
    · exact takeIntake_deaf deaf _ _

/-- A HELLO at arrival. -/
theorem takePacket_hello {grace : Nat} (opened : openPacket bytes = some (kind, flags, payload))
    (read : intakeOf kind flags payload = .request (.hello grace)) (down : s.dock.link ≠ .up) :
    takePacket bytes s = helloArrives grace s := by
  simp only [takePacket, opened, read, if_neg down]

theorem takePacket_up (opened : openPacket bytes = some (kind, flags, payload)) (up : s.dock.link = .up) :
    takePacket bytes s = intakeTaken (intakeOf kind flags payload) (heardTablet s) := by
  simp only [takePacket, opened]
  split
  · next grace read => rw [if_pos up, takeIntake_up up, read]
  · exact takeIntake_up up _ _

/-- Only the kind of HELLO is read as one. -/
theorem kind_of_hello {grace : Nat} (read : intakeOf kind flags payload = .request (.hello grace)) : kind = 0x01 := by
  unfold intakeOf at read
  split_ifs at read
  · cases known : readPayload kind payload with
    | none => simp [known] at read
    | some intake =>
      rw [known] at read
      exact (requestCode_of_readPayload (known.trans (congrArg some read))).symm
  all_goals cases read

theorem takePacket_other (opened : openPacket bytes = some (kind, flags, payload)) (other : kind ≠ 0x01) :
    takePacket bytes s = takeIntake false (intakeOf kind flags payload) s := by
  simp only [takePacket, opened]
  split
  · next grace read => exact absurd (kind_of_hello read) other
  · rw [beq_eq_false_iff_ne.2 other]

/-! ### Requests queued, and a packet end to end -/

/-- The request joins the queue if it has room (R165). -/
def queuedRequest (r : Request) (s : State) : State :=
  { s with dock := { s.dock with
      requests := if s.dock.requests.length < 8 then s.dock.requests ++ [r] else s.dock.requests } }

theorem enqueueTablet_eq (r : Request) (s : State) : enqueueTablet r s = queuedRequest r s := by
  change (if s.dock.requests.length < 8 then _ else s) = _
  unfold queuedRequest
  split_ifs <;> rfl

theorem exec_packet (running : s.scanOut.running = true) (bytes : List Byte) :
    exec (.dockLinkPacketReceived bytes) s = .next (takePacket bytes s) := whenRunning_of_running running _

theorem exec_keepalive (running : s.scanOut.running = true) :
    exec .keepalive s = .next (takeIntake false .keepalive s) := whenRunning_of_running running _

theorem exec_writeData (running : s.scanOut.running = true) (offset : Nat) (data : List Byte) :
    exec (.writeData offset data) s = .next (takeIntake false (.writeData offset data) s) :=
  whenRunning_of_running running _

theorem intakeOf_undefined (undefined : tabletKind kind = false) :
    intakeOf kind flags payload = .request (.refused kind .unknown) := by
  simp [intakeOf, undefined]

theorem intakeOf_misfit (defined : tabletKind kind = true) (misfit : flags ≠ 0 ∨ readPayload kind payload = none) :
    intakeOf kind flags payload = .request (.refused kind .badValue) := by
  unfold intakeOf
  rw [if_pos defined]
  obtain flags | unread := misfit
  · rw [if_neg flags]
  · rw [unread, Option.getD_none, ite_self]

theorem intakeOf_read {intake : Intake} (defined : tabletKind kind = true) (plain : flags = 0)
    (read : readPayload kind payload = some intake) : intakeOf kind flags payload = intake := by
  rw [intakeOf, if_pos defined, if_pos plain, read, Option.getD_some]

theorem takePacket_attaching (attaching : s.dock.link = .attaching)
    (other : ∀ opened, openPacket bytes = some opened → opened.1 ≠ 0x01) : takePacket bytes s = s := by
  cases opened : openPacket bytes with
  | none => exact takePacket_of_closed opened
  | some header => rw [takePacket_other opened (other header opened), takeIntake_attaching attaching]

/-- What a valid packet in UP does. -/
theorem exec_packet_up (running : s.scanOut.running = true) (up : s.dock.link = .up)
    (opened : openPacket bytes = some (kind, flags, payload)) :
    exec (.dockLinkPacketReceived bytes) s = .next (intakeTaken (intakeOf kind flags payload) (heardTablet s)) := by
  rw [exec_packet running, takePacket_up opened up]

theorem exec_packet_up_request {r : Request} (running : s.scanOut.running = true) (up : s.dock.link = .up)
    (opened : openPacket bytes = some (kind, flags, payload)) (read : intakeOf kind flags payload = .request r) :
    exec (.dockLinkPacketReceived bytes) s = .next (queuedRequest r (heardTablet s)) := by
  rw [exec_packet_up running up opened, read, intakeTaken, enqueueTablet_eq]

/-- In HOLD with BAY HIGH the link resumes, and the packet is then taken as in UP. -/
theorem exec_packet_resumed (running : s.scanOut.running = true) (hold : s.dock.link = .hold) (bay : s.bayHigh = true)
    (opened : openPacket bytes = some (kind, flags, payload)) (other : kind ≠ 0x01) :
    exec (.dockLinkPacketReceived bytes) s = exec (.dockLinkPacketReceived bytes) (resumeLink s) := by
  rw [exec_packet running, exec_packet (by rwa [resumeLink_running]), takePacket_other opened other,
    takePacket_other opened other, takeIntake_resumed hold bay]

/-- A HELLO is taken at its arrival in ATTACHING and in HOLD with BAY HIGH. -/
theorem exec_packet_hello {g0 g1 : Byte} (running : s.scanOut.running = true)
    (link : s.dock.link = .attaching ∨ (s.dock.link = .hold ∧ s.bayHigh = true))
    (opened : openPacket bytes = some (0x01, 0, [g0, g1])) :
    exec (.dockLinkPacketReceived bytes) s = exec (.hello (g0.toNat + 256 * g1.toNat)) s := by
  have arrives : ¬(s.dock.link = .up ∨ (s.dock.link = .hold ∧ s.bayHigh = false)) := by
    obtain attaching | ⟨hold, bay⟩ := link <;> simp [*]
  have hello : exec (.hello (g0.toNat + 256 * g1.toNat)) s = whenRunning (helloArrives (g0.toNat + 256 * g1.toNat)) s :=
    if_neg arrives
  rw [hello, whenRunning_of_running running, exec_packet running,
    takePacket_hello opened rfl (fun up => arrives (.inl up))]
  rfl

end

/-- Settles O53: the header's checks, the link state and the queue decide, each by its lemma above. -/
theorem packetsAreCheckedAndQueued : Obligations.PacketsAreCheckedAndQueued := by
  unfold Obligations.PacketsAreCheckedAndQueued
  refine ⟨fun kind payload => ⟨tabletKind_iff kind, readPayload_ne_none_iff kind payload⟩, ?_, ?_, ?_, ?_⟩
  · intro kind flags l0 l1 hi lo payload s running
    dsimp only
    have opens := fun valid => openPacket_of_valid (kind := kind) (flags := flags) (l0 := l0) (l1 := l1) (hi := hi)
      (lo := lo) (payload := payload) valid
    have other (kind_ : kind ≠ 0x01) : kind.toNat ≠ 0x01 := fun same => kind_ (BitVec.eq_of_toNat_eq same)
    refine ⟨fun invalid => ?_, fun absent => ?_, fun attaching kind_ => ?_, fun hold bay => ?_,
      fun valid hold bay kind_ => ?_, fun valid kind_ flags_ link g0 g1 payload_ => ?_,
      fun valid up => ⟨fun undefined => ?_, fun defined misfit => ?_, fun defined flags_ => ⟨fun read => ?_,
        fun offset data read => ?_, fun r read => ?_⟩⟩⟩
    · rw [exec_packet running, takePacket_of_closed (openPacket_of_invalid invalid)]
    · rw [exec_packet running, takePacket_deaf (.inl absent)]
    · rw [exec_packet running, takePacket_attaching attaching fun opened read => ?_]
      by_cases valid : PacketValid kind flags l0 l1 hi lo payload
      · cases (opens valid).symm.trans read
        exact other kind_
      · cases (openPacket_of_invalid valid).symm.trans read
    · rw [exec_packet running, takePacket_deaf (.inr ⟨hold, bay⟩)]
    · exact ⟨_, resumeLink_resumedTo hold, exec_packet_resumed running hold bay (opens valid) (other kind_)⟩
    · subst kind_ flags_ payload_
      exact exec_packet_hello running link (opens valid)
    · exact exec_packet_up_request running up (opens valid) (intakeOf_undefined undefined)
    · exact exec_packet_up_request running up (opens valid) (intakeOf_misfit defined
        (misfit.imp_left fun set zero => set (BitVec.eq_of_toNat_eq zero)))
    · rw [exec_packet_up running up (opens valid), intakeOf_read defined (congrArg BitVec.toNat flags_) read]
      rfl
    · rw [exec_packet_up running up (opens valid), intakeOf_read defined (congrArg BitVec.toNat flags_) read,
        exec_writeData running, takeIntake_up up]
    · exact exec_packet_up_request running up (opens valid)
        (intakeOf_read defined (congrArg BitVec.toNat flags_) read)
  · intro bytes s short running
    rw [exec_packet running, takePacket_of_closed (openPacket_of_short short)]
  · refine fun s running => ⟨?_, fun up => ?_, fun hold bay => ⟨_, resumeLink_resumedTo hold, ?_⟩⟩
    · rintro (absent | attaching | deaf)
      · rw [exec_keepalive running, takeIntake_deaf (.inl absent)]
      · rw [exec_keepalive running, takeIntake_attaching attaching]
      · rw [exec_keepalive running, takeIntake_deaf (.inr deaf)]
    · rw [exec_keepalive running, takeIntake_up up]
      rfl
    · rw [exec_keepalive running, takeIntake_hold hold bay]
      rfl
  · intro m code result s turn
    exact (taking_of_turn turn _).trans (congrArg _ (reply_taken m (.refused code result) result [] s))

end Sys2Proof.Proofs

/-! ## WRITE DATA enters the stream (R157, R166, R167) -/

namespace Sys2Proof.Proofs

open Sys2Proof.Machine Sys2Proof.Safety

section
variable {s : State} {st : Stream} {offset : Nat} {data : List Byte}

theorem rxrdy_iff (s : State) :
    s.rxrdy = true ↔ s.dock.link = .up ∧ s.dock.rx s.dock.nextBuffer = .empty ∧ s.dock.requests = [] := by
  simp only [State.rxrdy, Bool.and_eq_true, beq_iff_eq, List.isEmpty_iff, and_assoc]

theorem buffersEmpty_iff (s : State) :
    s.buffersEmpty = true ↔ s.dock.bufferA = .empty ∧ s.dock.bufferB = .empty := by
  simp only [State.buffersEmpty, Bool.and_eq_true, beq_iff_eq]

theorem takeWriteData_discarded
    (why : s.dock.requests ≠ [] ∨ s.dock.rx s.dock.nextBuffer ≠ .empty ∨
      ¬∃ st, s.dock.stream = some st ∧ st.ended = false ∧ st.nextExpected ≤ offset) :
    takeWriteData offset data s = s := by
  unfold takeWriteData
  split
  · rfl
  · next st opened =>
    refine if_pos ?_
    obtain requests | next | none_ := why
    · exact .inl requests
    · exact .inr (.inl next)
    · refine .inr (.inr ?_)
      by_contra open_
      push Not at open_
      exact none_ ⟨st, opened, Bool.not_eq_true _ ▸ open_.1, open_.2⟩

theorem takeWriteData_accepted (opened : s.dock.stream = some st) (requests : s.dock.requests = [])
    (next : s.dock.rx s.dock.nextBuffer = .empty) (going : st.ended = false) (expected : st.nextExpected ≤ offset) :
    takeWriteData offset data s = finishStream
      { s with dock := landPacket st offset data { s.dock with stream := some (st.accept offset data.length) } } := by
  simp only [takeWriteData, opened]
  exact if_neg (by simp [requests, next, going, expected])

/-- The stream is not ended, or a buffer still holds bytes. -/
theorem finishStream_waits (opened : s.dock.stream = some st) (waits : st.ended = false ∨ s.buffersEmpty = false) :
    finishStream s = s := by
  simp only [finishStream, opened]
  exact if_neg (by obtain going | held := waits <;> simp [*])

theorem finishStream_ended (opened : s.dock.stream = some st) (ended : st.ended = true)
    (drained : s.buffersEmpty = true) :
    finishStream s = handed .tablet
      (.notice (.writeDone st.pane st.buffer (if st.missing = 0 then .complete else .damaged) st.missing))
      { s with dock := { s.dock with stream := none } } := by
  simp only [finishStream, opened, ended, drained, Bool.and_self, if_true, writeDone, handTablet_eq_handed]

theorem landPacket_none {d : DockPort} (bytes : data.take (st.total - offset) = []) :
    landPacket st offset data d = d := if_pos bytes

theorem landPacket_some {d : DockPort} (bytes : data.take (st.total - offset) ≠ []) :
    landPacket st offset data d =
      match d.nextBuffer with
      | .a => { d with bufferA := .filled offset (data.take (st.total - offset)), nextBuffer := .b }
      | .b => { d with bufferB := .filled offset (data.take (st.total - offset)), nextBuffer := .a } := by
  refine (if_neg bytes).trans ?_
  cases d.nextBuffer <;> rfl

/-- A packet that fills a buffer keeps the stream from its end. -/
theorem buffersEmpty_landPacket {d : DockPort} (bytes : data.take (st.total - offset) ≠ []) :
    State.buffersEmpty { s with dock := landPacket st offset data d } = false := by
  rw [landPacket_some bytes]
  refine Bool.eq_false_iff.2 fun empty => ?_
  obtain ⟨a, b⟩ := (buffersEmpty_iff _).1 empty
  cases which : d.nextBuffer
  · simp [which] at a
  · simp [which] at b

/-- What a WRITE DATA in UP leaves, by what the packet brings (R167). -/
theorem takeWriteData_fills (opened : s.dock.stream = some st) (requests : s.dock.requests = [])
    (next : s.dock.rx s.dock.nextBuffer = .empty) (going : st.ended = false) (expected : st.nextExpected ≤ offset)
    (bytes : data.take (st.total - offset) ≠ []) :
    takeWriteData offset data s =
      { s with dock := landPacket st offset data { s.dock with stream := some (st.accept offset data.length) } } := by
  rw [takeWriteData_accepted opened requests next going expected]
  obtain ⟨-, -, -, stream⟩ := landPacket_frame st offset data
    { s.dock with stream := some (st.accept offset data.length) }
  exact finishStream_waits stream (.inr (buffersEmpty_landPacket bytes))

theorem takeWriteData_counts (opened : s.dock.stream = some st) (requests : s.dock.requests = [])
    (next : s.dock.rx s.dock.nextBuffer = .empty) (going : st.ended = false) (expected : st.nextExpected ≤ offset)
    (bytes : data.take (st.total - offset) = []) :
    takeWriteData offset data s =
      finishStream { s with dock := { s.dock with stream := some (st.accept offset data.length) } } := by
  rw [takeWriteData_accepted opened requests next going expected, landPacket_none bytes]

end

/-- Settles O30: the link state, the discards and the three ends of an accepted packet, each by its lemma above. -/
theorem writeDataEntersTheStream : Obligations.WriteDataEntersTheStream := by
  unfold Obligations.WriteDataEntersTheStream
  refine ⟨fun offset data s running up => ?_, fun offset data s running => ⟨?_, fun hold bay => ?_⟩, rxrdy_iff⟩
  · have taken : exec (.writeData offset data) s = .next (takeWriteData offset data (heardTablet s)) := by
      rw [exec_writeData running, takeIntake_up up, intakeTaken]
    dsimp only
    refine ⟨fun why => ?_, fun st opened requests next going expected => ⟨fun bytes => ?_, fun bytes waits => ?_,
      fun bytes ended a b => ?_⟩⟩
    · rw [taken, takeWriteData_discarded (s := heardTablet s) why]
      rfl
    · rw [taken, takeWriteData_fills (s := heardTablet s) opened requests next going expected bytes,
        landPacket_some bytes]
      rfl
    · rw [taken, takeWriteData_counts (s := heardTablet s) opened requests next going expected bytes]
      refine congrArg _ (finishStream_waits rfl (waits.imp_right fun held => ?_))
      exact Bool.eq_false_iff.2 fun empty => not_and_or.2 held ((buffersEmpty_iff _).1 empty)
    · rw [taken, takeWriteData_counts (s := heardTablet s) opened requests next going expected bytes]
      refine congrArg _ (finishStream_ended (st := st.accept offset data.length) rfl ended ?_)
      exact (buffersEmpty_iff _).2 ⟨a, b⟩
  · rintro (absent | attaching | deaf)
    · rw [exec_writeData running, takeIntake_deaf (.inl absent)]
    · rw [exec_writeData running, takeIntake_attaching attaching]
    · rw [exec_writeData running, takeIntake_deaf (.inr deaf)]
  · refine ⟨_, resumeLink_resumedTo hold, ?_⟩
    rw [exec_writeData running, exec_writeData (by rwa [resumeLink_running]), takeIntake_resumed hold bay]

end Sys2Proof.Proofs

/-! ## HELLO starts the link (R159 to R162) -/

namespace Sys2Proof.Proofs

open Sys2Proof.Machine Sys2Proof.Safety

/-! ### Messages of the Dock Link that find room -/

/-- Messages at the end of the Dock Link's outbound queue. -/
def sentDock (msgs : List Message) (s : State) : State :=
  { s with dock := { s.dock with outbound := s.dock.outbound ++ msgs } }

@[simp] theorem sentDock_nil (s : State) : sentDock [] s = s := by simp [sentDock]

theorem sentDock_sentDock (first second : List Message) (s : State) :
    sentDock second (sentDock first s) = sentDock (first ++ second) s := by
  simp [sentDock]

theorem handTablet_of_room {msg : Message} {s : State} (up : s.dock.link = .up) (room : s.dock.outbound.length < 32) :
    handTablet msg s = sentDock [msg] s := if_pos ⟨up, room⟩

/-- The INPUT CHANGE of an input whose tablet flag is set (R160). -/
def flagNotice (input : DiscreteInput × Nat) : Option Message :=
  if input.1.tabletFlag then some (.notice (.inputChange input.2 input.1.qualified input.1.interval)) else none

/-- One step of the reports of set tablet flags. -/
def reportFlag (s : State) (input : DiscreteInput × Nat) : State :=
  if input.1.flag .tablet then
    hand .tablet (.notice (.inputChange input.2 input.1.qualified input.1.interval)) s
  else s

theorem reportFlag_of_room {s : State} (up : s.dock.link = .up) (room : s.dock.outbound.length < 32)
    (input : DiscreteInput × Nat) : reportFlag s input = sentDock (flagNotice input).toList s := by
  have sent := handTablet_of_room (msg := .notice (.inputChange input.2 input.1.qualified input.1.interval)) up room
  cases flag : input.1.tabletFlag <;> simp [reportFlag, flagNotice, DiscreteInput.flag, flag, hand, sent]

theorem foldl_reportFlag (inputs : List (DiscreteInput × Nat)) : ∀ s : State, s.dock.link = .up →
    s.dock.outbound.length + inputs.length ≤ 32 →
    inputs.foldl reportFlag s = sentDock (inputs.filterMap flagNotice) s := by
  induction inputs with
  | nil => simp
  | cons input inputs ih =>
    intro s up room
    rw [List.length_cons] at room
    have sent : (flagNotice input).toList.length ≤ 1 := Option.length_toList_le
    rw [List.foldl_cons, reportFlag_of_room up (by omega), ih (sentDock _ s) up (by simp [sentDock]; omega),
      sentDock_sentDock]
    cases flagged : flagNotice input <;> simp [flagged]

theorem reportFlags_tablet {s : State} (up : s.dock.link = .up)
    (room : s.dock.outbound.length + s.inputs.length ≤ 32) :
    reportFlags .tablet s = sentDock (s.inputs.zipIdx.filterMap flagNotice) s :=
  foldl_reportFlag _ s up (by rwa [List.length_zipIdx])

/-! ### The tablet's key report -/

/-- The tablet's gate is OPEN and events wait (R103). -/
def keysDue (c : KeyChannel) : Bool := decide (c.gate = .opened) && !c.queue.isEmpty

theorem tryReport_tablet_of_room {s : State} (up : s.dock.link = .up) (room : s.dock.outbound.length < 32) :
    tryReport .tablet s =
      let c := s.router.tablet
      { sentDock (if keysDue c then [.keyReport (c.queue.take 8)] else []) s with
        router := { s.router with
          tablet := if keysDue c then { c with queue := c.queue.drop 8, gate := .waiting } else c } } := by
  have dueIff : ReportDue .tablet s ↔ keysDue s.router.tablet = true := by
    simp [ReportDue, keysDue, channel, Room, up, room]
  obtain ⟨due, built⟩ | ⟨idle, same⟩ := tryReport_reported .tablet s
  · have due' := dueIff.1 due
    rw [built, reportBuilt]
    simp only [due', if_true]
    exact (handTablet_eq_handed _ _).symm.trans (handTablet_of_room up room)
  · have idle' := mt dueIff.2 idle
    rw [same]
    simp [idle', sentDock]

/-- A report is one message. -/
theorem tryReport_outbound_le (s : State) :
    (tryReport .tablet s).dock.outbound.length ≤ s.dock.outbound.length + 1 := by
  obtain ⟨-, built⟩ | ⟨-, same⟩ := tryReport_reported .tablet s
  · rw [built, reportBuilt, handed, dockOutbound]
    split <;> simp [withChannel]
  · rw [same]
    exact Nat.le_succ _

/-! ### The link start (R160) -/

/-- The port at the link start, the reply first in its queue. -/
def attached (grace : Nat) (s : State) : State :=
  { s with dock := { s.dock with
      grace := max 100 (min 1000 grace), link := .up, graceTimer := none
      silence := some (s.now + 20), send := some (s.now + 5)
      outbound := [.reply 0x01 .ok (helloValues (max 100 (min 1000 grace)))] } }

theorem linkStart_eq {grace : Nat} {s : State} (silent : s.dock.outbound = []) (down : s.dock.link ≠ .up) :
    linkStart grace s = linkShown s.dock.link .up
      (handed .vehicle (.notice (.tabletState true)) (reportFlags .tablet (routerLinkStart (attached grace s)))) := by
  have start : linkStart grace s = reportLink s.dock.link
      (handVehicle (.notice (.tabletState true)) (reportFlags .tablet (routerLinkStart (attached grace s)))) := by
    rw [linkStart, silent]
    rfl
  rw [start, reportLink_eq_linkShown down (by simp [attached]), handVehicle_eq_handed]

/-- From an empty queue the reply, a key report and the notices of the five inputs find room. -/
theorem linkStart_eq_linkStarted {grace : Nat} {s : State} (silent : s.dock.outbound = []) (down : s.dock.link ≠ .up)
    (five : s.inputs.length = 5) : linkStart grace s = linkStarted grace s := by
  have room : (routerLinkStart (attached grace s)).dock.outbound.length ≤ 2 := tryReport_outbound_le _
  have inputs : (routerLinkStart (attached grace s)).inputs = s.inputs := by simp [attached]
  rw [linkStart_eq silent down, reportFlags_tablet (by simp [attached]) (by simp only [inputs, five]; omega),
    routerLinkStart, tryReport_tablet_of_room rfl (by simp [attached])]
  rfl

/-! ### The departure at the turn, and HELLO in each link state -/

/-- No receive buffer holds bytes and no write of the tablet is under way. -/
def PortIdle (s : State) : Prop :=
  s.dock.bufferA = .empty ∧ s.dock.bufferB = .empty ∧ s.mem.tabletWrite = none

theorem portIdle_of_turn {r : Request} {s : State} (turn : Turn .tablet r s) : PortIdle s := by
  obtain ⟨-, -, idle⟩ := turn
  exact idle

theorem cutDrain_of_idle {s : State} (idle : PortIdle s) : cutDrain s = s := by
  obtain ⟨a, b, -⟩ := idle
  have rx (name : BufferName) : s.dock.rx name = .empty := by cases name <;> assumption
  have oldest : s.dock.oldest = none := by simp [DockPort.oldest, rx]
  simp only [cutDrain, oldest]

theorem cutWrite_of_idle {s : State} (idle : PortIdle s) : cutWrite .tablet s = s := by
  obtain ⟨-, -, write⟩ := idle
  have none_ : s.mem.writeOf .tablet = none := write
  simp only [cutWrite, none_]

theorem departure_taken {s : State} (idle : PortIdle s) : departure (taken .tablet s) = departure s := by
  have cut : portDeparture (taken .tablet s) = portDeparture s := by
    have idle' : PortIdle (taken .tablet s) := idle
    simp only [portDeparture, cutDrain_of_idle idle, cutWrite_of_idle idle, cutDrain_of_idle idle',
      cutWrite_of_idle idle']
    rfl
  simp only [departure, cut]
  rfl

/-- After a departure nothing waits to be sent, and the inputs are as they were. -/
theorem departedTo_silent {s t : State} (departed : DepartedTo s t) : t.dock.outbound = [] ∧ t.inputs = s.inputs := by
  obtain ⟨-, -, dock, -, -, -, -, -, -, -, -, -, -, -, -, -, -, -, -, -, -, -, -, inputs, -⟩ := departed
  exact ⟨by rw [dock], inputs⟩

/-- A departure and a link start (R160). -/
theorem linkStart_departure {grace : Nat} {s : State} (five : s.inputs.length = 5)
    (departed : DepartedTo s (departure s)) :
    linkStart grace (departure s) = linkStarted grace (departure s) := by
  have down := departure_down s
  obtain ⟨silent, inputs⟩ := departedTo_silent departed
  exact linkStart_eq_linkStarted silent down (by rw [inputs, five])

theorem exec_hello_queued {grace : Nat} {s : State}
    (link : s.dock.link = .up ∨ (s.dock.link = .hold ∧ s.bayHigh = false)) :
    exec (.hello grace) s = taking .tablet (.hello grace) (helloTaken grace) s := if_pos link

theorem exec_hello_arrives {grace : Nat} {s : State} (running : s.scanOut.running = true)
    (link : ¬(s.dock.link = .up ∨ (s.dock.link = .hold ∧ s.bayHigh = false))) :
    exec (.hello grace) s = .next (helloArrives grace s) :=
  (if_neg link).trans (whenRunning_of_running running _)

/-- Settles O54: at its arrival or at its turn a HELLO departs where it must and starts the link. -/
theorem helloStartsTheLink : Obligations.HelloStartsTheLink := by
  unfold Obligations.HelloStartsTheLink
  intro grace s running five eight
  refine ⟨fun attaching silent => ?_, fun hold bay => ?_, fun turn up => ?_,
    fun hold bay => ⟨fun turn => ?_, fun wait => ?_⟩, fun absent => ?_⟩
  · rw [exec_hello_arrives running (by simp [attaching]), helloArrives, attaching]
    exact congrArg _ (linkStart_eq_linkStarted silent (by simp [attaching]) five)
  · have departed := departure_departedTo eight (.inr hold)
    refine ⟨_, departed, ?_⟩
    rw [exec_hello_arrives running (by simp [hold, bay]), ← linkStart_departure five departed]
    simp only [helloArrives, hold, bay, if_true]
  · have departed := departure_departedTo eight (.inl up)
    refine ⟨_, departed, ?_⟩
    have stays : (taken .tablet s).dock.link = .up := up
    rw [exec_hello_queued (.inl up), taking_of_turn turn, helloTaken, if_pos stays,
      departure_taken (portIdle_of_turn turn), linkStart_departure five departed]
  · have stays : (taken .tablet s).dock.link ≠ .up := by simp [taken, hold]
    rw [exec_hello_queued (.inr ⟨hold, bay⟩), taking_of_turn turn, helloTaken, if_neg stays]
  · rw [exec_hello_queued (.inr ⟨hold, bay⟩), taking_of_not_turn wait]
  · rw [exec_hello_arrives running (by simp [absent]), helloArrives, absent]

end Sys2Proof.Proofs

/-! ## Requests are read back from what their masters send; the layouts of what the part sends (R175 to R180) -/

namespace Sys2Proof.Proofs

open Sys2Proof.Machine Sys2Proof.Safety

/-! ### Bytes -/

theorem toNat_byte (n : Nat) : (byte n).toNat = n % 256 := BitVec.toNat_ofNat ..

theorem toNat_byte_of_fits {n : Nat} (fits : fitsByte n = true) : (byte n).toNat = n := by
  rw [toNat_byte]
  exact Nat.mod_eq_of_lt (of_decide_eq_true fits)

theorem u16_byte_of_fits {n : Nat} (fits : fitsTwo n = true) : u16 (byte n) (byte (n / 256)) = n := by
  have bound : n < 65536 := of_decide_eq_true fits
  rw [u16, toNat_byte, toNat_byte]
  omega

/-! ### Layouts (R175, R178, R179) -/

theorem le32_eq_twoBytes (n : Nat) : le32 n = twoBytes n ++ twoBytes (n / 65536) := by
  have high : n / 65536 / 256 = n / 16777216 := by omega
  simp [le32, twoBytes, high]

theorem byte_resultCode (result : Result) : byte (resultCode result) = resultByte result := by
  cases result <;> rfl

theorem keyEventBytes_eq (e : KeyEvent) : keyEventBytes e = eventRecord e := by
  rw [keyEventBytes, eventRecord]
  cases e.kind <;> rfl

theorem byte_bitWeight (b : Bool) : byte (bitWeight b 0) = if b then 1 else 0 := by cases b <;> rfl

/-- A notice's code and values. -/
theorem noticeParts_eq (n : Notice) : noticeParts n = (noticeCode n, noticeValues n) := by
  cases n with
  | writeDone pane buffer result missing =>
    rw [noticeValues, le32_eq_twoBytes]
    cases result <;> rfl
  | inputChange input level interval => cases level <;> rfl
  | supplyChange low hot supply panelTemp => cases low <;> cases hot <;> rfl
  | tabletState attached => cases attached <;> rfl
  | paneLive pane frame => rfl
  | flipDone pane front frame => rfl
  | focusGained pane => rfl
  | focusLost pane => rfl
  | alertAcknowledged pane => rfl

/-- The number that 40 bits carry. -/
theorem fiveBytes_value {n : Nat} (bound : n < 1099511627776) :
    (byte n).toNat + 256 * (byte (n / 256)).toNat + 65536 * (byte (n / 65536)).toNat
      + 16777216 * (byte (n / 16777216)).toNat + 4294967296 * (byte (n / 4294967296)).toNat = n := by
  simp only [toNat_byte]
  omega

/-- The window of R179 as one number. -/
theorem windowBytes_vehicle {w : Window} (left : w.left < 1024) (top : w.top < 512) (width : w.width < 1024)
    (height : w.height < 512) :
    ∃ b0 b1 b2 b3 b4 : Byte, windowBytes .vehicle w = [b0, b1, b2, b3, b4] ∧
      b0.toNat + 256 * b1.toNat + 65536 * b2.toNat + 16777216 * b3.toNat + 4294967296 * b4.toNat =
        w.left + 1024 * w.top + 524288 * w.width + 536870912 * w.height := by
  refine ⟨_, _, _, _, _, rfl, (fiveBytes_value (by omega)).trans ?_⟩
  omega

/-! ### Requests of the tablet (R175, R178) -/

theorem readCells_flatMap (cells : List TextCell) :
    readCells (cells.flatMap fun c => [c.code, c.attr]) = some cells := by
  induction cells with
  | nil => rfl
  | cons cell cells ih =>
    rw [List.flatMap_cons]
    simp [readCells, ih]

theorem length_cells (cells : List TextCell) :
    (cells.flatMap fun c => [c.code, c.attr]).length = 2 * cells.length := by
  simp [List.length_flatMap, Nat.mul_comm]

/-- Each option bit is read where it was sent. -/
theorem tabletOptions_read (ops : ClaimOps) :
    (byte (tabletOptions ops)).getLsbD 0 = ops.acceptsKeys ∧ (byte (tabletOptions ops)).getLsbD 1 = ops.shown ∧
      (byte (tabletOptions ops)).getLsbD 2 = ops.transparentBit ∧
      decide (8 ≤ (byte (tabletOptions ops)).toNat) = ops.strayOptions := by
  unfold tabletOptions
  generalize ops.acceptsKeys = a, ops.shown = b, ops.transparentBit = c, ops.strayOptions = d
  revert a b c d
  decide

/-- The layout of TEXT PUT (R178). -/
theorem readPayload_cells (p i r c : Byte) (cells : List Byte) :
    readPayload 0x33 (p :: i :: r :: c :: cells) =
      if cells.length ≤ 512 then
        (readCells cells).map fun cs => .request (.textPut p.toNat i.toNat r.toNat c.toNat cs)
      else none := rfl

section
variable {r : Request} {payload : List Byte}

theorem requestCode_sent (sent : tabletPayload r = some payload) : fitsByte (requestCode r) = true := by
  cases r with
  | refused code result => cases sent
  | _ => rfl

theorem length_payload_sent (fits : r.fits .tablet = true) (sent : tabletPayload r = some payload) :
    payload.length ≤ 1024 := by
  cases r with
  | textPut pane buffer row column cells =>
    cases sent
    simp only [Request.fits, Bool.and_eq_true, decide_eq_true_eq] at fits
    obtain ⟨-, cells_⟩ := fits
    simp only [List.length_append, length_cells, List.length_cons, List.length_nil]
    omega
  | claim ops =>
    cases sent
    cases ops.transparent <;> simp [le16Four, le16]
  | refused code result => cases sent
  | textData pane buffer row column attr codes => cases sent
  | _ => cases sent; simp [le16Four, le16]

theorem readPayload_claim {ops : ClaimOps} (fits : (Request.claim ops).fits .tablet = true)
    (sent : tabletPayload (.claim ops) = some payload) :
    readPayload 0x10 payload = some (.request (.claim ops)) := by
  obtain ⟨keys, shown, transparentBit, stray⟩ := tabletOptions_read ops
  simp only [Request.fits, ClaimOps.fits, Window.all, Bool.and_eq_true] at fits
  cases given : ops.transparent with
  | none =>
    simp only [tabletPayload, given] at sent
    cases sent
    change some (Intake.request (.claim (readClaim _ _ _ _ _ _ _ none))) = _
    simp only [readClaim, readWindow, toNat_byte_of_fits, u16_byte_of_fits, fits, keys, shown, transparentBit, stray,
      ← given]
  | some value =>
    simp only [given, Option.all_some] at fits
    simp only [tabletPayload, given] at sent
    cases sent
    change some (Intake.request (.claim (readClaim _ _ _ _ _ _ _ (some _)))) = _
    simp only [readClaim, readWindow, toNat_byte_of_fits, u16_byte_of_fits, fits, keys, shown, transparentBit, stray,
      ← given]

theorem readPayload_sent (fits : r.fits .tablet = true) (sent : tabletPayload r = some payload) :
    readPayload (requestCode r) payload = some (.request r) := by
  cases r with
  | refused code result => cases sent
  | textData pane buffer row column attr codes => cases sent
  | queryInputs input =>
    cases sent
    rw [Option.isNone_iff_eq_none.1 fits]
    rfl
  | queryLight page =>
    cases sent
    rw [Option.isNone_iff_eq_none.1 fits]
    rfl
  | keyAck => cases sent; rfl
  | queryLines => cases sent; rfl
  | wake => cases sent; rfl
  | claim ops => exact readPayload_claim fits sent
  | textPut pane buffer row column cells =>
    cases sent
    simp only [Request.fits, Bool.and_eq_true, decide_eq_true_eq] at fits
    have short : (cells.flatMap fun c => [c.code, c.attr]).length ≤ 512 := by
      rw [length_cells]
      omega
    refine (readPayload_cells (byte pane) (byte buffer) (byte row) (byte column) _).trans ?_
    change (if (cells.flatMap fun c => [c.code, c.attr]).length ≤ 512 then
      (readCells (cells.flatMap fun c => [c.code, c.attr])).map _ else none) = _
    rw [if_pos short, readCells_flatMap]
    simp only [Option.map_some, toNat_byte_of_fits, fits]
  | _ =>
    cases sent
    simp only [Request.fits, Window.all, Rect.fits, Bool.and_eq_true] at fits
    change some (Intake.request _) = _
    simp only [readWindow, readRect, toNat_byte_of_fits, u16_byte_of_fits, fits]

theorem tabletKind_sent (sent : tabletPayload r = some payload) : tabletKind (requestCode r) = true := by
  cases r with
  | refused code result => cases sent
  | _ => rfl

end

/-- What the tablet sends passes the CRC and length check (R158 step 1). -/
theorem openPacket_packet {kind : Nat} {payload : List Byte} (code : fitsByte kind = true)
    (short : payload.length ≤ 1024) : openPacket (packet kind payload) = some (kind, 0, payload) := by
  have length : u16 (byte payload.length) (byte (payload.length / 256)) = payload.length :=
    u16_byte_of_fits (decide_eq_true (by omega))
  have opened := openPacket_of_valid (kind := byte kind) (flags := 0) (l0 := byte payload.length)
    (l1 := byte (payload.length / 256)) (payload := payload) ⟨rfl, rfl, length, short⟩
  rw [toNat_byte_of_fits code] at opened
  exact opened

/-! ### Requests of the vehicle unit (R169, R179) -/

/-- Each option bit is read where it was sent. -/
theorem vehicleOptions_read (ops : ClaimOps) :
    (byte (vehicleOptions ops)).getLsbD 0 = (ops.cls == 1) ∧ (byte (vehicleOptions ops)).getLsbD 1 = ops.acceptsKeys ∧
      (byte (vehicleOptions ops)).getLsbD 2 = ops.shown ∧
      (byte (vehicleOptions ops)).getLsbD 3 = (ops.buffers == 2) ∧
      (byte (vehicleOptions ops)).getLsbD 4 = (ops.kind == 0) ∧
      decide (32 ≤ (byte (vehicleOptions ops)).toNat) = ops.strayOptions := by
  unfold vehicleOptions
  generalize (ops.cls == 1) = a, ops.acceptsKeys = b, ops.shown = c, (ops.buffers == 2) = d, (ops.kind == 0) = e,
    ops.strayOptions = f
  revert a b c d e f
  decide

theorem readVehicleClaim_sent {ops : ClaimOps} (kind : ops.kind ≤ 1) (cls : ops.cls ≤ 1)
    (buffers : ops.buffers = 1 ∨ ops.buffers = 2) (plain : ops.transparent = none)
    (bit : ops.transparentBit = false) :
    readVehicleClaim (byte (vehicleOptions ops)) ops.window ops.sizeX ops.sizeY = ops := by
  obtain ⟨alert, keys, shown, double, pixel, stray⟩ := vehicleOptions_read ops
  have kind_ : (if ops.kind == 0 then 0 else 1) = ops.kind := by
    split_ifs with same <;> simp only [beq_iff_eq] at same <;> omega
  have cls_ : (if ops.cls == 1 then 1 else 0) = ops.cls := by
    split_ifs with same <;> simp only [beq_iff_eq] at same <;> omega
  have buffers_ : (if ops.buffers == 2 then 2 else 1) = ops.buffers := by
    split_ifs with same <;> simp only [beq_iff_eq] at same <;> omega
  simp only [readVehicleClaim, alert, keys, shown, double, pixel, stray, kind_, cls_, buffers_, ← plain, ← bit]

section
variable {r : Request} {operands : List Byte}

theorem vehicleCode_sent (sent : vehicleOperands r = some operands) : vehicleCode (requestCode r) = true := by
  cases r with
  | refused code result => cases sent
  | hello grace => cases sent
  | writeBegin pane buffer rect => cases sent
  | fillRect pane buffer rect colour => cases sent
  | textPut pane buffer row column cells => cases sent
  | textData pane buffer row column attr codes => cases sent
  | _ => rfl

theorem readOperands_sent (fits : r.fits .vehicle = true) (sent : vehicleOperands r = some operands) :
    operands.length ≤ 7 ∧ readOperands (requestCode r) operands = some r := by
  cases r with
  | refused code result => cases sent
  | hello grace => cases sent
  | writeBegin pane buffer rect => cases sent
  | fillRect pane buffer rect colour => cases sent
  | textPut pane buffer row column cells => cases sent
  | textData pane buffer row column attr codes => cases sent
  | queryInputs input =>
    obtain ⟨n, rfl, fit⟩ := (Option.any_eq_true _ _).1 fits
    cases sent
    exact ⟨by simp, congrArg (fun i => some (Request.queryInputs (some i))) (toNat_byte_of_fits fit)⟩
  | queryLight page =>
    obtain ⟨n, rfl, fit⟩ := (Option.any_eq_true _ _).1 fits
    cases sent
    exact ⟨by simp, congrArg (fun i => some (Request.queryLight (some i))) (toNat_byte_of_fits fit)⟩
  | keyAck => cases sent; exact ⟨by decide, rfl⟩
  | queryLines => cases sent; exact ⟨by decide, rfl⟩
  | wake => cases sent; exact ⟨by decide, rfl⟩
  | claim ops =>
    cases sent
    refine ⟨by simp, congrArg some (congrArg Request.claim ?_)⟩
    simp only [Request.fits, ClaimOps.fits, Window.all, Bool.and_eq_true, Bool.or_eq_true, decide_eq_true_eq,
      beq_iff_eq, Option.isNone_iff_eq_none, Bool.not_eq_true'] at fits
    simp only [toNat_byte_of_fits, fits]
    obtain ⟨⟨⟨⟨⟨⟨⟨kind, cls⟩, buffers⟩, -⟩, -⟩, -⟩, plain⟩, bit⟩ := fits
    exact readVehicleClaim_sent kind cls buffers plain bit
  | _ =>
    cases sent
    simp only [Request.fits, Window.all, Bool.and_eq_true] at fits
    refine ⟨by simp [le16], ?_⟩
    change some _ = _
    simp only [toNat_byte_of_fits, u16_byte_of_fits, fits]

end

/-! ### Each reading, end to end -/

theorem intakeOf_sent {r : Request} {payload : List Byte} (fits : r.fits .tablet = true)
    (sent : tabletPayload r = some payload) : intakeOf (requestCode r) 0 payload = .request r :=
  intakeOf_read (tabletKind_sent sent) rfl (readPayload_sent fits sent)

theorem readRequestFrame_sent {r : Request} {data : List Byte} (fits : r.fits .vehicle = true)
    (sent : vehicleData r = some data) : data.length ≤ 8 ∧ readRequestFrame data = r := by
  obtain ⟨operands, given, rfl⟩ := Option.map_eq_some_iff.1 sent
  obtain ⟨short, read⟩ := readOperands_sent fits given
  have defined := vehicleCode_sent given
  have code : (byte (requestCode r)).toNat = requestCode r := by
    apply toNat_byte_of_fits
    cases r with
    | refused code result => cases given
    | _ => rfl
  refine ⟨Nat.succ_le_succ short, ?_⟩
  rw [readRequestFrame, code, if_pos defined, read, Option.getD_some]

theorem readTextFrame_sent {n b row column : Nat} {attr : Byte} {codes : List Byte}
    (fits : (Request.textData n b row column attr codes).fits .vehicle = true) :
    (textFrameData n b row column attr codes).length ≤ 8 ∧
      readTextFrame (textFrameData n b row column attr codes) = .textData n b row column attr codes := by
  simp only [Request.fits, Bool.and_eq_true, decide_eq_true_eq] at fits
  obtain ⟨⟨⟨⟨⟨-, pane⟩, buffer⟩, row_⟩, column_⟩, short⟩ := fits
  have place : (byte (n + 16 * b)).toNat = n + 16 * b := by
    rw [toNat_byte]
    omega
  refine ⟨by simp only [textFrameData, List.length_append, List.length_cons, List.length_nil]; omega, ?_⟩
  simp only [textFrameData, List.cons_append, List.nil_append, readTextFrame, place, toNat_byte_of_fits row_,
    toNat_byte_of_fits column_]
  rw [if_pos (by omega)]
  congr 1 <;> omega

/-- Settles O60: the layouts by their equations, and each reading by the lemma of its link. -/
theorem requestsAreReadBack : Obligations.RequestsAreReadBack := by
  unfold Obligations.RequestsAreReadBack
  have records (events : List KeyEvent) : events.flatMap keyEventBytes = events.flatMap eventRecord :=
    congrArg events.flatMap (funext keyEventBytes_eq)
  refine ⟨fun kind payload => rfl, fun base code result values => ?_, fun base events => ?_, fun base n => ?_, rfl,
    fun w left top width height => ⟨rfl, windowBytes_vehicle left top width height⟩, fun r payload fits sent => ?_,
    fun r data fits sent => readRequestFrame_sent fits sent,
    fun n b row column attr codes fits => readTextFrame_sent fits⟩
  · rw [messagePacket, messageFrame, byte_resultCode]
    exact ⟨rfl, rfl⟩
  · rw [messagePacket, messageFrame, records]
    exact ⟨rfl, rfl⟩
  · rw [messagePacket, messageFrame, noticeParts_eq]
    exact ⟨rfl, rfl⟩
  · exact ⟨openPacket_packet (requestCode_sent sent) (length_payload_sent fits sent), intakeOf_sent fits sent⟩

end Sys2Proof.Proofs
